-- ==== Sys2Proof/Word.lean ====
section
/-! DEFINITION. The part's word: one byte of a slot. Every other quantity of the GA-816 is an integer
("All arithmetic is on integers", 00_scope.md, Arithmetic), so it is a `Nat` or an `Int` of Lean and not a
bit vector; bit vectors stand only where the manual handles bits (slot bytes, masks, the strap). -/

namespace Sys2Proof

/-- One byte as it travels in a slot (R146). -/
abbrev Byte := BitVec 8

end Sys2Proof
end

