-- ==== Sys2Proof/Syntax.lean ====
section
/-! DEFINITION. The commands of the GA-816: one constructor of `Instr` for each row of spec/opcode_table.json, with
the operands of the row. The part is a block on a serial ring: a command is a slot or a run of slots that arrives at
the upstream port, a change of a discrete pin, or a piece of work the part takes at a cycle start. -/

namespace Sys2Proof

/-- CH0 to CH7. -/
abbrev Chan := Fin 8

/-- PUMP A and PUMP B. -/
inductive Pump where
  | a
  | b
  deriving DecidableEq, Repr

/-- WP0 to WP15. -/
abbrev Point := Fin 16

/-- A slot: four data bytes and a check byte, in the order they travel (R146). -/
structure Slot where
  b0 : Byte
  b1 : Byte
  b2 : Byte
  b3 : Byte
  check : Byte
  deriving DecidableEq, Repr

/-- Eight consecutive slots: a request window (positions 1 to 8) or a reply window (positions 9 to 16). -/
structure Window where
  s1 : Slot
  s2 : Slot
  s3 : Slot
  s4 : Slot
  s5 : Slot
  s6 : Slot
  s7 : Slot
  s8 : Slot
  deriving DecidableEq, Repr

/-- The eight slots of a window in the order they pass. -/
def Window.slots (w : Window) : List Slot := [w.s1, w.s2, w.s3, w.s4, w.s5, w.s6, w.s7, w.s8]

/-- One piece of the work a cycle start sets going (R154): a receiver and the part of its work that the manual
orders as one. `deviceReset` is the one piece that another event sets going: the request reset that follows the end
of a RESET_PART's reply (R180). -/
inductive CycleWork where
  /-- Input Conversion ages every record (R137). -/
  | ageing
  /-- The Line Port carries out a pending slot map swap (R161). -/
  | mapSwap
  /-- The Report Composer carries out a pending swap of an empty list (R193). -/
  | listSwap
  /-- The Wall Monitor finds a point stale (R117). -/
  | wallStale (w : Point)
  /-- A channel finds a required input stale (R141). -/
  | inputStale (c : Chan)
  /-- A Profile Generator takes its staged pace and advances its phase (R31 to R34). -/
  | profile (c : Chan)
  /-- A channel makes its echo checks (R144). -/
  | echo (c : Chan)
  /-- A Channel Sequencer takes up a step or does its step's cycle-start work (R11 and the step chapters). -/
  | sequencer (c : Chan)
  /-- A Pump Arbiter counts its switch or its tenure (R80, R81). -/
  | arbiter (p : Pump)
  /-- The device reset of a RESET_PART whose reply has left or been dropped (R180). -/
  | deviceReset
  deriving DecidableEq, Repr

/-- The two moments at which a report list swap is carried out (R193). -/
inductive SwapMoment where
  /-- At a cycle start, the active list being empty. -/
  | cycleStart
  /-- At the wrap of the list position, while the REPORT position `pos` is filled. -/
  | reportSlot (pos : Nat) (slot : Slot)
  deriving DecidableEq, Repr

/-- The commands. A row that names the arrival of a slot carries the slot, and where the row is of a position of the line
cycle, the position (which must be the one the Line Port counts, R148); a
request row carries its eight-slot request window; a row that names work of a cycle start carries the channel, pump
or point it is done for; the sync positions carry the order in which the receivers take the cycle start, because the
manual leaves that order open and gives the outcome of each. The rows at which a reset ends carry the levels of the
strap and of PANEL_HOLD_IN at that moment. -/
inductive Instr where
  | powerOn (strap : BitVec 6) (panel : Bool)
  | resetInAssert
  | resetInRelease (strap : BitVec 6) (panel : Bool)
  | deviceReset (strap : BitVec 6) (panel : Bool)
  | panelHoldAssert
  | panelHoldRelease
  | lossOfSignal
  | huntSlot (slot : Slot)
  | confirmSyncPosition (slot : Slot) (order : List CycleWork)
  | lockedSyncPosition (slot : Slot) (order : List CycleWork)
  | flywheelSyncPosition (slot : Slot) (order : List CycleWork)
  | flywheelEnd (slot : Slot)
  | profileStep (c : Chan)
  | segmentEnd (c : Chan)
  | takeUpStep (c : Chan)
  | lockoffRelease (c : Chan)
  | holdMark (c : Chan)
  | holdComplete (c : Chan)
  | rampUnsettled (c : Chan)
  | awaitTimer (c : Chan)
  | switchComplete (p : Pump)
  | tenureExpiry (p : Pump)
  | sampleStale (c : Chan)
  | wallPointStale (w : Point)
  | nodeSilent (c : Chan)
  | slotMapSwap
  | reportListSwap (moment : SwapMoment)
  | replyWindow (w : Window)
  | replyLeft
  | sampleSlot (pos : Nat) (slot : Slot)
  | overload (pos : Nat) (slot : Slot)
  | rampSettled (pos : Nat) (slot : Slot)
  | refusal (pos : Nat) (slot : Slot)
  | overpressure (pos : Nat) (slot : Slot)
  | tensionLimit (pos : Nat) (slot : Slot)
  | jackCommand (pos : Nat) (slot : Slot)
  | winchCommand (pos : Nat) (slot : Slot)
  | pumpCommand (pos : Nat) (slot : Slot)
  | reportSlot (pos : Nat) (slot : Slot)
  | ignoredRequest (w : Window)
  | unknownRequest (w : Window)
  | loadEntryHeader (w : Window)
  | loadEntryStep (w : Window)
  | loadEntrySegment (w : Window)
  | loadEntryMarkset (w : Window)
  | loadEntryScale (w : Window)
  | loadEntryChannelConfig (w : Window)
  | loadEntryWallPoint (w : Window)
  | loadEntrySlotMap (w : Window)
  | loadEntryReportList (w : Window)
  | loadEntryPartConfig (w : Window)
  | readEntry (w : Window)
  | swapBanksSlotMap (w : Window)
  | swapBanksReportList (w : Window)
  | swapBanksBoth (w : Window)
  | startProgram (w : Window)
  | abortProgram (w : Window)
  | skipStep (w : Window)
  | freeze (w : Window)
  | resume (w : Window)
  | release (w : Window)
  | retargetAtEnd (w : Window)
  | retargetNow (w : Window)
  | setPace (w : Window)
  | readChannel (w : Window)
  | readPump (w : Window)
  | readRecord (w : Window)
  | takeRecord (w : Window)
  | setBaseline (w : Window)
  | clearWallStop (w : Window)
  | readStatus (w : Window)
  | clearNotices (w : Window)
  | resetPart (w : Window)
  deriving DecidableEq, Repr

end Sys2Proof
end

