-- ==== Sys2Proof/Decode.lean ====
section
/-! DEFINITION. The commands that spec/opcode_table.json spells in bits: none. Every row of the table has an empty list
of fields and no bits, because a command of this block is an event with slots or levels as its operands. -/

namespace Sys2Proof

/-- The command that a word of the table spells: no row gives bits, so no word spells one. -/
def decodeTableWord (_nbits _w : Nat) : Option Instr := none

end Sys2Proof
end

