-- ==== Sys2Proof/Config.lean ====
section
/-! DEFINITION. What the manual leaves open and the model leaves free: opaque constants that nothing in Lean can
evaluate. The numbers the manual does fix stand with the block that owns them. -/

namespace Sys2Proof.Config

/-- DESIGN CHOICE (log entry 7). R172 returns an EMPTY entry "as EMPTY" and no rule gives the bytes that carry it in
a READ_ENTRY reply. They are a free value: some bytes that may depend on the table's selector (R197: 0 to 9). -/
opaque emptyEntryBytes : Nat → List Byte

/-- DESIGN CHOICE (log entry 25). R166 calls for the payload length "Line Formats and Pins gives", and for a
LOAD_ENTRY of the step store or slot map whose entry kind is undefined no length is given. Whether the length check
then refuses the load (so that BAD_VALUE comes before the index check) is a free value of the entry kind byte. -/
opaque unknownKindFailsLength : Nat → Bool

end Sys2Proof.Config
end

