-- ==== Sys2Proof/Machine/Entries.lean ====
section
/-! DEFINITION. The entries of the part's tables and the names they are made of, as plain data: the Program Store
(R1 to R3, R28), the channel configuration (R24), the scale table (R133), the wall points (R114), the slot map
(R160), the report list (R190) and the part configuration (R179). -/

namespace Sys2Proof.Machine

/-! ### Program Store -/

/-- R2: the course of a failed step. -/
inductive OnFail where
  | halt
  | divert
  | cont
  deriving DecidableEq, Repr

/-- R28: how a segment sets the setpoint accumulator when it is loaded. -/
inductive SegMode where
  | absolute
  | cont
  deriving DecidableEq, Repr

/-- R28: a segment; slope in 1/256 base unit per profile step, duration in profile steps. -/
structure Segment where
  mode : SegMode
  start : Nat
  slope : Int
  duration : Nat
  deriving DecidableEq, Repr

/-- R1: a program header. -/
structure Header where
  tag : Nat
  stepFirst : Nat
  stepCount : Nat
  segFirst : Nat
  segCount : Nat
  deriving DecidableEq, Repr

structure PayoutStep where
  target : Nat
  segOffset : Nat
  segCount : Nat
  deriving DecidableEq, Repr

structure InjectStep where
  targetVolume : Nat
  demandCeiling : Nat
  pressureCeiling : Nat
  refusalPressure : Nat
  refusalFlow : Nat
  refusalCount : Nat
  acceptRefusal : Bool
  deriving DecidableEq, Repr

structure RampStep where
  segOffset : Nat
  segCount : Nat
  settleBand : Nat
  settleNeed : Nat
  settleLimit : Nat
  deriving DecidableEq, Repr

structure HoldStep where
  duration : Nat
  markSet : Nat
  markA : Nat
  markB : Nat
  kFactor : Nat
  creepLimit : Nat
  tolerance : Nat
  deriving DecidableEq, Repr

structure LockoffStep where
  settleCycles : Nat
  releaseSlope : Nat
  seatThreshold : Nat
  allowedLoss : Nat
  deriving DecidableEq, Repr

/-- R2, R101: what a CHECK tests. -/
inductive Quantity where
  | jackLoad
  | anchorLoad
  | jackStroke
  | groutPressure
  | groutFlow
  | winchPayout
  | winchTension
  | peakLoad
  | groutVolume
  | payoutLength
  | lastCreep
  deriving DecidableEq, Repr

structure CheckStep where
  quantity : Quantity
  low : Int
  high : Int
  deriving DecidableEq, Repr

/-- R106: the sources of an AWAIT, in the order in which they decide (R107). -/
inductive AwaitSource where
  | timer
  | release
  | peer
  | wallClear
  deriving DecidableEq, Repr

/-- A subset of the four sources. -/
structure SourceSet where
  timer : Bool
  release : Bool
  peer : Bool
  wallClear : Bool
  deriving DecidableEq, Repr

structure AwaitStep where
  releaseSet : SourceSet
  divertSet : SourceSet
  timer : Nat
  deriving DecidableEq, Repr

/-- R2: the nine step kinds with the fields of each. -/
inductive StepBody where
  | payout (p : PayoutStep)
  | inject (p : InjectStep)
  | ramp (p : RampStep)
  | hold (p : HoldStep)
  | lockoff (p : LockoffStep)
  | check (p : CheckStep)
  | await (p : AwaitStep)
  | signal (target : Chan)
  | finish
  deriving DecidableEq, Repr

/-- R2: a step store entry. -/
structure Step where
  onFail : OnFail
  divert : Nat
  body : StepBody
  deriving DecidableEq, Repr

/-- R3: a mark set, its times in the order they are held. -/
abbrev MarkSet := List Nat

/-! ### Channel configuration -/

/-- R24: the channel configuration; `pump` is the pump binding, absent for NONE. -/
structure ChannelConfig where
  pump : Option Pump
  staleLimit : Nat
  echoLimit : Nat
  loadCeiling : Nat
  kp : Nat
  ki : Nat
  imax : Nat
  deadband : Nat
  overloadLimit : Nat
  overloadPersistence : Nat
  pgain : Nat
  overMargin : Nat
  overPersistence : Nat
  tensionLimit : Nat
  tensionPersistence : Nat
  deriving DecidableEq, Repr

/-! ### Inputs and the slot map -/

/-- R133: a scale table entry. -/
structure ScaleEntry where
  offset : Int
  gain : Int
  shift : Nat
  deriving DecidableEq, Repr

/-- The nine measurands of a channel target, in the order of R160. -/
inductive Measurand where
  | jackLoad
  | anchorLoad
  | jackStroke
  | groutPressure
  | groutFlow
  | winchPayout
  | winchTension
  | jackEcho
  | winchEcho
  deriving DecidableEq, Repr

/-- R135: the targets of a sample. -/
inductive Target where
  | chan (c : Chan) (m : Measurand)
  | pumpEcho (p : Pump)
  | wallMove (w : Point)
  deriving DecidableEq, Repr

/-- R160: the commands of the slot map. -/
inductive Command where
  | jack (c : Chan)
  | winch (c : Chan)
  | pump (p : Pump)
  deriving DecidableEq, Repr

/-- R160: a slot map entry. -/
inductive SlotEntry where
  | pass
  | sample (t : Target) (scale : Nat)
  | command (k : Command)
  | report
  deriving DecidableEq, Repr

/-! ### Wall points -/

/-- R114: the configuration of a wall point. -/
structure WallConfig where
  enable : Bool
  baseline : Int
  warn : Nat
  stop : Nat
  hysteresis : Nat
  deriving DecidableEq, Repr

/-! ### Report list -/

inductive ChanItem where
  | setpoint
  | jackLoad
  | jackStroke
  | valveDemand
  | groutPressure
  | groutVolume
  | payout
  | tension
  | state
  deriving DecidableEq, Repr

inductive PumpItem where
  | state
  | demand
  deriving DecidableEq, Repr

inductive PointItem where
  | move
  | state
  deriving DecidableEq, Repr

inductive PartItem where
  | status
  | cycle
  deriving DecidableEq, Repr

/-- R190: a source with one of its own items. -/
inductive ReportItem where
  | chan (c : Chan) (i : ChanItem)
  | pump (p : Pump) (i : PumpItem)
  | point (w : Point) (i : PointItem)
  | part (i : PartItem)
  deriving DecidableEq, Repr

/-- R190: a report list entry. -/
structure ReportEntry where
  item : ReportItem
  changeOnly : Bool
  deriving DecidableEq, Repr

/-! ### Part configuration -/

/-- A set of the ten notice kinds, bit 0 for the first listed in R188 (R196: a set is a bit mask). -/
abbrev NoticeSet := BitVec 10

/-- R179: the part configuration. -/
structure PartConfig where
  warnScale : Nat
  wallStale : Nat
  tenure : Nat
  switchTime : Nat
  flywheel : Nat
  mask : NoticeSet
  deriving DecidableEq, Repr

/-- R171: the tables, in the order of their selectors (R197: HEADER 0 to PART_CONFIG 9). -/
inductive Table where
  | header
  | step
  | segment
  | markset
  | scale
  | channelConfig
  | wallPoint
  | slotMap
  | reportList
  | partConfig
  deriving DecidableEq, Repr

end Sys2Proof.Machine
end

