-- ==== Sys2Proof/Machine/State.lean ====
section
/-! DEFINITION. The state of the GA-816 as plain data: every register, table, counter, flag, queue and pin the manual
gives the part, block by block, and the machine right after power-on. -/

namespace Sys2Proof.Machine

/-! ### Why a step can stop: it never does -/

/-- The part never stops with a fault of its own. A fault of the manual is a state of a channel (R16) and a refused
request is a reply (R166); both are next states. The type has no constructor. -/
inductive Fault where
  deriving DecidableEq, Repr

/-- Reasons to refuse a command. No meaning of this model raises one. -/
inductive Refusal where
  /-- A command that has no meaning yet; raised by an arm of `exec` only; safe. No arm raises it. -/
  | notModelled (mnemonic : String)
  deriving DecidableEq, Repr

/-! ### Channel Sequencer -/

inductive ChanState where
  | idle
  | running
  | frozen
  | faulted
  | filing
  deriving DecidableEq, Repr

/-- R15: six safety faults and seven step failures, in the order of the rule's table. -/
inductive FaultCause where
  | overload
  | overpressure
  | tensionLimit
  | nodeSilent
  | badStep
  | badBinding
  | checkFailed
  | noData
  | rampUnsettled
  | loadDrift
  | creepExceeded
  | lockoffLoss
  | refusal
  deriving DecidableEq, Repr

/-- R17, R121ff: the five freeze causes. -/
inductive FreezeCause where
  | supervisor
  | panel
  | wallStop
  | lineLost
  | sampleStale
  deriving DecidableEq, Repr

/-- A channel's freeze-cause set. -/
structure FreezeSet where
  supervisor : Bool
  panel : Bool
  wallStop : Bool
  lineLost : Bool
  sampleStale : Bool
  deriving DecidableEq, Repr

inductive StepPhase where
  | none
  | takeUp
  | active
  deriving DecidableEq, Repr

inductive RampPhase where
  | profiling
  | settling
  deriving DecidableEq, Repr

inductive LockoffPhase where
  | seating
  | releasing
  deriving DecidableEq, Repr

/-- R70: a channel's place at its pump's Arbiter. -/
inductive Standing where
  | none
  | queued
  | switching
  | granted
  deriving DecidableEq, Repr

inductive EndReason where
  | volume
  | refusal
  deriving DecidableEq, Repr

/-- R53. -/
structure RampWork where
  phase : RampPhase
  settle : Nat
  unsettled : Nat
  deriving DecidableEq, Repr

/-- R58. -/
structure HoldWork where
  elapsed : Nat
  marks : List (Option Nat)
  drift : Bool
  interrupted : Nat
  deriving DecidableEq, Repr

/-- R64. -/
structure LockoffWork where
  phase : LockoffPhase
  settle : Nat
  load : Option Nat
  deriving DecidableEq, Repr

/-- R69. -/
structure InjectWork where
  standing : Standing
  volume : Nat
  refusals : Nat
  overs : Nat
  endReason : Option EndReason
  deriving DecidableEq, Repr

/-- R89. -/
structure PayoutWork where
  startLength : Option Nat
  progress : Nat
  tension : Nat
  hold : Bool
  deriving DecidableEq, Repr

/-- R102. -/
structure CheckWork where
  captured : Option Int
  deriving DecidableEq, Repr

/-- R105. -/
structure AwaitWork where
  elapsed : Nat
  latch : Bool
  deriving DecidableEq, Repr

/-- The working fields of the current step, by its kind; `none` outside phase ACTIVE. -/
inductive StepWork where
  | none
  | payout (w : PayoutWork)
  | inject (w : InjectWork)
  | ramp (w : RampWork)
  | hold (w : HoldWork)
  | lockoff (w : LockoffWork)
  | check (w : CheckWork)
  | await (w : AwaitWork)
  | signal
  | finish
  deriving DecidableEq, Repr

inductive Verdict where
  | pass
  | fail
  | incomplete
  deriving DecidableEq, Repr

/-- R63, R183: one hold result. -/
structure HoldResult where
  verdict : Verdict
  ks : Option Int
  marks : List (Option Nat)
  drift : Bool
  interrupted : Nat
  deriving DecidableEq, Repr

inductive RunOutcome where
  | completed
  | aborted
  | abandoned
  deriving DecidableEq, Repr

/-- R23, R183: an installation record, under construction or closed. A closed one has its outcome and end count. -/
structure Record where
  channel : Chan
  tag : Nat
  outcome : Option RunOutcome
  fault : Option FaultCause
  startCount : Nat
  endCount : Option Nat
  peakLoad : Nat
  lockoffLoad : Option Nat
  residualLoad : Option Nat
  groutVolume : Option Nat
  groutEnd : Option EndReason
  payoutLength : Option Nat
  holdCount : Nat
  holds : List HoldResult
  failedChecks : Nat
  overrides : Nat
  lastIndex : Nat
  deriving DecidableEq, Repr

/-! ### Profile Generator and Jack Loop -/

inductive ProfileStatus where
  | inactive
  | active
  | finished
  deriving DecidableEq, Repr

/-- R27. -/
structure Profile where
  status : ProfileStatus
  acc : Nat
  ceiling : Nat
  working : Option Segment
  remaining : Nat
  reload : Option Segment
  next : Nat
  segsLeft : Nat
  staged : Option Segment
  phase : Nat
  pace : Nat
  stagedPace : Option Nat
  limited : Bool
  deriving DecidableEq, Repr

/-- R45. -/
structure JackLoop where
  integral : Int
  overloads : Nat
  lastValve : Int
  deriving DecidableEq, Repr

/-- One channel: its Channel Sequencer, Profile Generator, Jack Loop and configuration. The last two flags are the
model's own: they mark what happened at the present cycle start (R11, R32, R56). -/
structure Channel where
  state : ChanState
  freeze : FreezeSet
  fault : Option FaultCause
  program : Option Nat
  index : Nat
  phase : StepPhase
  work : StepWork
  pendingProgram : Option Nat
  peer : Bool
  config : ChannelConfig
  record : Option Record
  filed : Option Record
  lastCreep : Option Int
  wedge : Bool
  lastWinch : Nat
  lastBrake : Bool
  profile : Profile
  jack : JackLoop
  tookUp : Bool
  becameSettling : Bool
  deriving DecidableEq, Repr

/-! ### Pump Arbiter -/

/-- R77: the pump state with the holder it has in SWITCHING and GRANTED. -/
inductive PumpState where
  | free
  | switching (holder : Chan)
  | granted (holder : Chan)
  deriving DecidableEq, Repr

/-- R77. `manifold` is absent for CLOSED; `begun` is the model's own mark of a switch or grant that began at the
present cycle start (R80, R81). -/
structure Arbiter where
  state : PumpState
  manifold : Option Chan
  queue : List Chan
  switchCount : Nat
  tenureCount : Nat
  switchHeld : Nat
  tenureHeld : Nat
  lastDemand : Nat
  begun : Bool
  deriving DecidableEq, Repr

/-! ### Wall Monitor -/

inductive PointState where
  | normal
  | warn
  | stop
  | stale
  deriving DecidableEq, Repr

inductive WallState where
  | normal
  | warn
  | stop
  deriving DecidableEq, Repr

/-- R114: one point record. -/
structure WallPoint where
  config : WallConfig
  state : PointState
  latch : Bool
  deriving DecidableEq, Repr

/-! ### Program Store and Input Conversion -/

/-- A table held sparsely: (index, entry) pairs, indices strictly rising, no entry equal to the table's default. -/
abbrev SparseTable (α : Type) := List (Nat × α)

/-- R1 to R6: the four tables and the lock counts of their entries. -/
structure ProgramStore where
  headers : SparseTable (Option Header)
  steps : SparseTable (Option Step)
  segments : SparseTable (Option Segment)
  markSets : SparseTable (Option MarkSet)
  headerLocks : SparseTable Nat
  stepLocks : SparseTable Nat
  segmentLocks : SparseTable Nat
  markSetLocks : SparseTable Nat
  deriving DecidableEq, Repr

/-- R135: an input record. -/
structure InputRecord where
  value : Int
  valid : Bool
  age : Nat
  saturated : Bool
  aux : Nat
  deriving DecidableEq, Repr

/-! ### Line Port -/

inductive Alignment where
  | hunt
  | confirm
  | locked
  | flywheel
  deriving DecidableEq, Repr

/-- R148. A bank maps positions 17 to 239, an unlisted position being PASS. -/
structure LinePort where
  alignment : Alignment
  heldN : Option Nat
  slotPos : Nat
  misses : Nat
  count : Nat
  lastLine : Nat
  active : SparseTable SlotEntry
  shadow : SparseTable SlotEntry
  swapPending : Bool
  deriving DecidableEq, Repr

/-! ### Record Queue, Report Composer, Management Unit, pins -/

/-- R185: closed records, oldest first, and the FILING channels in the order they went FILING. -/
structure RecordQueue where
  queue : List Record
  filing : List Chan
  deriving DecidableEq, Repr

/-- R191, R196: the value of a report as its slot carries it, marker and value bits; equal exactly when every part
of the report value is. -/
structure ReportValue where
  marker : BitVec 2
  bits : BitVec 24
  deriving DecidableEq, Repr

/-- R190. `lastSent` runs along the active list, absent beyond its length. -/
structure Composer where
  active : List ReportEntry
  shadow : List ReportEntry
  listPos : Nat
  lastSent : List (Option ReportValue)
  swapPending : Bool
  deriving DecidableEq, Repr

/-- R169: reply statuses. -/
inductive Status where
  | ok
  | inUse
  | badIndex
  | badValue
  | wrongState
  | pendingFull
  | empty
  | noData
  | unknownRequest
  | garbled
  deriving DecidableEq, Repr

/-- A field of a reply payload: its width in bytes and its value; an absent field is all ones (R197). -/
structure Field where
  width : Nat
  value : Option Int
  deriving DecidableEq, Repr

/-- R168: a reply. -/
structure Reply where
  address : Nat
  kind : Byte
  tag : Byte
  status : Status
  payload : List Field
  deriving DecidableEq, Repr

inductive ResetCause where
  | powerOn
  | pin
  | request
  deriving DecidableEq, Repr

/-- R188: the six latched notices. The four level notices are functions of the state. -/
structure Latched where
  lineLost : Bool
  channelFault : Bool
  sampleStale : Bool
  pumpTenure : Bool
  mgmtGarbled : Bool
  reset : Bool
  deriving DecidableEq, Repr

/-- R164 to R182. `replyWritten` and `wallStaleInEffect` are the model's own (R157, R115), and so is
`window`: the slots of this cycle's request window handed over one by one so far, the last one not among them (R156, log
entry 43). -/
structure Management where
  prepared : Option Reply
  owed : Option Reply
  replyWritten : Bool
  window : List Slot
  resetPending : Bool
  resetCause : ResetCause
  address : Nat
  config : PartConfig
  wallStaleInEffect : Nat
  latched : Latched
  deriving DecidableEq, Repr

/-- R199: levels of the discrete pins. `panel` is the level taken; `resetIn` is true while RESET_IN is asserted. -/
structure Pins where
  strap : BitVec 6
  panel : Bool
  resetIn : Bool
  deriving DecidableEq, Repr

/-! ### The whole part -/

/-- The state of the part. The last four fields are the model's own: `due` is the work set going and not yet taken,
`freezeOrders` free values (for each freezing event to come, the order in which the channels take it), `sent` the slots last
passed to the downstream port, `pending` the commands that wait. -/
structure State where
  line : LinePort
  store : ProgramStore
  scales : SparseTable (Option ScaleEntry)
  inputs : SparseTable (Option InputRecord)
  chans : Vector Channel 8
  pumpA : Arbiter
  pumpB : Arbiter
  walls : Vector WallPoint 16
  records : RecordQueue
  reports : Composer
  mgmt : Management
  pins : Pins
  due : List CycleWork
  freezeOrders : List (List Chan)
  sent : List Slot
  pending : List Instr
  deriving DecidableEq, Repr

/-! ### Power-on -/

/-- R24: the defaults. -/
def ChannelConfig.defaults : ChannelConfig :=
  { pump := none, staleLimit := 10, echoLimit := 25, loadCeiling := 0, kp := 0, ki := 0, imax := 0, deadband := 0
    overloadLimit := 40000, overloadPersistence := 1, pgain := 0, overMargin := 0, overPersistence := 1
    tensionLimit := 10000, tensionPersistence := 1 }

/-- R114: the EMPTY configuration. -/
def WallConfig.defaults : WallConfig :=
  { enable := false, baseline := 0, warn := 20000, stop := 20000, hysteresis := 0 }

/-- R179: the power-on values. -/
def PartConfig.defaults : PartConfig :=
  { warnScale := 128, wallStale := 10, tenure := 15000, switchTime := 500, flywheel := 4, mask := 0 }

def FreezeSet.empty : FreezeSet := ⟨false, false, false, false, false⟩

/-- R39, R44: a cleared generator. `next` is a DESIGN CHOICE (log entry 27): no rule gives it a cleared value. -/
def Profile.cleared (pace : Nat) (stagedPace : Option Nat) : Profile :=
  { status := .inactive, acc := 0, ceiling := 0, working := none, remaining := 0, reload := none, next := 0
    segsLeft := 0, staged := none, phase := 0, pace := pace, stagedPace := stagedPace, limited := false }

/-- R25, R44, R45, R100, R110: a channel after a reset. `index` is a DESIGN CHOICE (log entry 27). -/
def Channel.afterReset (config : ChannelConfig) : Channel :=
  { state := .idle, freeze := FreezeSet.empty, fault := none, program := none, index := 0, phase := .none
    work := .none, pendingProgram := none, peer := false, config := config, record := none, filed := none
    lastCreep := none, wedge := false, lastWinch := 0, lastBrake := true, profile := Profile.cleared 256 none
    jack := { integral := 0, overloads := 0, lastValve := 0 }, tookUp := false, becameSettling := false }

/-- R88. -/
def Arbiter.afterReset : Arbiter :=
  { state := .free, manifold := none, queue := [], switchCount := 0, tenureCount := 0, switchHeld := 0
    tenureHeld := 0, lastDemand := 0, begun := false }

/-- R182: every latched notice clear but RESET. -/
def Latched.afterReset : Latched :=
  { lineLost := false, channelFault := false, sampleStale := false, pumpTenure := false, mgmtGarbled := false
    reset := true }

/-- R6, R25, R44, R45, R88, R100, R130, R145, R163, R182, R187, R195: every block at its power-on values, with the
strap and the panel level as they are when the power-on reset ends (R164, R199). -/
def State.atPowerOn (strap : BitVec 6) (panel : Bool) : State :=
  { line := { alignment := .hunt, heldN := none, slotPos := 0, misses := 0, count := 0, lastLine := 0, active := []
              shadow := [], swapPending := false }
    store := { headers := [], steps := [], segments := [], markSets := [], headerLocks := [], stepLocks := []
               segmentLocks := [], markSetLocks := [] }
    scales := []
    inputs := []
    chans := Vector.replicate 8 (Channel.afterReset ChannelConfig.defaults)
    pumpA := Arbiter.afterReset
    pumpB := Arbiter.afterReset
    walls := Vector.replicate 16 { config := WallConfig.defaults, state := .normal, latch := false }
    records := { queue := [], filing := [] }
    reports := { active := [], shadow := [], listPos := 0, lastSent := [], swapPending := false }
    mgmt := { prepared := none, owed := none, replyWritten := false, window := [], resetPending := false
              resetCause := .powerOn, address := strap.toNat, config := PartConfig.defaults, wallStaleInEffect := PartConfig.defaults.wallStale
              latched := Latched.afterReset }
    pins := { strap := strap, panel := panel, resetIn := false }
    due := []
    freezeOrders := []
    sent := []
    pending := [] }

/-- The part right after power-on. DESIGN CHOICE (log entry 6): the strap pins are open, so the address reads 63
(R199), and the panel button is not pressed; POWER_ON gives any other strap and level. -/
def State.reset : State := State.atPowerOn 63 false

end Sys2Proof.Machine
end

