-- ==== Sys2Proof/Machine/Ops.lean ====
section
/-! DEFINITION. The operations the blocks share: integer arithmetic as the manual states it, sparse tables, access to
the part's blocks, input availability and bindings, locks, notices and the wall state. -/

namespace Sys2Proof.Machine

/-! ### Arithmetic (00_scope.md, Arithmetic) -/

/-- A clamp, inclusive at both ends. -/
def clamp (lo hi x : Int) : Int := max lo (min hi x)

/-- A shift right by `n`: division by 2^n rounded toward minus infinity. -/
def shiftRight (x : Int) (n : Nat) : Int := x / (2 : Int) ^ n

/-- A count that saturates at `cap`. -/
def satAdd (cap a b : Nat) : Nat := min cap (a + b)

/-- The magnitude of `a - b`. -/
def distance (a b : Int) : Nat := (a - b).natAbs

/-! ### Sparse tables -/

/-- The entry at `i`, `d` where none is listed. -/
def Sparse.get {α : Type} (d : α) : SparseTable α → Nat → α
  | [], _ => d
  | (k, v) :: t, i => if i = k then v else Sparse.get d t i

/-- Lists `v` at `i`, keeping the indices rising; `i` is not listed before. -/
def Sparse.insert {α : Type} (i : Nat) (v : α) : SparseTable α → SparseTable α
  | [] => [(i, v)]
  | (k, w) :: t => if i < k then (i, v) :: (k, w) :: t else (k, w) :: Sparse.insert i v t

/-- Writes `v` at `i`: the entry is listed unless it is the default. -/
def Sparse.set {α : Type} [DecidableEq α] (d : α) (t : SparseTable α) (i : Nat) (v : α) : SparseTable α :=
  let rest := t.filter fun e => e.1 ≠ i
  if v = d then rest else Sparse.insert i v rest

/-- The canonical form: indices strictly rising, no entry equal to the default. -/
def Sparse.wf {α : Type} [DecidableEq α] (d : α) (t : SparseTable α) : Prop :=
  (t.map Prod.fst).Pairwise (· < ·) ∧ ∀ e ∈ t, e.2 ≠ d

/-! ### Channels, pumps, points and blocks -/

def allChans : List Chan := [0, 1, 2, 3, 4, 5, 6, 7]

def allPoints : List Point := [0, 1, 2, 3, 4, 5, 6, 7, 8, 9, 10, 11, 12, 13, 14, 15]

def State.chan (s : State) (c : Chan) : Channel := s.chans[c]

def State.setChan (s : State) (c : Chan) (ch : Channel) : State := { s with chans := s.chans.set c ch }

def State.updChan (s : State) (c : Chan) (f : Channel → Channel) : State := s.setChan c (f (s.chan c))

def State.arb (s : State) : Pump → Arbiter
  | .a => s.pumpA
  | .b => s.pumpB

def State.setArb (s : State) (p : Pump) (a : Arbiter) : State :=
  match p with
  | .a => { s with pumpA := a }
  | .b => { s with pumpB := a }

def State.updArb (s : State) (p : Pump) (f : Arbiter → Arbiter) : State := s.setArb p (f (s.arb p))

def State.wall (s : State) (w : Point) : WallPoint := s.walls[w]

def State.setWall (s : State) (w : Point) (x : WallPoint) : State := { s with walls := s.walls.set w x }

def State.updLine (s : State) (f : LinePort → LinePort) : State := { s with line := f s.line }

def State.updStore (s : State) (f : ProgramStore → ProgramStore) : State := { s with store := f s.store }

def State.updRecords (s : State) (f : RecordQueue → RecordQueue) : State := { s with records := f s.records }

def State.updReports (s : State) (f : Composer → Composer) : State := { s with reports := f s.reports }

def State.updMgmt (s : State) (f : Management → Management) : State := { s with mgmt := f s.mgmt }

def State.updLatched (s : State) (f : Latched → Latched) : State :=
  s.updMgmt fun m => { m with latched := f m.latched }

/-- A change of a channel's profile generator alone. -/
def State.updProfile (s : State) (c : Chan) (f : Profile → Profile) : State :=
  s.updChan c fun ch => { ch with profile := f ch.profile }

/-- A change of a channel's jack loop alone. -/
def State.updJack (s : State) (c : Chan) (f : JackLoop → JackLoop) : State :=
  s.updChan c fun ch => { ch with jack := f ch.jack }

/-- A change of the working fields of a channel's step alone. -/
def State.setWork (s : State) (c : Chan) (w : StepWork) : State := s.updChan c fun ch => { ch with work := w }

/-- A change of the record under construction, where there is one. -/
def State.updRecord (s : State) (c : Chan) (f : Record → Record) : State :=
  s.updChan c fun ch => { ch with record := ch.record.map f }

/-! ### Program Store (R1 to R5) -/

def ProgramStore.header (st : ProgramStore) (i : Nat) : Option Header := Sparse.get none st.headers i

def ProgramStore.step (st : ProgramStore) (i : Nat) : Option Step := Sparse.get none st.steps i

def ProgramStore.segment (st : ProgramStore) (i : Nat) : Option Segment := Sparse.get none st.segments i

def ProgramStore.markSet (st : ProgramStore) (i : Nat) : Option MarkSet := Sparse.get none st.markSets i

/-- R5: the lock count of an entry of one of the four tables; other tables carry none. -/
def ProgramStore.locks (st : ProgramStore) (t : Table) (i : Nat) : Nat :=
  match t with
  | .header => Sparse.get 0 st.headerLocks i
  | .step => Sparse.get 0 st.stepLocks i
  | .segment => Sparse.get 0 st.segmentLocks i
  | .markset => Sparse.get 0 st.markSetLocks i
  | .scale | .channelConfig | .wallPoint | .slotMap | .reportList | .partConfig => 0

/-- The mark set a step names, if it is a HOLD. -/
def Step.markSet? (st : Step) : Option Nat :=
  match st.body with
  | .hold h => some h.markSet
  | .payout _ | .inject _ | .ramp _ | .lockoff _ | .check _ | .await _ | .signal _ | .finish => none

/-- R4, fourth group: the mark sets named by the HOLD steps of a window, each once. -/
def ProgramStore.windowMarkSets (st : ProgramStore) (h : Header) : List Nat :=
  (List.range 32).filter fun m =>
    (List.range h.stepCount).any fun k => (st.step (h.stepFirst + k)).bind Step.markSet? = some m

/-- A lock count changed by `f` at each of the indices listed. -/
def changeLocks (f : Nat → Nat) (is : List Nat) (t : SparseTable Nat) : SparseTable Nat :=
  is.foldl (fun t i => Sparse.set 0 t i (f (Sparse.get 0 t i))) t

/-- The indices of a window. -/
def windowIndices (first count : Nat) : List Nat := (List.range count).map (first + ·)

/-- R4, R5: the lock set of the program of header `i`, each entry's count changed once by `f`. The lock set is
formed from the store as it stands; while the program is locked the store's entries it is formed from cannot change,
so counting down meets the set that was counted up. -/
def ProgramStore.changeLockSet (f : Nat → Nat) (i : Nat) (st : ProgramStore) : ProgramStore :=
  match st.header i with
  | none => st
  | some h =>
    { st with
      headerLocks := changeLocks f [i] st.headerLocks
      stepLocks := changeLocks f (windowIndices h.stepFirst h.stepCount) st.stepLocks
      segmentLocks := changeLocks f (windowIndices h.segFirst h.segCount) st.segmentLocks
      markSetLocks := changeLocks f (st.windowMarkSets h) st.markSetLocks }

/-- R5: the lock set counted up. -/
def State.lockProgram (i : Nat) (s : State) : State := s.updStore (·.changeLockSet (· + 1) i)

/-- R5: the lock set counted down. -/
def State.unlockProgram (i : Nat) (s : State) : State := s.updStore (·.changeLockSet (· - 1) i)

/-- The header of a channel's current program. -/
def State.programHeader (s : State) (c : Chan) : Option Header := (s.chan c).program.bind s.store.header

/-- The step store entry at a channel's step index. -/
def State.stepAt (s : State) (c : Chan) : Option Step :=
  (s.programHeader c).bind fun h => s.store.step (h.stepFirst + (s.chan c).index)

/-- The current step of a channel: there is one in phase ACTIVE alone (R141: in TAKE_UP a channel has none). -/
def State.currentStep (s : State) (c : Chan) : Option Step :=
  if (s.chan c).phase = .active then s.stepAt c else none

/-! ### Step kinds -/

/-- R2, R196: step kinds are coded PAYOUT 0 through END 8. -/
def StepBody.kind : StepBody → Nat
  | .payout _ => 0
  | .inject _ => 1
  | .ramp _ => 2
  | .hold _ => 3
  | .lockoff _ => 4
  | .check _ => 5
  | .await _ => 6
  | .signal _ => 7
  | .finish => 8

/-! ### Slot map bindings (R160, R162) -/

/-- The entry at a position of a bank. -/
def bankEntry (bank : SparseTable SlotEntry) (pos : Nat) : SlotEntry := Sparse.get .pass bank pos

/-- R162: a target is bound when the active bank holds a SAMPLE entry for it at any position. -/
def State.bound (s : State) (t : Target) : Bool :=
  s.line.active.any fun e => match e.2 with
    | .sample t' _ => t' = t
    | .pass | .command _ | .report => false

/-- R162: a command is bound when the active bank holds the COMMAND entry for it. -/
def State.boundCommand (s : State) (k : Command) : Bool :=
  s.line.active.any fun e => match e.2 with
    | .command k' => k' = k
    | .pass | .sample _ _ | .report => false

/-! ### Input records (R135, R138) -/

def Measurand.code : Measurand → Nat
  | .jackLoad => 0
  | .anchorLoad => 1
  | .jackStroke => 2
  | .groutPressure => 3
  | .groutFlow => 4
  | .winchPayout => 5
  | .winchTension => 6
  | .jackEcho => 7
  | .winchEcho => 8

/-- R197: pumps are A 0 and B 1. -/
def pumpCode : Pump → Nat
  | .a => 0
  | .b => 1

/-- The index of a target's record: 72 channel targets, two pump targets, sixteen wall points. -/
def Target.code : Target → Nat
  | .chan c m => 9 * c.val + m.code
  | .pumpEcho p => 72 + pumpCode p
  | .wallMove w => 74 + w.val

/-- The input record of a target, absent when the target has never been bound. -/
def State.input (s : State) (t : Target) : Option InputRecord := Sparse.get none s.inputs t.code

def State.setInput (s : State) (t : Target) (r : InputRecord) : State :=
  { s with inputs := Sparse.set none s.inputs t.code (some r) }

/-- R135: a record as it comes into being. -/
def InputRecord.fresh : InputRecord := { value := 0, valid := false, age := 255, saturated := false, aux := 0 }

/-- R138: the stale limit of a target. Echo inputs have none; they are judged by the echo check alone. -/
def State.staleLimit (s : State) : Target → Option Nat
  | .chan c .jackLoad | .chan c .anchorLoad | .chan c .jackStroke | .chan c .groutPressure | .chan c .groutFlow
  | .chan c .winchPayout | .chan c .winchTension => some (s.chan c).config.staleLimit
  | .chan _ .jackEcho | .chan _ .winchEcho | .pumpEcho _ => none
  | .wallMove _ => some s.mgmt.wallStaleInEffect

/-- R138: an age beyond its limit; an input without a limit never is. -/
def ageWithin (limit : Option Nat) (age : Nat) : Bool :=
  match limit with
  | none => true
  | some l => age ≤ l

/-- R138: the value of an input when it is available (its record exists, is valid and is not stale). -/
def State.availableValue (s : State) (t : Target) : Option Int :=
  match s.input t with
  | none => none
  | some r => if r.valid && ageWithin (s.staleLimit t) r.age then some r.value else none

/-- R138. -/
def State.available (s : State) (t : Target) : Bool := (s.availableValue t).isSome

/-- The value an available channel input shows, as a natural number (the ranges of channel measurands start at 0). -/
def State.chanValue (s : State) (c : Chan) (m : Measurand) : Option Nat :=
  (s.availableValue (.chan c m)).map Int.toNat

/-! ### Required inputs and bindings of a step (R12, R128) -/

/-- R12: the required inputs of a step kind. -/
def StepBody.requiredInputs : StepBody → List Measurand
  | .ramp _ | .lockoff _ => [.jackLoad]
  | .hold _ => [.jackLoad, .jackStroke]
  | .inject _ => [.groutPressure, .groutFlow]
  | .payout _ => [.winchPayout, .winchTension]
  | .check _ | .await _ | .signal _ | .finish => []

/-- Whether every required input of a step is available on its channel. -/
def State.requiredAvailable (s : State) (c : Chan) (b : StepBody) : Bool :=
  b.requiredInputs.all fun m => s.available (.chan c m)

/-- R12: the command slot, and for an INJECT the pump binding, that a step needs. -/
def State.commandsBound (s : State) (c : Chan) : StepBody → Bool
  | .ramp _ | .hold _ | .lockoff _ => s.boundCommand (.jack c)
  | .payout _ => s.boundCommand (.winch c)
  | .inject _ =>
    match (s.chan c).config.pump with
    | none => false
    | some p => s.boundCommand (.pump p)
  | .check _ | .await _ | .signal _ | .finish => true

/-- R12: every binding the step needs. -/
def State.bindingsPresent (s : State) (c : Chan) (b : StepBody) : Bool :=
  b.requiredInputs.all (fun m => s.bound (.chan c m)) && s.commandsBound c b

/-! ### Setpoint -/

/-- R27: the setpoint is acc shifted right by 8. -/
def State.setpoint (s : State) (c : Chan) : Nat := (s.chan c).profile.acc / 256

/-! ### Wall state (R119) -/

/-- R119: a state of some enabled point. -/
def State.anyPoint (s : State) (q : PointState → Bool) : Bool :=
  allPoints.any fun w => (s.wall w).config.enable && q (s.wall w).state

/-- R119: the wall state formed from the enabled points. -/
def State.wallState (s : State) : WallState :=
  if s.anyPoint (· = .stop) then .stop
  else if s.anyPoint (fun x => x = .warn ∨ x = .stale) then .warn
  else .normal

/-- R125: whether any wall point is STOP. -/
def State.anyStop (s : State) : Bool := allPoints.any fun w => (s.wall w).state = .stop

/-! ### The worked line -/

/-- R147, R163: the part works the slots that pass while it is LOCKED or FLYWHEEL and not held in reset. -/
def State.worked (s : State) : Bool :=
  !s.pins.resetIn && (s.line.alignment = .locked || s.line.alignment = .flywheel)

/-- R155: the low 8 bits of the site cycle count, the tag of every command of the cycle. -/
def State.tag (s : State) : Nat := s.line.count % 256

/-- R147: the slots of a command leave as they arrived. -/
def State.passSlots (s : State) (slots : List Slot) : State := { s with sent := slots }

/-! ### The position counted (R148 to R152) -/

/-- R148: the position of the slot that arrives next, counted from the last sync position. -/
def State.nextPos (s : State) : Nat := s.line.slotPos + 1

/-- R150 to R152: the slot that arrives next is at the expected sync position, the one after position N − 1 by the
held N. -/
def State.atSync (s : State) : Bool := s.line.heldN.getD 0 ≤ s.nextPos

/-- R156: the slot that arrives next is the first of the request window of a worked cycle. -/
def State.atRequestWindow (s : State) : Bool := s.worked && s.line.slotPos = 0

/-- R157: the slot that arrives next is the first of the reply window of a worked cycle. -/
def State.atReplyWindow (s : State) : Bool := s.worked && s.line.slotPos = 8

/-- A slot leaves the part, no position being counted. -/
def State.emit (out : Slot) (s : State) : State := { s with sent := s.sent ++ [out] }

/-- A slot leaves the part as `out`, and the position counted becomes its position. -/
def State.sendNext (out : Slot) (s : State) : State :=
  { s with line := { s.line with slotPos := s.nextPos }, sent := s.sent ++ [out] }

end Sys2Proof.Machine
end

