-- ==== Sys2Proof/Machine/Flags.lean ====
section
/-! DEFINITION. The part's sets of flags: freeze-cause sets (R17, R196), notices, their pending set and the digest
(R188, R189), and the codes of the enumerations (R196: the position of a value in the list that first defines it). -/

namespace Sys2Proof.Machine

/-! ### Freeze-cause sets -/

def FreezeSet.has (f : FreezeSet) : FreezeCause → Bool
  | .supervisor => f.supervisor
  | .panel => f.panel
  | .wallStop => f.wallStop
  | .lineLost => f.lineLost
  | .sampleStale => f.sampleStale

def FreezeSet.isEmpty (f : FreezeSet) : Bool :=
  !(f.supervisor || f.panel || f.wallStop || f.lineLost || f.sampleStale)

def FreezeSet.add (f : FreezeSet) : FreezeCause → FreezeSet
  | .supervisor => { f with supervisor := true }
  | .panel => { f with panel := true }
  | .wallStop => { f with wallStop := true }
  | .lineLost => { f with lineLost := true }
  | .sampleStale => { f with sampleStale := true }

/-- The causes of `f` that are not in `g`. -/
def FreezeSet.without (f g : FreezeSet) : FreezeSet :=
  { supervisor := f.supervisor && !g.supervisor, panel := f.panel && !g.panel, wallStop := f.wallStop && !g.wallStop
    lineLost := f.lineLost && !g.lineLost, sampleStale := f.sampleStale && !g.sampleStale }

/-- A mask with one bit per member, bit 0 for the first listed. -/
def maskOf (bits : List Bool) : Nat :=
  match bits with
  | [] => 0
  | b :: bs => (if b then 1 else 0) + 2 * maskOf bs

def FreezeSet.mask (f : FreezeSet) : Nat := maskOf [f.supervisor, f.panel, f.wallStop, f.lineLost, f.sampleStale]

/-! ### Notices (R188, R189) -/

/-- R188: the ten kinds, in priority order. -/
inductive NoticeKind where
  | wallStop
  | lineLost
  | channelFault
  | wallWarn
  | recordReady
  | queueFull
  | sampleStale
  | pumpTenure
  | mgmtGarbled
  | reset
  deriving DecidableEq, Repr

def allNotices : List NoticeKind :=
  [.wallStop, .lineLost, .channelFault, .wallWarn, .recordReady, .queueFull, .sampleStale, .pumpTenure, .mgmtGarbled,
    .reset]

/-- R188: the priority of a kind, which is also its bit (R196). -/
def NoticeKind.priority : NoticeKind → Nat
  | .wallStop => 0
  | .lineLost => 1
  | .channelFault => 2
  | .wallWarn => 3
  | .recordReady => 4
  | .queueFull => 5
  | .sampleStale => 6
  | .pumpTenure => 7
  | .mgmtGarbled => 8
  | .reset => 9

/-- R188: a level kind is pending while its condition holds, a latched kind from its raising event until cleared. -/
def State.pendingNotice (s : State) : NoticeKind → Bool
  | .wallStop => s.wallState = .stop
  | .lineLost => s.mgmt.latched.lineLost
  | .channelFault => s.mgmt.latched.channelFault
  | .wallWarn => s.wallState = .warn
  | .recordReady => !s.records.queue.isEmpty
  | .queueFull => !s.records.filing.isEmpty
  | .sampleStale => s.mgmt.latched.sampleStale
  | .pumpTenure => s.mgmt.latched.pumpTenure
  | .mgmtGarbled => s.mgmt.latched.mgmtGarbled
  | .reset => s.mgmt.latched.reset

/-- R189: the pending notice set as a mask. -/
def State.pendingNotices (s : State) : Nat := maskOf (allNotices.map s.pendingNotice)

/-- R189: the digest notice, the highest-priority pending kind that the notice mask does not hide. -/
def State.digest (s : State) : Option NoticeKind :=
  allNotices.find? fun k => s.pendingNotice k && !s.mgmt.config.mask.getLsbD k.priority

/-- R178: the named latched kinds cleared; a level kind named is not changed. -/
def Latched.clear (l : Latched) (named : NoticeSet) : Latched :=
  { lineLost := l.lineLost && !named.getLsbD 1
    channelFault := l.channelFault && !named.getLsbD 2
    sampleStale := l.sampleStale && !named.getLsbD 6
    pumpTenure := l.pumpTenure && !named.getLsbD 7
    mgmtGarbled := l.mgmtGarbled && !named.getLsbD 8
    reset := l.reset && !named.getLsbD 9 }

/-! ### Codes of enumerations (R196) -/

def ChanState.code : ChanState → Nat
  | .idle => 0
  | .running => 1
  | .frozen => 2
  | .faulted => 3
  | .filing => 4

def StepPhase.code : StepPhase → Nat
  | .none => 0
  | .takeUp => 1
  | .active => 2

/-- R15's order. -/
def FaultCause.code : FaultCause → Nat
  | .overload => 0
  | .overpressure => 1
  | .tensionLimit => 2
  | .nodeSilent => 3
  | .badStep => 4
  | .badBinding => 5
  | .checkFailed => 6
  | .noData => 7
  | .rampUnsettled => 8
  | .loadDrift => 9
  | .creepExceeded => 10
  | .lockoffLoss => 11
  | .refusal => 12

def OnFail.code : OnFail → Nat
  | .halt => 0
  | .divert => 1
  | .cont => 2

def SegMode.code : SegMode → Nat
  | .absolute => 0
  | .cont => 1

def Quantity.code : Quantity → Nat
  | .jackLoad => 0
  | .anchorLoad => 1
  | .jackStroke => 2
  | .groutPressure => 3
  | .groutFlow => 4
  | .winchPayout => 5
  | .winchTension => 6
  | .peakLoad => 7
  | .groutVolume => 8
  | .payoutLength => 9
  | .lastCreep => 10

def ProfileStatus.code : ProfileStatus → Nat
  | .inactive => 0
  | .active => 1
  | .finished => 2

def RampPhase.code : RampPhase → Nat
  | .profiling => 0
  | .settling => 1

def LockoffPhase.code : LockoffPhase → Nat
  | .seating => 0
  | .releasing => 1

def Standing.code : Standing → Nat
  | .none => 0
  | .queued => 1
  | .switching => 2
  | .granted => 3

/-- DEDUCED (log entry 17): the two values of an optional field, VOLUME 0 and REFUSAL 1. -/
def EndReason.code : EndReason → Nat
  | .volume => 0
  | .refusal => 1

def Verdict.code : Verdict → Nat
  | .pass => 0
  | .fail => 1
  | .incomplete => 2

def RunOutcome.code : RunOutcome → Nat
  | .completed => 0
  | .aborted => 1
  | .abandoned => 2

/-- R77. -/
def PumpState.code : PumpState → Nat
  | .free => 0
  | .switching _ => 1
  | .granted _ => 2

/-- R77: the holder, present in SWITCHING and GRANTED. -/
def PumpState.holder : PumpState → Option Chan
  | .free => none
  | .switching c => some c
  | .granted c => some c

def PointState.code : PointState → Nat
  | .normal => 0
  | .warn => 1
  | .stop => 2
  | .stale => 3

def WallState.code : WallState → Nat
  | .normal => 0
  | .warn => 1
  | .stop => 2

def Alignment.code : Alignment → Nat
  | .hunt => 0
  | .confirm => 1
  | .locked => 2
  | .flywheel => 3

def ResetCause.code : ResetCause → Nat
  | .powerOn => 0
  | .pin => 1
  | .request => 2

/-- R169's order. -/
def Status.code : Status → Nat
  | .ok => 0
  | .inUse => 1
  | .badIndex => 2
  | .badValue => 3
  | .wrongState => 4
  | .pendingFull => 5
  | .empty => 6
  | .noData => 7
  | .unknownRequest => 8
  | .garbled => 9

/-- R197: table selectors, HEADER 0 to PART_CONFIG 9. -/
def Table.code : Table → Nat
  | .header => 0
  | .step => 1
  | .segment => 2
  | .markset => 3
  | .scale => 4
  | .channelConfig => 5
  | .wallPoint => 6
  | .slotMap => 7
  | .reportList => 8
  | .partConfig => 9

def boolCode (b : Bool) : Nat := if b then 1 else 0

end Sys2Proof.Machine
end

