-- ==== Sys2Proof/Machine/Formats.lean ====
section
/-! DEFINITION. The byte layouts of 12_line_formats_and_pins.md: the check byte (R146), the slots (R196), the request
window (R165, R197), the entries of the tables (R197) and the reply payloads (R196 to R198). -/

namespace Sys2Proof.Machine

/-! ### The check byte (R146) -/

/-- One shift of the CRC register through x^8 + x^2 + x + 1, most significant bit first. -/
def crcShift (x : Byte) : Byte := if x.msb then (x <<< 1) ^^^ 0x07#8 else x <<< 1

/-- R146: a byte is combined with the CRC so far and shifted eight times. -/
def crcByte (crc b : Byte) : Byte :=
  crcShift (crcShift (crcShift (crcShift (crcShift (crcShift (crcShift (crcShift (crc ^^^ b))))))))

/-- R146: initial value 0, no final inversion. -/
def crc8 (bs : List Byte) : Byte := bs.foldl crcByte 0#8

def slotData (s : Slot) : List Byte := [s.b0, s.b1, s.b2, s.b3]

/-- R146: the check is good when the check byte equals the CRC of the data bytes. -/
def slotGood (s : Slot) : Bool := s.check = crc8 (slotData s)

/-- R146, R159: a slot the part writes carries the check byte of its data. -/
def makeSlot (b0 b1 b2 b3 : Byte) : Slot := { b0, b1, b2, b3, check := crc8 [b0, b1, b2, b3] }

/-! ### Bytes and numbers (R196: most significant byte first, two's complement) -/

/-- A number as `w` bytes, most significant first. -/
def natBytes : Nat → Nat → List Byte
  | 0, _ => []
  | w + 1, n => BitVec.ofNat 8 (n / 256 ^ w) :: natBytes w n

/-- Bytes read as a number, most significant first. -/
def bytesNat (bs : List Byte) : Nat := bs.foldl (fun a b => 256 * a + b.toNat) 0

/-- The unsigned field of `w` bytes at offset `off` of a payload. -/
def natAt (bs : List Byte) (off w : Nat) : Nat := bytesNat ((bs.drop off).take w)

/-- The signed field of `w` bytes at offset `off` of a payload. -/
def intAt (bs : List Byte) (off w : Nat) : Int :=
  let n := natAt bs off w
  if 2 * n < 256 ^ w then (n : Int) else (n : Int) - 256 ^ w

/-- R197: a reply field; an absent one is all ones in its width. -/
def Field.bytes (f : Field) : List Byte :=
  match f.value with
  | none => List.replicate f.width 0xFF#8
  | some v => natBytes f.width (v % (256 : Int) ^ f.width).toNat

def fieldsBytes (fs : List Field) : List Byte := fs.flatMap Field.bytes

/-- A numeric field. -/
def fNat (w n : Nat) : Field := { width := w, value := some n }

/-- A signed field. -/
def fInt (w : Nat) (i : Int) : Field := { width := w, value := some i }

/-- An optional numeric field. -/
def fOpt (w : Nat) (o : Option Nat) : Field := { width := w, value := o.map Int.ofNat }

/-- A flag: YES, set and on are 1 (R196). -/
def fFlag (b : Bool) : Field := fNat 1 (boolCode b)

/-- An optional channel number. -/
def fChan (o : Option Chan) : Field := fOpt 1 (o.map Fin.val)

/-! ### Enumerations read from their codes (R196) -/

def boolOf : Nat → Option Bool
  | 0 => some false
  | 1 => some true
  | _ => none

def onFailOf : Nat → Option OnFail
  | 0 => some .halt
  | 1 => some .divert
  | 2 => some .cont
  | _ => none

def segModeOf : Nat → Option SegMode
  | 0 => some .absolute
  | 1 => some .cont
  | _ => none

def quantityOf : Nat → Option Quantity
  | 0 => some .jackLoad
  | 1 => some .anchorLoad
  | 2 => some .jackStroke
  | 3 => some .groutPressure
  | 4 => some .groutFlow
  | 5 => some .winchPayout
  | 6 => some .winchTension
  | 7 => some .peakLoad
  | 8 => some .groutVolume
  | 9 => some .payoutLength
  | 10 => some .lastCreep
  | _ => none

def chanOf (n : Nat) : Option Chan := if h : n < 8 then some ⟨n, h⟩ else none

def pointOf (n : Nat) : Option Point := if h : n < 16 then some ⟨n, h⟩ else none

def pumpOf : Nat → Option Pump
  | 0 => some .a
  | 1 => some .b
  | _ => none

def measurandOf : Nat → Option Measurand
  | 0 => some .jackLoad
  | 1 => some .anchorLoad
  | 2 => some .jackStroke
  | 3 => some .groutPressure
  | 4 => some .groutFlow
  | 5 => some .winchPayout
  | 6 => some .winchTension
  | 7 => some .jackEcho
  | 8 => some .winchEcho
  | _ => none

/-- A set of the four AWAIT sources, bit 0 for TIMER; a mask with other bits names no set. -/
def sourceSetOf (n : Nat) : Option SourceSet :=
  if n < 16 then
    some { timer := n.testBit 0, release := n.testBit 1, peer := n.testBit 2, wallClear := n.testBit 3 }
  else none

/-- DEDUCED (log entry 18): a set of notice kinds whose mask has a bit beyond the ten kinds names a value the manual
does not define. -/
def noticeSetOf (n : Nat) : Option NoticeSet := if n < 1024 then some (BitVec.ofNat 10 n) else none

def tableOf : Nat → Option Table
  | 0 => some .header
  | 1 => some .step
  | 2 => some .segment
  | 3 => some .markset
  | 4 => some .scale
  | 5 => some .channelConfig
  | 6 => some .wallPoint
  | 7 => some .slotMap
  | 8 => some .reportList
  | 9 => some .partConfig
  | _ => none

/-! ### Table entries: their fields in order (R197) -/

def Header.fields (h : Header) : List Field :=
  [fNat 2 h.tag, fNat 2 h.stepFirst, fNat 2 h.stepCount, fNat 2 h.segFirst, fNat 1 h.segCount]

def decodeHeader (bs : List Byte) : Option Header :=
  some { tag := natAt bs 0 2, stepFirst := natAt bs 2 2, stepCount := natAt bs 4 2, segFirst := natAt bs 6 2
         segCount := natAt bs 8 1 }

def Segment.fields (g : Segment) : List Field :=
  [fNat 1 g.mode.code, fNat 2 g.start, fInt 3 g.slope, fNat 2 g.duration]

def decodeSegment (bs : List Byte) : Option Segment :=
  (segModeOf (natAt bs 0 1)).map fun m =>
    { mode := m, start := natAt bs 1 2, slope := intAt bs 3 3, duration := natAt bs 6 2 }

def SourceSet.mask (x : SourceSet) : Nat := maskOf [x.timer, x.release, x.peer, x.wallClear]

def StepBody.fields : StepBody → List Field
  | .payout p => [fNat 2 p.target, fNat 1 p.segOffset, fNat 1 p.segCount]
  | .inject p =>
    [fNat 3 p.targetVolume, fNat 2 p.demandCeiling, fNat 2 p.pressureCeiling, fNat 2 p.refusalPressure,
      fNat 2 p.refusalFlow, fNat 1 p.refusalCount, fFlag p.acceptRefusal]
  | .ramp p => [fNat 1 p.segOffset, fNat 1 p.segCount, fNat 2 p.settleBand, fNat 1 p.settleNeed, fNat 2 p.settleLimit]
  | .hold p =>
    [fNat 3 p.duration, fNat 1 p.markSet, fNat 1 p.markA, fNat 1 p.markB, fNat 2 p.kFactor, fNat 2 p.creepLimit,
      fNat 2 p.tolerance]
  | .lockoff p => [fNat 2 p.settleCycles, fNat 3 p.releaseSlope, fNat 2 p.seatThreshold, fNat 2 p.allowedLoss]
  | .check p => [fNat 1 p.quantity.code, fInt 4 p.low, fInt 4 p.high]
  | .await p => [fNat 1 p.releaseSet.mask, fNat 1 p.divertSet.mask, fNat 3 p.timer]
  | .signal c => [fNat 1 c.val]
  | .finish => []

/-- The kind's fields, `bs` starting at the first of them. -/
def decodeStepBody (kind : Nat) (bs : List Byte) : Option StepBody :=
  match kind with
  | 0 => some (.payout { target := natAt bs 0 2, segOffset := natAt bs 2 1, segCount := natAt bs 3 1 })
  | 1 => (boolOf (natAt bs 12 1)).map fun a =>
      .inject { targetVolume := natAt bs 0 3, demandCeiling := natAt bs 3 2, pressureCeiling := natAt bs 5 2
                refusalPressure := natAt bs 7 2, refusalFlow := natAt bs 9 2, refusalCount := natAt bs 11 1
                acceptRefusal := a }
  | 2 => some (.ramp { segOffset := natAt bs 0 1, segCount := natAt bs 1 1, settleBand := natAt bs 2 2
                       settleNeed := natAt bs 4 1, settleLimit := natAt bs 5 2 })
  | 3 => some (.hold { duration := natAt bs 0 3, markSet := natAt bs 3 1, markA := natAt bs 4 1, markB := natAt bs 5 1
                       kFactor := natAt bs 6 2, creepLimit := natAt bs 8 2, tolerance := natAt bs 10 2 })
  | 4 => some (.lockoff { settleCycles := natAt bs 0 2, releaseSlope := natAt bs 2 3, seatThreshold := natAt bs 5 2
                          allowedLoss := natAt bs 7 2 })
  | 5 => (quantityOf (natAt bs 0 1)).map fun q => .check { quantity := q, low := intAt bs 1 4, high := intAt bs 5 4 }
  | 6 => (sourceSetOf (natAt bs 0 1)).bind fun r => (sourceSetOf (natAt bs 1 1)).map fun d =>
      .await { releaseSet := r, divertSet := d, timer := natAt bs 2 3 }
  | 7 => (chanOf (natAt bs 0 1)).map .signal
  | 8 => some .finish
  | _ => none

def Step.fields (st : Step) : List Field :=
  [fNat 1 st.body.kind, fNat 1 st.onFail.code, fNat 1 st.divert] ++ st.body.fields

def decodeStep (bs : List Byte) : Option Step :=
  (onFailOf (natAt bs 1 1)).bind fun f => (decodeStepBody (natAt bs 0 1) (bs.drop 3)).map fun b =>
    { onFail := f, divert := natAt bs 2 1, body := b }

/-- R197: the count, then six times, those beyond the count sent as 0. -/
def markSetFields (m : MarkSet) : List Field :=
  fNat 1 m.length :: (List.range 6).map fun i => fNat 3 (m.getD i 0)

def decodeMarkSet (bs : List Byte) : Option MarkSet :=
  if natAt bs 0 1 ≤ 6 then some ((List.range (natAt bs 0 1)).map fun i => natAt bs (1 + 3 * i) 3) else none

def ScaleEntry.fields (e : ScaleEntry) : List Field := [fInt 2 e.offset, fInt 2 e.gain, fNat 1 e.shift]

def decodeScale (bs : List Byte) : Option ScaleEntry :=
  some { offset := intAt bs 0 2, gain := intAt bs 2 2, shift := natAt bs 4 1 }

/-- R24's list of the pump binding: PUMP A, PUMP B, NONE. -/
def pumpBindingCode : Option Pump → Nat
  | some p => pumpCode p
  | none => 2

def pumpBindingOf : Nat → Option (Option Pump)
  | 0 => some (some .a)
  | 1 => some (some .b)
  | 2 => some none
  | _ => none

def ChannelConfig.fields (k : ChannelConfig) : List Field :=
  [fNat 1 (pumpBindingCode k.pump), fNat 1 k.staleLimit, fNat 1 k.echoLimit, fNat 2 k.loadCeiling, fNat 2 k.kp,
    fNat 1 k.ki, fNat 4 k.imax, fNat 2 k.deadband, fNat 2 k.overloadLimit, fNat 1 k.overloadPersistence, fNat 2 k.pgain,
    fNat 2 k.overMargin, fNat 1 k.overPersistence, fNat 2 k.tensionLimit, fNat 1 k.tensionPersistence]

def decodeChannelConfig (bs : List Byte) : Option ChannelConfig :=
  (pumpBindingOf (natAt bs 0 1)).map fun p =>
    { pump := p, staleLimit := natAt bs 1 1, echoLimit := natAt bs 2 1, loadCeiling := natAt bs 3 2, kp := natAt bs 5 2
      ki := natAt bs 7 1, imax := natAt bs 8 4, deadband := natAt bs 12 2, overloadLimit := natAt bs 14 2
      overloadPersistence := natAt bs 16 1, pgain := natAt bs 17 2, overMargin := natAt bs 19 2
      overPersistence := natAt bs 21 1, tensionLimit := natAt bs 22 2, tensionPersistence := natAt bs 24 1 }

def WallConfig.fields (k : WallConfig) : List Field :=
  [fFlag k.enable, fInt 2 k.baseline, fNat 2 k.warn, fNat 2 k.stop, fNat 2 k.hysteresis]

def decodeWallConfig (bs : List Byte) : Option WallConfig :=
  (boolOf (natAt bs 0 1)).map fun e =>
    { enable := e, baseline := intAt bs 1 2, warn := natAt bs 3 2, stop := natAt bs 5 2, hysteresis := natAt bs 7 2 }

/-- R197: units are channels 0 to 7, pumps 8 and 9, points 10 to 25; PUMP_ECHO is measurand 9 and WALL_MOVE 10. -/
def Target.unit : Target → Nat
  | .chan c _ => c.val
  | .pumpEcho p => 8 + pumpCode p
  | .wallMove w => 10 + w.val

def Target.measurandCode : Target → Nat
  | .chan _ m => m.code
  | .pumpEcho _ => 9
  | .wallMove _ => 10

/-- R197: a unit and measurand that do not form a target of R160 name none. -/
def targetOf (unit m : Nat) : Option Target :=
  if unit < 8 then (chanOf unit).bind fun c => (measurandOf m).map (Target.chan c)
  else if unit < 10 then (if m = 9 then (pumpOf (unit - 8)).map Target.pumpEcho else none)
  else if m = 10 then (pointOf (unit - 10)).map Target.wallMove
  else none

/-- R197: JACK 0 to 7, WINCH 8 to 15, PUMP 16 and 17. -/
def Command.code : Command → Nat
  | .jack c => c.val
  | .winch c => 8 + c.val
  | .pump p => 16 + pumpCode p

def commandOf (n : Nat) : Option Command :=
  if n < 8 then (chanOf n).map Command.jack
  else if n < 16 then (chanOf (n - 8)).map Command.winch
  else (pumpOf (n - 16)).map Command.pump

def SlotEntry.fields : SlotEntry → List Field
  | .pass => [fNat 1 0]
  | .sample t k => [fNat 1 1, fNat 1 t.unit, fNat 1 t.measurandCode, fNat 1 k]
  | .command k => [fNat 1 2, fNat 1 k.code]
  | .report => [fNat 1 3]

def decodeSlotEntry (bs : List Byte) : Option SlotEntry :=
  match natAt bs 0 1 with
  | 0 => some .pass
  | 1 => (targetOf (natAt bs 1 1) (natAt bs 2 1)).map fun t => .sample t (natAt bs 3 1)
  | 2 => (commandOf (natAt bs 1 1)).map .command
  | 3 => some .report
  | _ => none

def ChanItem.code : ChanItem → Nat
  | .setpoint => 0
  | .jackLoad => 1
  | .jackStroke => 2
  | .valveDemand => 3
  | .groutPressure => 4
  | .groutVolume => 5
  | .payout => 6
  | .tension => 7
  | .state => 8

def chanItemOf : Nat → Option ChanItem
  | 0 => some .setpoint
  | 1 => some .jackLoad
  | 2 => some .jackStroke
  | 3 => some .valveDemand
  | 4 => some .groutPressure
  | 5 => some .groutVolume
  | 6 => some .payout
  | 7 => some .tension
  | 8 => some .state
  | _ => none

/-- R197: the source (channels 0 to 7, pumps 8 and 9, points 10 to 25, part 26) and the item within it. -/
def ReportItem.codes : ReportItem → Nat × Nat
  | .chan c i => (c.val, i.code)
  | .pump p .state => (8 + pumpCode p, 0)
  | .pump p .demand => (8 + pumpCode p, 1)
  | .point w .move => (10 + w.val, 0)
  | .point w .state => (10 + w.val, 1)
  | .part .status => (26, 0)
  | .part .cycle => (26, 1)

def pumpItemOf : Nat → Option PumpItem
  | 0 => some .state
  | 1 => some .demand
  | _ => none

def pointItemOf : Nat → Option PointItem
  | 0 => some .move
  | 1 => some .state
  | _ => none

def partItemOf : Nat → Option PartItem
  | 0 => some .status
  | 1 => some .cycle
  | _ => none

def reportItemOf (source item : Nat) : Option ReportItem :=
  if source < 8 then (chanOf source).bind fun c => (chanItemOf item).map (ReportItem.chan c)
  else if source < 10 then (pumpOf (source - 8)).bind fun p => (pumpItemOf item).map (ReportItem.pump p)
  else if source < 26 then (pointOf (source - 10)).bind fun w => (pointItemOf item).map (ReportItem.point w)
  else if source = 26 then (partItemOf item).map ReportItem.part
  else none

def ReportEntry.fields (e : ReportEntry) : List Field :=
  [fNat 1 e.item.codes.1, fNat 1 e.item.codes.2, fFlag e.changeOnly]

def decodeReportEntry (bs : List Byte) : Option ReportEntry :=
  (reportItemOf (natAt bs 0 1) (natAt bs 1 1)).bind fun i => (boolOf (natAt bs 2 1)).map fun f =>
    { item := i, changeOnly := f }

def PartConfig.fields (k : PartConfig) : List Field :=
  [fNat 2 k.warnScale, fNat 1 k.wallStale, fNat 2 k.tenure, fNat 2 k.switchTime, fNat 1 k.flywheel, fNat 2 k.mask.toNat]

def decodePartConfig (bs : List Byte) : Option PartConfig :=
  (noticeSetOf (natAt bs 8 2)).map fun m =>
    { warnScale := natAt bs 0 2, wallStale := natAt bs 2 1, tenure := natAt bs 3 2, switchTime := natAt bs 5 2
      flywheel := natAt bs 7 1, mask := m }

/-! ### Entry lengths (R197) -/

/-- The length of a step entry by its kind byte; an undefined kind has none. -/
def stepLength : Nat → Option Nat
  | 0 => some 7
  | 1 => some 16
  | 2 => some 10
  | 3 => some 15
  | 4 => some 12
  | 5 => some 12
  | 6 => some 8
  | 7 => some 4
  | 8 => some 3
  | _ => none

/-- The length of a slot map entry by its kind byte. -/
def slotEntryLength : Nat → Option Nat
  | 0 => some 1
  | 1 => some 4
  | 2 => some 2
  | 3 => some 1
  | _ => none

/-- The length of an entry of a table, `kind` being its first byte. -/
def entryLength (t : Table) (kind : Nat) : Option Nat :=
  match t with
  | .header => some 9
  | .step => stepLength kind
  | .segment => some 8
  | .markset => some 19
  | .scale => some 5
  | .channelConfig => some 25
  | .wallPoint => some 9
  | .slotMap => slotEntryLength kind
  | .reportList => some 3
  | .partConfig => some 10

/-! ### Slots (R196) -/

/-- R149: the line cycle length and number a good sync states. -/
def goodSync (s : Slot) : Option (Nat × Nat) :=
  if s.b0 = 0xB5#8 ∧ slotGood s ∧ 32 ≤ s.b1.toNat ∧ s.b1.toNat ≤ 240 then
    some (s.b1.toNat, 256 * s.b2.toNat + s.b3.toNat)
  else none

/-- R131: the sending node's judgement; any encoding but the first two is FAULT. -/
inductive NodeStatus where
  | ok
  | saturated
  | fault
  deriving DecidableEq, Repr

def nodeStatus (s : Slot) : NodeStatus := if s.b0 = 0#8 then .ok else if s.b0 = 1#8 then .saturated else .fault

/-- R131: the raw value of a sample slot. -/
def rawValue (s : Slot) : Int := intAt [s.b1, s.b2] 0 2

/-- Two bytes of a demand, two's complement when signed. -/
def demandBytes (v : Int) : Byte × Byte :=
  let n := (v % 65536).toNat
  (BitVec.ofNat 8 (n / 256), BitVec.ofNat 8 n)

def jackSlot (valve : Int) (wedge : Bool) (tag : Nat) : Slot :=
  makeSlot (demandBytes valve).1 (demandBytes valve).2 (BitVec.ofNat 8 (boolCode wedge)) (BitVec.ofNat 8 tag)

def winchSlot (demand : Nat) (brake : Bool) (tag : Nat) : Slot :=
  makeSlot (demandBytes demand).1 (demandBytes demand).2 (BitVec.ofNat 8 (boolCode brake)) (BitVec.ofNat 8 tag)

/-- R196: the manifold field is the channel, or FF hex for CLOSED. -/
def manifoldByte : Option Chan → Byte
  | some c => BitVec.ofNat 8 c.val
  | none => 0xFF#8

def pumpSlot (demand : Nat) (manifold : Option Chan) (tag : Nat) : Slot :=
  makeSlot (demandBytes demand).1 (demandBytes demand).2 (manifoldByte manifold) (BitVec.ofNat 8 tag)

/-- R196: a sent report, entry index in bits 5 to 0 and marker in bits 7 and 6 of byte 0. -/
def sentReport (index : Nat) (v : ReportValue) : Slot :=
  makeSlot (v.marker ++ BitVec.ofNat 6 index) (v.bits.extractLsb' 16 8) (v.bits.extractLsb' 8 8) (v.bits.extractLsb' 0 8)

/-- R196: byte 0 FF hex, bytes 1 to 3 zero. -/
def idleReport : Slot := makeSlot 0xFF#8 0#8 0#8 0#8

/-! ### Replies (R157, R168) -/

/-- The slot of four payload bytes, 0 beyond the end. -/
def payloadSlot (bs : List Byte) (k : Nat) : Slot :=
  makeSlot (bs.getD (4 * k) 0#8) (bs.getD (4 * k + 1) 0#8) (bs.getD (4 * k + 2) 0#8) (bs.getD (4 * k + 3) 0#8)

/-- A first slot followed by seven payload slots. -/
def windowOf (first : Slot) (bs : List Byte) : Window :=
  { s1 := first, s2 := payloadSlot bs 0, s3 := payloadSlot bs 1, s4 := payloadSlot bs 2, s5 := payloadSlot bs 3
    s6 := payloadSlot bs 4, s7 := payloadSlot bs 5, s8 := payloadSlot bs 6 }

/-- R157, R196: the eight slots of a reply, header at position 9 and payload at 10 to 16. -/
def Reply.window (r : Reply) : Window :=
  windowOf (makeSlot (BitVec.ofNat 8 r.address) r.kind r.tag (BitVec.ofNat 8 r.status.code)) (fieldsBytes r.payload)

/-- R165, R196: the eight slots a supervisor sends for a request. -/
def requestWindow (destination kind : Nat) (tag : Byte) (payload : List Byte) : Window :=
  windowOf (makeSlot (BitVec.ofNat 8 destination) (BitVec.ofNat 8 kind) tag (BitVec.ofNat 8 payload.length)) payload

/-! ### The parts of a record (R184, R198) -/

/-- R184: 1 plus the number of hold results kept. -/
def Record.partCount (r : Record) : Nat := 1 + r.holds.length

/-- R198: the four bytes that head every part. -/
def Record.partHeader (r : Record) (k : Nat) : List Field :=
  [fNat 1 k,
    fNat 1 (r.partCount + 8 * r.channel.val + 64 * (r.lastIndex / 256) + 128 * boolCode r.payoutLength.isSome),
    fNat 1 (r.lastIndex % 256), fNat 1 r.holdCount]

/-- R198: the grout bits, 0 no volume, 1 volume with no end reason, 2 VOLUME, 3 REFUSAL. -/
def Record.groutBits (r : Record) : Nat :=
  match r.groutVolume, r.groutEnd with
  | none, _ => 0
  | some _, none => 1
  | some _, some .volume => 2
  | some _, some .refusal => 3

/-- R198: the data of part 0. A record in the queue is closed, so its outcome and end count are present. -/
def Record.part0 (r : Record) : List Field :=
  [fNat 1 ((r.outcome.map RunOutcome.code).getD 3 + 4 * (r.fault.map FaultCause.code).getD 15 + 64 * r.groutBits),
    fNat 2 r.tag, fNat 4 r.startCount, fOpt 4 r.endCount, fNat 2 r.peakLoad, fOpt 2 r.lockoffLoad, fOpt 2 r.residualLoad,
    fNat 3 (r.groutVolume.getD 0), fNat 2 (r.payoutLength.getD 0), fNat 1 r.failedChecks, fNat 1 r.overrides]

/-- R198: the data of a hold result part. -/
def HoldResult.fields (h : HoldResult) : List Field :=
  [fNat 1 (h.verdict.code + 4 * boolCode h.ks.isSome + 8 * boolCode h.drift + 16 * h.marks.length),
    fNat 1 (maskOf (h.marks.map Option.isSome)), fNat 1 h.interrupted, fInt 3 (h.ks.getD 0)]
    ++ (List.range 6).map (fun i => fNat 2 (((h.marks.getD i none)).getD 0)) ++ List.replicate 6 (fNat 1 0)

/-- R184: part `k` of a record, 0 or that of a kept hold result. -/
def Record.part (r : Record) (k : Nat) : Option (List Field) :=
  if k = 0 then some (r.partHeader 0 ++ r.part0)
  else (r.holds[k - 1]?).map fun h => r.partHeader k ++ h.fields

end Sys2Proof.Machine
end

