-- ==== Sys2Proof/Machine/Operands.lean ====
section
/-! DEFINITION. How the part reads the operands of a request: the framing of a request window and its addressing
(R164, R165), its checks in order (R166, R197), and the load checks of each table's entries (R1 to R3, R24, R28,
R114, R133, R160, R179, R190). -/

namespace Sys2Proof.Machine

/-! ### Framing (R165) -/

def requestDestination (w : Window) : Nat := w.s1.b0.toNat

def requestKind (w : Window) : Nat := w.s1.b1.toNat

def requestTag (w : Window) : Byte := w.s1.b2

/-- The payload length slot 1 states. -/
def requestLength (w : Window) : Nat := w.s1.b3.toNat

def payloadSlots (w : Window) : List Slot := [w.s2, w.s3, w.s4, w.s5, w.s6, w.s7, w.s8]

/-- R165: slots 2 up to 1 + length/4 rounded up are used; a length above 28 uses all seven. -/
def usedSlots (w : Window) : List Slot := (payloadSlots w).take ((min 28 (requestLength w) + 3) / 4)

/-- R165: the payload bytes, those of used slots beyond the length being ignored. -/
def requestPayload (w : Window) : List Byte := ((usedSlots w).flatMap slotData).take (requestLength w)

/-- R166: a bad check in a payload slot the request uses. -/
def garbledPayload (w : Window) : Bool := (usedSlots w).any fun s => !slotGood s

/-! ### Addressing (R164, R165) -/

/-- How the part takes a request window. -/
inductive Taking where
  | ignored
  | addressed
  | broadcast
  deriving DecidableEq, Repr

def freezeKind : Nat := 7

def resumeKind : Nat := 8

/-- R164: a held address from 1 to 62 makes the part addressed. -/
def State.addressedPart (s : State) : Bool := 1 ≤ s.mgmt.address && s.mgmt.address ≤ 62

/-- R165, R180: the treatment of slot 1. Destination 0 and destinations above 63 equal no address of an addressed
part. -/
def State.taking (s : State) (w : Window) : Taking :=
  if !slotGood w.s1 || s.mgmt.resetPending then .ignored
  else if requestDestination w = 63 then
    if requestKind w = freezeKind ∨ requestKind w = resumeKind then .broadcast else .ignored
  else if s.addressedPart && requestDestination w = s.mgmt.address then .addressed
  else .ignored

/-! ### Payload lengths (R166, R197) -/

/-- R197: the kinds' payload lengths, LOAD_ENTRY (kind 1) excepted. -/
def kindLength : Nat → Option Nat
  | 2 => some 4
  | 3 => some 1
  | 4 => some 2
  | 5 => some 1
  | 6 => some 1
  | 7 => some 1
  | 8 => some 1
  | 9 => some 1
  | 10 => some 10
  | 11 => some 3
  | 12 => some 2
  | 13 => some 1
  | 14 => some 1
  | 15 => some 0
  | 16 => some 1
  | 17 => some 1
  | 18 => some 1
  | 19 => some 2
  | 20 => some 0
  | _ => none

/-- R166, R197: a LOAD_ENTRY is 3 bytes (an EMPTY entry) or 3 plus the entry's length; a payload that names no table
has no right length. The length of an entry whose kind is undefined is not given (log entry 25). -/
def loadLengthRight (bs : List Byte) : Bool :=
  match tableOf (natAt bs 0 1) with
  | none => false
  | some t =>
    if bs.length = 3 then true
    else if bs.length < 3 then false
    else match entryLength t (natAt bs 3 1) with
      | some n => bs.length = 3 + n
      | none => !Config.unknownKindFailsLength (natAt bs 3 1)

/-- R166, third check: the payload length is the one called for. A length above 28 never is. -/
def lengthRight (w : Window) : Bool :=
  requestLength w ≤ 28 &&
    if requestKind w = 1 then loadLengthRight (requestPayload w) else kindLength (requestKind w) = some (requestLength w)

/-! ### Load checks of the entries -/

/-- R1. -/
def Header.ok (h : Header) : Bool :=
  h.tag ≤ 65535 && h.stepFirst ≤ 1023 && 1 ≤ h.stepCount && h.stepCount ≤ 256 && h.segFirst ≤ 511 && h.segCount ≤ 64
    && h.stepFirst + h.stepCount ≤ 1024 && h.segFirst + h.segCount ≤ 512

/-- R28. -/
def Segment.ok (g : Segment) : Bool :=
  g.start ≤ 40000 && -8388608 ≤ g.slope && g.slope ≤ 8388607 && 1 ≤ g.duration && g.duration ≤ 65535

def SourceSet.subset (x y : SourceSet) : Bool :=
  (!x.timer || y.timer) && (!x.release || y.release) && (!x.peer || y.peer) && (!x.wallClear || y.wallClear)

def SourceSet.nonempty (x : SourceSet) : Bool := x.timer || x.release || x.peer || x.wallClear

/-- R2: the load checks of each kind's fields. -/
def StepBody.ok : StepBody → Bool
  | .payout p => 1 ≤ p.target && p.target ≤ 65535 && p.segOffset ≤ 63 && 1 ≤ p.segCount && p.segCount ≤ 64
  | .inject p =>
    1 ≤ p.targetVolume && p.targetVolume ≤ 16777215 && p.demandCeiling ≤ 1000 && p.pressureCeiling ≤ 20000
      && p.refusalPressure ≤ 20000 && p.refusalFlow ≤ 5000 && 1 ≤ p.refusalCount && p.refusalCount ≤ 255
  | .ramp p =>
    p.segOffset ≤ 63 && 1 ≤ p.segCount && p.segCount ≤ 64 && p.settleBand ≤ 40000 && 1 ≤ p.settleNeed
      && p.settleNeed ≤ 255 && 1 ≤ p.settleLimit && p.settleLimit ≤ 65535
  | .hold p =>
    1 ≤ p.duration && p.duration ≤ 16777215 && p.markSet ≤ 31 && p.markA ≤ 5 && p.markB ≤ 5 && p.markA < p.markB
      && 1 ≤ p.kFactor && p.kFactor ≤ 65535 && p.creepLimit ≤ 30000 && p.tolerance ≤ 40000
  | .lockoff p =>
    p.settleCycles ≤ 65535 && 1 ≤ p.releaseSlope && p.releaseSlope ≤ 8388607 && p.seatThreshold ≤ 40000
      && p.allowedLoss ≤ 40000
  | .check p =>
    -2147483648 ≤ p.low && p.low ≤ 2147483647 && -2147483648 ≤ p.high && p.high ≤ 2147483647 && p.low ≤ p.high
  | .await p => p.releaseSet.nonempty && p.divertSet.subset p.releaseSet && p.timer ≤ 16777215
  | .signal _ => true
  | .finish => true

/-- R2. -/
def Step.ok (st : Step) : Bool := st.divert ≤ 255 && st.body.ok

/-- R3: one to six strictly ascending times. -/
def markSetOk (m : MarkSet) : Bool :=
  1 ≤ m.length && m.length ≤ 6 && m.all (· ≤ 16777215) && decide (m.Pairwise (· < ·))

/-- R133. -/
def ScaleEntry.ok (e : ScaleEntry) : Bool :=
  -32768 ≤ e.offset && e.offset ≤ 32767 && -32768 ≤ e.gain && e.gain ≤ 32767 && e.shift ≤ 15

/-- R24. -/
def ChannelConfig.ok (k : ChannelConfig) : Bool :=
  1 ≤ k.staleLimit && k.staleLimit ≤ 255 && 1 ≤ k.echoLimit && k.echoLimit ≤ 200 && k.loadCeiling ≤ 40000
    && k.kp ≤ 4095 && k.ki ≤ 255 && k.imax ≤ 268435455 && k.deadband ≤ 1000 && k.overloadLimit ≤ 40000
    && 1 ≤ k.overloadPersistence && k.overloadPersistence ≤ 255 && k.pgain ≤ 65535 && k.overMargin ≤ 20000
    && 1 ≤ k.overPersistence && k.overPersistence ≤ 255 && k.tensionLimit ≤ 10000 && 1 ≤ k.tensionPersistence
    && k.tensionPersistence ≤ 255

/-- R114: the ranges, warn not above stop, hysteresis below stop. -/
def WallConfig.ok (k : WallConfig) : Bool :=
  -20000 ≤ k.baseline && k.baseline ≤ 20000 && k.warn ≤ 20000 && k.stop ≤ 20000 && k.hysteresis ≤ 1000
    && k.warn ≤ k.stop && k.hysteresis < k.stop

/-- R160: the scale index; the other fields cannot name anything outside the table. -/
def SlotEntry.ok : SlotEntry → Bool
  | .sample _ k => k ≤ 47
  | .pass | .command _ | .report => true

/-- R179. -/
def PartConfig.ok (k : PartConfig) : Bool :=
  k.warnScale ≤ 256 && 1 ≤ k.wallStale && k.wallStale ≤ 255 && 50 ≤ k.tenure && k.tenure ≤ 60000
    && k.switchTime ≤ 2000 && 1 ≤ k.flywheel && k.flywheel ≤ 15

/-! ### Answers -/

/-- What the owning block answers to a request: a status, the reply's fields, and the part after it. -/
structure Answer where
  status : Status
  payload : List Field
  state : State

/-- A refused request: nothing changes and the payload is empty (R174). -/
def refuse (st : Status) (s : State) : Answer := { status := st, payload := [], state := s }

/-- An accepted request. -/
def accept (payload : List Field) (s : State) : Answer := { status := .ok, payload := payload, state := s }

/-- R168: the reply to the request of window `w` becomes the prepared reply. -/
def State.prepare (w : Window) (a : Answer) : State :=
  a.state.updMgmt fun m =>
    { m with prepared := some { address := m.address, kind := w.s1.b1, tag := requestTag w, status := a.status
                                payload := a.payload } }

/-- R166: the notice of a garbled request. -/
def State.latchGarbled (s : State) : State := s.updLatched fun l => { l with mgmtGarbled := true }

/-- R166: an addressed request checked in order: payload checks, payload length, then the request's own checks in
`act`. -/
def takeAddressed (act : List Byte → State → Answer) (w : Window) (s : State) : State :=
  if garbledPayload w then State.prepare w (refuse .garbled s.latchGarbled)
  else if !lengthRight w then State.prepare w (refuse .badValue s)
  else State.prepare w (act (requestPayload w) s)

/-- R166: a broadcast request, acted on without a reply. -/
def takeBroadcast (act : List Byte → State → Answer) (w : Window) (s : State) : State :=
  if garbledPayload w then s.latchGarbled
  else if !lengthRight w then s
  else (act (requestPayload w) s).state

/-- R165, R167: the request of a window is taken by the block that owns what it names. -/
def takeRequest (act : List Byte → State → Answer) (w : Window) (s : State) : State :=
  match s.taking w with
  | .ignored => s
  | .addressed => takeAddressed act w s
  | .broadcast => takeBroadcast act w s

end Sys2Proof.Machine
end

