-- ==== Sys2Proof/Machine/ProfileGenerator.lean ====
section
/-! DEFINITION. The Profile Generator (02_setpoint_profiles.md, R27 to R44): pace, profile steps, segment ends,
engaging, leaving and retargeting, as functions of one generator's state. -/

namespace Sys2Proof.Machine

/-! ### The accumulator and its bound (R35) -/

/-- R35: every write of acc is clamped to 0 and ceiling × 256; a clamp that changes the value sets LIMITED. -/
def Profile.writeAcc (p : Profile) (x : Int) : Profile :=
  let y := clamp 0 (p.ceiling * 256) x
  { p with acc := y.toNat, limited := p.limited || decide (y ≠ x) }

/-- R33, R34, R36: a segment becomes the working segment; an ABSOLUTE one sets acc, a CONTINUE one keeps it. -/
def Profile.work (p : Profile) (g : Segment) : Profile :=
  let p := { p with working := some g, remaining := g.duration }
  match g.mode with
  | .absolute => p.writeAcc (g.start * 256)
  | .cont => p

/-! ### Profile steps (R33, R34) -/

/-- R34: the working segment has ended. The reload follows within the same profile step and is refilled from the
store, or the profile becomes FINISHED. After entry 511 has been taken the next segment is 512, which lies outside
R27's range and which no rule reads (DESIGN CHOICE, log entry 36). -/
def Profile.segmentEnd (store : ProgramStore) (p : Profile) : Profile :=
  match p.reload with
  | some g =>
    let p := p.work g
    if 0 < p.segsLeft then
      { p with reload := store.segment p.next, next := p.next + 1, segsLeft := p.segsLeft - 1 }
    else { p with reload := none }
  | none => { p with status := .finished, working := none }

/-- R33: a slope step: the slope is added to acc and the steps remaining go down by one. -/
def Profile.slopeStep (p : Profile) : Profile :=
  match p.working with
  | some g => { p.writeAcc (p.acc + g.slope) with remaining := p.remaining - 1 }
  | none => p

/-- R33: the slope step of this profile step ends the working segment. -/
def Profile.stepEndsSegment (p : Profile) : Bool := p.staged.isNone && p.working.isSome && p.remaining ≤ 1

/-- R33: a profile step. A staged segment is loaded in place of the step; otherwise the slope is added, and a
segment whose steps have run out ends (R34). -/
def Profile.step (store : ProgramStore) (p : Profile) : Profile :=
  match p.staged with
  | some g => { p with staged := none }.work g
  | none => if p.stepEndsSegment then p.slopeStep.segmentEnd store else p.slopeStep

/-! ### Pace and phase (R31, R32) -/

/-- R31: a staged pace becomes the pace. -/
def Profile.takePace (p : Profile) : Profile :=
  match p.stagedPace with
  | some x => { p with pace := x, stagedPace := none }
  | none => p

/-- R31: the effective pace, `scale` being the warn scale while the wall state is WARN and 256 otherwise. -/
def Profile.effectivePace (scale : Nat) (p : Profile) : Nat := p.pace * scale / 256

/-- R32: the sum of phase and effective pace reaches a profile step. -/
def Profile.crosses (scale : Nat) (p : Profile) : Bool := 256 ≤ p.phase + p.effectivePace scale

/-- R32: the phase advance, with its profile step when the sum is 256 or more. -/
def Profile.advance (store : ProgramStore) (scale : Nat) (p : Profile) : Profile :=
  if p.crosses scale then { (p.step store) with phase := p.phase + p.effectivePace scale - 256 }
  else { p with phase := p.phase + p.effectivePace scale }

/-! ### Engaging and leaving (R36 to R39) -/

/-- R36: the generator loaded from a run of `count` segments that begins at store entry `first`. The next segment of a
run of two that ends at entry 511 is 512 (DESIGN CHOICE, log entry 36). R36 names the next segment of a run of two or more
only; a run of one keeps its old value (DESIGN CHOICE, log entry 27). -/
def Profile.load (store : ProgramStore) (ceiling first count : Nat) (p : Profile) : Profile :=
  let p := { p with ceiling := ceiling, limited := false }
  let p := match store.segment first with
    | some g =>
      let p := { p with working := some g, remaining := g.duration }
      p.writeAcc (match g.mode with
        | .absolute => (g.start * 256 : Int)
        | .cont => p.acc)
    | none => p.writeAcc p.acc
  let p := if 2 ≤ count then
      { p with reload := store.segment (first + 1), next := first + 2, segsLeft := count - 2 }
    else { p with reload := none, segsLeft := 0 }
  { p with phase := 0, staged := none, status := .active }

/-- R37: the generator engaged by a HOLD or LOCKOFF, without a segment. R37 names neither the steps remaining
of the segment that becomes absent nor the next segment; both keep their values (DESIGN CHOICE, log entries 35 and 27). -/
def Profile.engage (ceiling : Nat) (p : Profile) : Profile :=
  { { p with ceiling := ceiling }.writeAcc p.acc with
    working := none, reload := none, staged := none, segsLeft := 0, status := .finished }

/-- R37, R66: the internal release segment of a LOCKOFF. R37 gives its mode, slope and duration and no start; the model
puts 0, which no rule reads in a CONTINUE segment (DESIGN CHOICE, log entry 38). Nor does it name the next segment, which
keeps its value (DESIGN CHOICE, log entry 27). -/
def Profile.release (slope : Nat) (p : Profile) : Profile :=
  { p with
    working := some { mode := .cont, start := 0, slope := -(slope : Int), duration := 65535 }
    reload := none, remaining := 65535, phase := 0, limited := false, status := .active }

/-- R38: the step that engaged the generator is left. R38 names the steps remaining and the next segment neither among
what is cleared nor among what is kept; both keep their values (DESIGN CHOICE, log entries 35 and 27). -/
def Profile.disengage (p : Profile) : Profile :=
  { p with status := .inactive, working := none, reload := none, staged := none, segsLeft := 0 }

/-- R39: the generator cleared at a program start; pace and staged pace are kept. R39 does not name the next
segment, which keeps its value (DESIGN CHOICE, log entry 27). -/
def Profile.clear (p : Profile) : Profile :=
  { p with
    acc := 0, ceiling := 0, phase := 0, status := .inactive, working := none, reload := none, staged := none
    remaining := 0, segsLeft := 0, limited := false }

/-! ### Retargeting (R41 to R43) -/

/-- R43: a finished profile restarted by a retarget of either timing. -/
def Profile.restart (g : Segment) (p : Profile) : Profile :=
  { p with staged := some g, reload := none, segsLeft := 0, phase := 0, status := .active }

/-- R41, R43: a retarget AT_END. -/
def Profile.retargetAtEnd (g : Segment) (p : Profile) : Profile :=
  match p.status with
  | .active => { p with reload := some g, segsLeft := 0 }
  | .finished => p.restart g
  | .inactive => p

/-- R42, R43: a retarget NOW. -/
def Profile.retargetNow (g : Segment) (p : Profile) : Profile :=
  match p.status with
  | .active => { p with staged := some g, reload := none, segsLeft := 0 }
  | .finished => p.restart g
  | .inactive => p

end Sys2Proof.Machine
end

