-- ==== Sys2Proof/Machine/JackLoops.lean ====
section
/-! DEFINITION. The Jack Loop's computation (R46 to R48), the fields the command slots carry (R7, R46, R49, R85, R86,
R92) and their writing into the passing slots (R159). -/

namespace Sys2Proof.Machine

/-! ### The computation (R47, R48) -/

/-- R47: the effective error e′, 0 within the deadband and e in full outside it. -/
def effectiveError (k : ChannelConfig) (setpoint load : Nat) : Int :=
  if distance setpoint load ≤ k.deadband then 0 else (setpoint : Int) - load

/-- R47: the integral candidate Ic. -/
def integralCandidate (k : ChannelConfig) (e integral : Int) : Int :=
  clamp (-(k.imax : Int)) k.imax (integral + e * k.ki)

/-- R48: e′ × Kp + I, shifted right by 12. -/
def rawOutput (k : ChannelConfig) (e integral : Int) : Int := shiftRight (e * k.kp + integral) 12

/-- R48: the output saturates in the direction the error pushes it. -/
def saturatesWith (raw e : Int) : Bool := (raw > 1000 && e > 0) || (raw < -1000 && e < 0)

/-- R47, R48: the integral after the computation and the valve demand u. -/
def loopOutput (k : ChannelConfig) (setpoint load : Nat) (integral : Int) : Int × Int :=
  let e := effectiveError k setpoint load
  let ic := integralCandidate k e integral
  let raw := rawOutput k e ic
  if saturatesWith raw e then (integral, clamp (-1000) 1000 (rawOutput k e integral))
  else (ic, clamp (-1000) 1000 raw)

/-! ### The jack command (R46, R49) -/

/-- R46: the step and phase in which the loop runs: a RAMP, a HOLD, or a LOCKOFF in its release phase. -/
def StepWork.runsLoop : StepWork → Bool
  | .ramp _ | .hold _ => true
  | .lockoff w => w.phase = .releasing
  | .none | .payout _ | .inject _ | .check _ | .await _ | .signal | .finish => false

/-- R46: the load the loop computes with, when its three conditions hold. -/
def State.loopLoad (s : State) (c : Chan) : Option Nat :=
  let ch := s.chan c
  if ch.state = .running ∧ ch.phase = .active ∧ ch.work.runsLoop then s.chanValue c .jackLoad else none

/-- R46, R48: the loop's items after the jack command slot passes. Where the computation does not run, the demand is
0 and I is kept. -/
def State.jackAfter (s : State) (c : Chan) : JackLoop :=
  let ch := s.chan c
  match s.loopLoad c with
  | some load =>
    let o := loopOutput ch.config (s.setpoint c) load ch.jack.integral
    { ch.jack with integral := o.1, lastValve := o.2 }
  | none => { ch.jack with lastValve := 0 }

/-! ### The winch command (R92) -/

/-- R92: the winch drives. -/
def State.winchDrives (s : State) (c : Chan) : Bool :=
  let ch := s.chan c
  decide (ch.state = .running ∧ ch.phase = .active) &&
    match ch.work with
    | .payout w => w.startLength.isSome && !w.hold && s.available (.chan c .winchTension)
    | .none | .inject _ | .ramp _ | .hold _ | .lockoff _ | .check _ | .await _ | .signal | .finish => false

/-- R92: the demand and brake of the winch command slot. -/
def State.winchFields (s : State) (c : Chan) : Nat × Bool :=
  if s.winchDrives c then (s.setpoint c, false) else (0, true)

/-! ### The pump command (R85, R86) -/

/-- R85: the demand of a GRANTED holder's INJECT at a line pressure: the headroom × pgain, shifted right by 8, limited
to the step's demand ceiling. -/
def holderDemand (step : InjectStep) (pgain pressure : Nat) : Nat :=
  min step.demandCeiling ((step.pressureCeiling - pressure) * pgain / 256)

/-- The INJECT step a channel is in. -/
def State.injectStep (s : State) (c : Chan) : Option InjectStep :=
  match s.currentStep c with
  | some { body := .inject p, .. } => some p
  | _ => none

/-- R85: the demand the Arbiter writes. -/
def State.pumpDemand (s : State) (p : Pump) : Nat :=
  match (s.arb p).state with
  | .free => 0
  | .switching _ => 0
  | .granted c =>
    match s.injectStep c, s.chanValue c .groutPressure with
    | some step, some pressure => holderDemand step (s.chan c).config.pgain pressure
    | _, _ => 0

/-- R86: the manifold field, the position in FREE and the holder otherwise. -/
def Arbiter.manifoldField (a : Arbiter) : Option Chan :=
  match a.state with
  | .free => a.manifold
  | .switching c => some c
  | .granted c => some c

/-! ### Writing the slots (R158, R159) -/

/-- R158: the active bank's entry for the slot that arrives next, when that is at a mapped position of the worked
cycle. -/
def State.nextEntry (s : State) : Option SlotEntry :=
  if s.worked && !s.atSync && 17 ≤ s.nextPos then some (bankEntry s.line.active s.nextPos) else none

/-- R46 to R49: the jack command slot of channel `c` passes. -/
def writeJack (c : Chan) (s : State) : State :=
  let j := s.jackAfter c
  (s.updJack c fun _ => j).sendNext (jackSlot j.lastValve (s.chan c).wedge s.tag)

/-- R92, R93: the winch command slot of channel `c` passes. -/
def writeWinch (c : Chan) (s : State) : State :=
  let f := s.winchFields c
  (s.updChan c fun ch => { ch with lastWinch := f.1, lastBrake := f.2 }).sendNext (winchSlot f.1 f.2 s.tag)

/-- R85, R86: the command slot of pump `p` passes. -/
def writePump (p : Pump) (s : State) : State :=
  let d := s.pumpDemand p
  (s.updArb p fun a => { a with lastDemand := d }).sendNext (pumpSlot d (s.arb p).manifoldField s.tag)

end Sys2Proof.Machine
end

