-- ==== Sys2Proof/Machine/Arbiters.lean ====
section
/-! DEFINITION. The Pump Arbiters (R77 to R84): grants, claims, withdrawals, and what a cycle start does to a switch
and to a tenure. The claim standing of a channel (R70) is written here, with the Arbiter's own state. -/

namespace Sys2Proof.Machine

/-- R70, R72: the channel's copy of its place at the Arbiter. The refusal count is 0 outside GRANTED. -/
def State.setStanding (c : Chan) (st : Standing) (s : State) : State :=
  s.updChan c fun ch =>
    match ch.work with
    | .inject w => { ch with work := .inject { w with standing := st, refusals := if st = .granted then w.refusals else 0 } }
    | .none | .payout _ | .ramp _ | .hold _ | .lockoff _ | .check _ | .await _ | .signal | .finish => ch

/-- R79: the Arbiter at the start of a grant to `c`. -/
def Arbiter.grant (c : Chan) (tenure switchTime : Nat) (a : Arbiter) : Arbiter :=
  let a := { a with tenureHeld := tenure, switchHeld := switchTime, begun := true, tenureCount := 0 }
  if a.manifold = some c ∨ switchTime = 0 then { a with state := .granted c, manifold := some c }
  else { a with state := .switching c, switchCount := 0 }

/-- R79: a grant to `c` starts. The tenure count of a switch is 0 (DEDUCED, log entry 12). -/
def startGrant (p : Pump) (c : Chan) (s : State) : State :=
  let s := s.updArb p (·.grant c s.mgmt.config.tenure s.mgmt.config.switchTime)
  s.setStanding c (match (s.arb p).state with
    | .granted _ => .granted
    | .free | .switching _ => .switching)

/-- R78: a claim reaches the Arbiter. -/
def claimPump (p : Pump) (c : Chan) (s : State) : State :=
  match (s.arb p).state with
  | .free => startGrant p c s
  | .switching _ | .granted _ => (s.updArb p fun a => { a with queue := a.queue ++ [c] }).setStanding c .queued

/-- R82: the pump is passed on to the head of its queue, or goes FREE. -/
def passOn (p : Pump) (s : State) : State :=
  match (s.arb p).queue with
  | c :: rest => startGrant p c (s.updArb p fun a => { a with queue := rest })
  | [] => s.updArb p fun a => { a with state := .free, switchCount := 0, tenureCount := 0 }

/-- R82: a withdrawal by `c` reaches the Arbiter. -/
def withdrawPump (p : Pump) (c : Chan) (s : State) : State :=
  (match (s.arb p).state with
    | .switching h =>
      if h = c then passOn p (s.updArb p fun a => { a with switchCount := 0 })
      else s.updArb p fun a => { a with queue := a.queue.filter (· ≠ c) }
    | .granted h =>
      if h = c then passOn p (s.updArb p fun a => { a with tenureCount := 0 })
      else s.updArb p fun a => { a with queue := a.queue.filter (· ≠ c) }
    | .free => s.updArb p fun a => { a with queue := a.queue.filter (· ≠ c) }).setStanding c .none

/-- R69, R75: the INJECT of a channel claims the pump of its channel's binding. -/
def makeClaim (c : Chan) (s : State) : State :=
  match (s.chan c).config.pump with
  | some p => claimPump p c s
  | none => s

/-- R16, R75, R76: an INJECT whose claim standing is not NONE withdraws its claim; its refusal count becomes 0. -/
def withdrawClaim (c : Chan) (s : State) : State :=
  match (s.chan c).work with
  | .inject w =>
    if w.standing = .none then s.setStanding c .none
    else match (s.chan c).config.pump with
      | some p => withdrawPump p c s
      | none => s.setStanding c .none
  | .none | .payout _ | .ramp _ | .hold _ | .lockoff _ | .check _ | .await _ | .signal | .finish => s

/-! ### Cycle starts (R80, R81) -/

/-- R80: this cycle start completes the switch. -/
def Arbiter.switchDone (a : Arbiter) : Bool :=
  match a.state with
  | .switching _ => !a.begun && a.switchCount + 1 = a.switchHeld
  | .free | .granted _ => false

/-- R81: this cycle start brings the tenure to its end. -/
def Arbiter.tenureDone (a : Arbiter) : Bool :=
  match a.state with
  | .granted _ => !a.begun && a.tenureCount + 1 = a.tenureHeld
  | .free | .switching _ => false

/-- R80: the switch completes. -/
def completeSwitch (p : Pump) (s : State) : State :=
  match (s.arb p).state with
  | .switching c =>
    (s.updArb p fun a =>
      { a with state := .granted c, manifold := some c, switchCount := 0, tenureCount := 0 }).setStanding c .granted
  | .free | .granted _ => s

/-- R81: the tenure has expired. With an empty queue it starts again; otherwise the holder joins the tail, the head is
granted the pump and PUMP_TENURE is latched. -/
def expireTenure (p : Pump) (s : State) : State :=
  match (s.arb p).state with
  | .granted c =>
    match (s.arb p).queue with
    | [] => s.updArb p fun a => { a with tenureCount := 0 }
    | d :: rest =>
      let s := (s.updArb p fun a => { a with queue := rest ++ [c] }).setStanding c .queued
      (startGrant p d s).updLatched fun l => { l with pumpTenure := true }
  | .free | .switching _ => s

/-- R80, R81: a cycle start reaches the Arbiter. The cycle start at which the switch or grant began does not count. -/
def arbiterCycle (p : Pump) (s : State) : State :=
  let a := s.arb p
  if a.begun then s
  else if a.switchDone then completeSwitch p s
  else if a.tenureDone then expireTenure p s
  else match a.state with
    | .switching _ => s.updArb p fun a => { a with switchCount := a.switchCount + 1 }
    | .granted _ => s.updArb p fun a => { a with tenureCount := a.tenureCount + 1 }
    | .free => s

end Sys2Proof.Machine
end

