-- ==== Sys2Proof/Machine/Channels.lean ====
section
/-! DEFINITION. The Channel Sequencer's shared operations: freeze causes (R17, R18), faults and failures (R15, R16),
leaving a step (R13, R14) with the accounting of its kind (R57, R63, R68, R76, R99), starting and ending a program
(R9, R10, R19, R20, R23) and the record offered to the Record Queue (R185, R186). -/

namespace Sys2Proof.Machine

/-! ### Freezing and going RUNNING again (R17, R18) -/

/-- R18: what going FROZEN does to the current step: an INJECT withdraws its claim, every other kind is held as it
stands. -/
def freezeEffect (c : Chan) (s : State) : State := withdrawClaim c s

/-- R61: a HOLD starts again. -/
def HoldWork.restart (w : HoldWork) : HoldWork :=
  { elapsed := 0, marks := w.marks.map fun _ => none, drift := false, interrupted := satAdd 255 w.interrupted 1 }

/-- R18: what leaving FROZEN does to the current step: a HOLD restarts, an INJECT claims its pump again. -/
def thawEffect (c : Chan) (s : State) : State :=
  match (s.chan c).work with
  | .hold w => s.setWork c (.hold w.restart)
  | .inject _ => makeClaim c s
  | .none | .payout _ | .ramp _ | .lockoff _ | .check _ | .await _ | .signal | .finish => s

/-- R141: an addition of SAMPLE_STALE that finds it absent latches the notice. -/
def latchStale (k : FreezeCause) (s : State) : State :=
  if k = .sampleStale then s.updLatched fun l => { l with sampleStale := true } else s

/-- R17: a cause reaches a channel. An IDLE channel takes none, a cause present is not added twice, and a RUNNING
channel goes FROZEN. -/
def addCause (k : FreezeCause) (c : Chan) (s : State) : State :=
  let ch := s.chan c
  if ch.state = .idle ∨ ch.freeze.has k then s
  else
    let s := latchStale k (s.updChan c fun ch => { ch with freeze := ch.freeze.add k })
    if ch.state = .running then freezeEffect c (s.updChan c fun ch => { ch with state := .frozen }) else s

/-- R17: causes are removed from a channel's set; a FROZEN channel whose set becomes empty goes RUNNING. -/
def removeCauses (g : FreezeSet) (c : Chan) (s : State) : State :=
  let s := s.updChan c fun ch => { ch with freeze := ch.freeze.without g }
  if (s.chan c).state = .frozen ∧ (s.chan c).freeze.isEmpty then
    thawEffect c (s.updChan c fun ch => { ch with state := .running })
  else s

def FreezeSet.onlyStale : FreezeSet := { FreezeSet.empty with sampleStale := true }

/-- The order in which the channels take this freezing event: a free value of the state, then every channel it leaves
out (log entry 8). A channel named again takes nothing further (R17). -/
def freezeTurn (s : State) : List Chan := s.freezeOrders.headD [] ++ allChans

/-- The order of a freezing event is used once. -/
def State.freezeTaken (s : State) : State := { s with freezeOrders := s.freezeOrders.tail }

/-- R122, R123, R127: a cause is added to every channel that is not IDLE, in an order the manual leaves open. -/
def addCauseToAll (k : FreezeCause) (s : State) : State :=
  (freezeTurn s).foldl (fun s c => addCause k c s) s.freezeTaken

/-- R119, R122: after a change of the wall points, a wall state that has become STOP adds WALL_STOP. -/
def wallChanged (before : WallState) (s : State) : State :=
  if s.wallState = .stop ∧ before ≠ .stop then addCauseToAll .wallStop s else s

/-- A change of one wall point, the wall state being formed again (R119). -/
def State.changeWall (w : Point) (x : WallPoint) (s : State) : State := wallChanged s.wallState (s.setWall w x)

/-! ### Faults (R16) -/

/-- R16: a fault reaches a channel. RUNNING and FROZEN channels go FAULTED; in every other state nothing changes. -/
def faultChannel (cause : FaultCause) (c : Chan) (s : State) : State :=
  let ch := s.chan c
  if ch.state = .running ∨ ch.state = .frozen then
    withdrawClaim c
      ((s.updChan c fun ch =>
        { ch with state := .faulted, fault := some cause, record := ch.record.map fun r => { r with fault := some cause } })
        |>.updLatched fun l => { l with channelFault := true })
  else s

/-! ### Leaving a step (R13) -/

/-- R76: the step volume and the end reason go into the record. -/
def Record.addInject (w : InjectWork) (r : Record) : Record :=
  { r with
    groutVolume := some (match r.groutVolume with
      | none => w.volume
      | some v => satAdd 16777215 v w.volume)
    groutEnd := w.endReason }

/-- R99: the payout length, when the step has a start length. -/
def Record.addPayout (w : PayoutWork) (r : Record) : Record :=
  if w.startLength.isSome then { r with payoutLength := some w.progress } else r

/-- R13: the end-of-step accounting of the step's kind: R38 for the four kinds that engage the generator, R68, R76,
R99. A HOLD's result is appended before it is left (R63). -/
def stepAccounting (c : Chan) (s : State) : State :=
  match (s.chan c).work with
  | .ramp _ | .hold _ => s.updProfile c Profile.disengage
  | .payout w => (s.updProfile c Profile.disengage).updRecord c (Record.addPayout w)
  | .lockoff _ =>
    s.updChan c fun ch =>
      { ch with profile := ch.profile.disengage, wedge := false, jack := { ch.jack with integral := 0 } }
  | .inject w => (withdrawClaim c s).updRecord c (Record.addInject w)
  | .none | .check _ | .await _ | .signal | .finish => s

/-- R13: the current step is left: its accounting is done, its claim withdrawn, its working fields discarded, the step
context becomes `phase` with `index`, and SAMPLE_STALE is removed. -/
def leaveStep (phase : StepPhase) (index : Nat) (c : Chan) (s : State) : State :=
  removeCauses FreezeSet.onlyStale c
    ((stepAccounting c s).updChan c fun ch => { ch with phase := phase, index := index, work := .none })

/-- R14: index + 1, an index of 256 giving 256. -/
def nextIndex (i : Nat) : Nat := min 256 (i + 1)

/-- R14: the step completes and index + 1 is named. -/
def completeStep (c : Chan) (s : State) : State := leaveStep .takeUp (nextIndex (s.chan c).index) c s

/-- R14: the step is left and its divert target named. -/
def divertStep (divert : Nat) (c : Chan) (s : State) : State := leaveStep .takeUp divert c s

/-- R15: the record's failed-check count goes up by one, saturating at 255 (R23). -/
def Record.countFailed (r : Record) : Record := { r with failedChecks := satAdd 255 r.failedChecks 1 }

/-- R15: a failure under CONTINUE. -/
def failContinue (c : Chan) (s : State) : State := completeStep c (s.updRecord c Record.countFailed)

/-- R15: the ACTIVE step `step` fails with a cause, acted on through its on-fail course. -/
def failStep (step : Step) (cause : FaultCause) (c : Chan) (s : State) : State :=
  match step.onFail with
  | .halt => faultChannel cause c s
  | .divert => divertStep step.divert c s
  | .cont => failContinue c s

/-! ### Hold results (R63, R101) -/

/-- R63: a hold result is appended to the record: the first three are kept, all are counted (saturating at 255). -/
def Record.appendHold (h : HoldResult) (r : Record) : Record :=
  { r with
    holdCount := satAdd 255 r.holdCount 1
    holds := if r.holds.length < 3 then r.holds ++ [h] else r.holds }

/-- R63, R101: the result is appended and the last-creep value becomes its ks. -/
def appendResult (h : HoldResult) (c : Chan) (s : State) : State :=
  (s.updRecord c (Record.appendHold h)).updChan c fun ch => { ch with lastCreep := h.ks }

/-! ### Program start (R9) -/

/-- R23: the record as it is opened. -/
def Record.opened (c : Chan) (tag startCount : Nat) : Record :=
  { channel := c, tag := tag, outcome := none, fault := none, startCount := startCount, endCount := none, peakLoad := 0
    lockoffLoad := none, residualLoad := none, groutVolume := none, groutEnd := none, payoutLength := none
    holdCount := 0, holds := [], failedChecks := 0, overrides := 0, lastIndex := 0 }

/-- R9: the freeze conditions that stand at the moment of a start. -/
def startCauses (s : State) (f : FreezeSet) : FreezeSet :=
  let f := if s.wallState = .stop then f.add .wallStop else f
  if s.pins.panel then f.add .panel else f

/-- R9: the program of header `i` starts on a channel; its lock set has been counted. The generator is cleared (R39),
the integral and the overload count are 0 (R50, R52) and the last-creep value is absent (R101). -/
def startProgram (i : Nat) (c : Chan) (s : State) : State :=
  let tag := ((s.store.header i).map Header.tag).getD 0
  let f := startCauses s (s.chan c).freeze
  s.updChan c fun ch =>
    { ch with
      record := some (Record.opened c tag s.line.count), filed := none, fault := none
      program := some i, index := 0, phase := .takeUp, work := .none
      profile := ch.profile.clear, jack := { ch.jack with integral := 0, overloads := 0 }, lastCreep := none
      freeze := f, state := if f.isEmpty then .running else .frozen }

/-! ### Program end (R19, R20, R185) -/

/-- R50, R52: a channel goes IDLE. -/
def goIdle (c : Chan) (s : State) : State :=
  s.updChan c fun ch =>
    { ch with state := .idle, filed := none, freeze := FreezeSet.empty, jack := { ch.jack with integral := 0, overloads := 0 } }

/-- R19, R20: a channel whose record has been filed starts its pending program, or goes IDLE. -/
def afterFiling (c : Chan) (s : State) : State :=
  match (s.chan c).pendingProgram with
  | some i => startProgram i c (s.updChan c fun ch => { ch with pendingProgram := none })
  | none => goIdle c s

/-- R185: the Record Queue has room below 16 records. -/
def State.queueHasRoom (s : State) : Bool := s.records.queue.length < 16

/-- R19, R185: a closed record is offered: pushed at the tail, or held with the channel joining the filing list. -/
def offerRecord (r : Record) (c : Chan) (s : State) : State :=
  if s.queueHasRoom then afterFiling c (s.updRecords fun q => { q with queue := q.queue ++ [r] })
  else
    (s.updChan c fun ch => { ch with state := .filing, filed := some r }).updRecords fun q =>
      { q with filing := q.filing ++ [c] }

/-- R19, R183: the record closed with its outcome, end count and last step index. -/
def Record.close (o : RunOutcome) (count index : Nat) (r : Record) : Record :=
  { r with outcome := some o, endCount := some count, lastIndex := index }

/-- R5, R19: the lock set of a channel's program is counted down. -/
def unlockCurrent (c : Chan) (s : State) : State :=
  match (s.chan c).program with
  | some i => s.unlockProgram i
  | none => s

/-- R19: the program ends: the record is closed, the lock set counted down, the freeze-cause set emptied, the
last-creep value discarded (R101), and the record offered. The channel holds no fault cause afterwards (DEDUCED, log
entry 9) and its step index stays as it stands (DEDUCED, log entry 10). -/
def endProgram (o : RunOutcome) (c : Chan) (s : State) : State :=
  let closed := (s.chan c).record.map (Record.close o s.line.count (s.chan c).index)
  let s := (unlockCurrent c s).updChan c fun ch =>
    { ch with
      freeze := FreezeSet.empty, lastCreep := none, fault := none, program := none, phase := .none, work := .none
      record := none }
  match closed with
  | some r => offerRecord r c s
  | none => afterFiling c s

/-- R10, R21: the pending program is discarded and its lock set counted down. -/
def discardPending (c : Chan) (s : State) : State :=
  match (s.chan c).pendingProgram with
  | some i => (s.unlockProgram i).updChan c fun ch => { ch with pendingProgram := none }
  | none => s

/-! ### The freed place (R186) -/

/-- R177, R186: the oldest record is removed; the place freed goes to the head of the filing list, which pushes its
held record and starts its pending program or goes IDLE. -/
def freePlace (s : State) : State :=
  let s := s.updRecords fun q => { q with queue := q.queue.tail }
  match s.records.filing with
  | [] => s
  | c :: rest =>
    afterFiling c (s.updRecords fun q => { queue := q.queue ++ (s.chan c).filed.toList, filing := rest })

end Sys2Proof.Machine
end

