-- ==== Sys2Proof/Machine/Steps.lean ====
section
/-! DEFINITION. What a Channel Sequencer does at a cycle start: taking up a step (R11, R12, R29 and the entry actions
of each kind) and the cycle-start work of an ACTIVE step (R56, R59, R62, R65, R91, R103, R105 to R107, R111, R112). -/

namespace Sys2Proof.Machine

/-! ### Take-up (R11, R12, R29) -/

/-- R29: every segment of a run is present. -/
def runPresent (store : ProgramStore) (first count : Nat) : Bool :=
  (List.range count).all fun k => (store.segment (first + k)).isSome

/-- R11, R29: the segment run of a RAMP or PAYOUT lies within the header's window and holds no EMPTY entry. -/
def runFits (store : ProgramStore) (h : Header) (offset count : Nat) : Bool :=
  offset + count ≤ h.segCount && runPresent store (h.segFirst + offset) count

/-- R11, R29: the tests a step kind makes before its bindings are checked. -/
def kindTest (store : ProgramStore) (h : Header) : StepBody → Bool
  | .ramp p => runFits store h p.segOffset p.segCount
  | .payout p => runFits store h p.segOffset p.segCount
  | .hold p =>
    match store.markSet p.markSet with
    | some m => p.markB < m.length
    | none => false
  | .inject _ | .lockoff _ | .check _ | .await _ | .signal _ | .finish => true

/-- R11, R12: what a take-up attempt comes to: a step to enter, or the cause it faults with. -/
inductive TakeUp where
  | enter (h : Header) (step : Step)
  | fail (cause : FaultCause)
  deriving DecidableEq, Repr

/-- R11, R12, R29: the tests of a take-up, in order. -/
def State.takeUpTest (s : State) (c : Chan) : TakeUp :=
  match s.programHeader c with
  | none => .fail .badStep
  | some h =>
    if (s.chan c).index < h.stepCount then
      match s.store.step (h.stepFirst + (s.chan c).index) with
      | none => .fail .badStep
      | some step =>
        if !kindTest s.store h step.body then .fail .badStep
        else if !s.bindingsPresent c step.body then .fail .badBinding
        else .enter h step
    else .fail .badStep

/-- R101, R102: a record quantity as it stands at take-up; a live quantity is captured when the step is decided. -/
def capturedAtTakeUp (ch : Channel) : Quantity → Option Int
  | .peakLoad => ch.record.map fun r => (r.peakLoad : Int)
  | .groutVolume => (ch.record.bind Record.groutVolume).map Int.ofNat
  | .payoutLength => (ch.record.bind Record.payoutLength).map Int.ofNat
  | .lastCreep => ch.lastCreep
  | .jackLoad | .anchorLoad | .jackStroke | .groutPressure | .groutFlow | .winchPayout | .winchTension => none

/-- R101: the measurand of a live quantity. -/
def Quantity.measurand : Quantity → Option Measurand
  | .jackLoad => some .jackLoad
  | .anchorLoad => some .anchorLoad
  | .jackStroke => some .jackStroke
  | .groutPressure => some .groutPressure
  | .groutFlow => some .groutFlow
  | .winchPayout => some .winchPayout
  | .winchTension => some .winchTension
  | .peakLoad | .groutVolume | .payoutLength | .lastCreep => none

/-- R53, R58, R64, R69, R90, R102, R105: the working fields at take-up. -/
def entryWork (s : State) (c : Chan) : StepBody → StepWork
  | .ramp _ => .ramp { phase := .profiling, settle := 0, unsettled := 0 }
  | .hold p =>
    .hold { elapsed := 0, marks := ((s.store.markSet p.markSet).getD []).map fun _ => none, drift := false, interrupted := 0 }
  | .lockoff _ => .lockoff { phase := .seating, settle := 0, load := none }
  | .inject _ => .inject { standing := .none, volume := 0, refusals := 0, overs := 0, endReason := none }
  | .payout _ => .payout { startLength := s.chanValue c .winchPayout, progress := 0, tension := 0, hold := false }
  | .check p => .check { captured := capturedAtTakeUp (s.chan c) p.quantity }
  | .await _ => .await { elapsed := 0, latch := false }
  | .signal _ => .signal
  | .finish => .finish

/-- R35: the profile ceiling of a PAYOUT. -/
def payoutCeiling : Nat := 1000

/-- R36, R37: the generator at the entry of a step. -/
def entryProfile (store : ProgramStore) (h : Header) (loadCeiling : Nat) (p : Profile) : StepBody → Profile
  | .ramp x => p.load store loadCeiling (h.segFirst + x.segOffset) x.segCount
  | .payout x => p.load store payoutCeiling (h.segFirst + x.segOffset) x.segCount
  | .hold _ => p.engage loadCeiling
  | .lockoff _ => p.engage loadCeiling
  | .inject _ | .check _ | .await _ | .signal _ | .finish => p

/-- R64: the wedge flag at the entry of a step: a LOCKOFF sets it. -/
def entryWedge (wedge : Bool) : StepBody → Bool
  | .lockoff _ => true
  | .payout _ | .inject _ | .ramp _ | .hold _ | .check _ | .await _ | .signal _ | .finish => wedge

/-- R11: the step is entered: phase ACTIVE, working fields and entry actions, before staleness is looked at. -/
def enterContext (h : Header) (step : Step) (c : Chan) (s : State) : State :=
  s.updChan c fun ch =>
    { ch with
      phase := .active, work := entryWork s c step.body, tookUp := true
      profile := entryProfile s.store h ch.config.loadCeiling ch.profile step.body
      wedge := entryWedge ch.wedge step.body }

/-- R11, R69: a required input that is unavailable at entry adds SAMPLE_STALE; otherwise an INJECT makes its claim. -/
def enterStep (h : Header) (step : Step) (c : Chan) (s : State) : State :=
  let s := enterContext h step c s
  if !s.requiredAvailable c step.body then addCause .sampleStale c s
  else match step.body with
    | .inject _ => makeClaim c s
    | .payout _ | .ramp _ | .hold _ | .lockoff _ | .check _ | .await _ | .signal _ | .finish => s

/-- R11, R12: a take-up attempt that faults: the step phase becomes NONE with the index kept. -/
def failTakeUp (cause : FaultCause) (c : Chan) (s : State) : State :=
  (faultChannel cause c s).updChan c fun ch => { ch with phase := .none }

/-- R11: a RUNNING channel in phase TAKE_UP takes up the step at its index. -/
def takeUp (c : Chan) (s : State) : State :=
  match s.takeUpTest c with
  | .enter h step => enterStep h step c s
  | .fail cause => failTakeUp cause c s

/-! ### RAMP (R56) -/

/-- R56: this cycle start counts toward the settle limit. -/
def rampCounts (ch : Channel) (w : RampWork) : Bool := decide (w.phase = .settling) && !ch.becameSettling

/-- R56: the unsettled count goes up by one; at the settle limit the step fails with RAMP_UNSETTLED. -/
def rampCycle (step : Step) (p : RampStep) (w : RampWork) (c : Chan) (s : State) : State :=
  if rampCounts (s.chan c) w then
    let s := s.setWork c (.ramp { w with unsettled := w.unsettled + 1 })
    if p.settleLimit ≤ w.unsettled + 1 then failStep step .rampUnsettled c s else s
  else s

/-! ### HOLD (R59, R62) -/

/-- R59: the mark list after the marks at the elapsed count that are within reach have been recorded. -/
def recordMarks (times : MarkSet) (duration elapsed : Nat) (stroke : Option Nat) (marks : List (Option Nat)) :
    List (Option Nat) :=
  List.zipWith (fun t m => if t = elapsed ∧ t ≤ duration then (stroke.or m) else m) times marks

/-- R59: a mark time of the set is recorded at this elapsed count. -/
def markDue (times : MarkSet) (duration elapsed : Nat) : Bool := times.any fun t => t = elapsed && t ≤ duration

/-- R62: ks from the strokes at the creep pair. -/
def creep (strokeA strokeB k : Nat) : Int := shiftRight (((strokeB : Int) - strokeA) * k + 512) 10

/-- R62: ks, absent when either entry of the pair is. -/
def holdCreep (p : HoldStep) (marks : List (Option Nat)) : Option Int :=
  match marks.getD p.markA none, marks.getD p.markB none with
  | some a, some b => some (creep a b p.kFactor)
  | _, _ => none

/-- R62: the verdict of a completed hold. -/
def holdVerdict (p : HoldStep) (drift : Bool) (ks : Option Int) : Verdict :=
  if drift then .fail
  else match ks with
    | none => .incomplete
    | some x => if x > p.creepLimit then .fail else .pass

/-- R62, R63: the result is formed and appended, then the verdict's course is acted on. -/
def holdDone (step : Step) (p : HoldStep) (w : HoldWork) (c : Chan) (s : State) : State :=
  let ks := holdCreep p w.marks
  let v := holdVerdict p w.drift ks
  let s := appendResult { verdict := v, ks := ks, marks := w.marks, drift := w.drift, interrupted := w.interrupted } c s
  if w.drift then failContinue c s
  else match v with
    | .fail => failStep step .creepExceeded c s
    | .pass => completeStep c s
    | .incomplete => completeStep c s

/-- R59: mark, then completion or count. -/
def holdCycle (step : Step) (p : HoldStep) (w : HoldWork) (c : Chan) (s : State) : State :=
  let times := (s.store.markSet p.markSet).getD []
  let marks := recordMarks times p.duration w.elapsed (s.chanValue c .jackStroke) w.marks
  if w.elapsed = p.duration then
    let w := { w with marks := marks }
    holdDone step p w c (s.setWork c (.hold w))
  else s.setWork c (.hold { w with marks := marks, elapsed := w.elapsed + 1 })

/-! ### LOCKOFF (R65, R66) -/

/-- R65: the lock-off load, taken now if it is absent. -/
def lockoffLoad (s : State) (c : Chan) (w : LockoffWork) : Option Nat := w.load.or (s.chanValue c .jackLoad)

/-- R65: the lock-off load is written into the record when it is taken. -/
def takeLockoffLoad (w : LockoffWork) (load : Nat) (c : Chan) (s : State) : State :=
  if w.load.isNone then s.updRecord c fun r => { r with lockoffLoad := some load } else s

/-- R65, R66: the cycle-start work of a SEATING LOCKOFF. -/
def lockoffCycle (step : Step) (p : LockoffStep) (w : LockoffWork) (c : Chan) (s : State) : State :=
  match w.phase with
  | .releasing => s
  | .seating =>
    match lockoffLoad s c w with
    | none => failStep step .noData c s
    | some load =>
      let s := takeLockoffLoad w load c s
      if w.settle = p.settleCycles then
        (s.setWork c (.lockoff { w with load := some load, phase := .releasing })).updProfile c (·.release p.releaseSlope)
      else s.setWork c (.lockoff { w with load := some load, settle := w.settle + 1 })

/-! ### PAYOUT (R91) -/

/-- R91: a PAYOUT without a start length takes it, or fails with NO_DATA. -/
def payoutCycle (step : Step) (w : PayoutWork) (c : Chan) (s : State) : State :=
  if w.startLength.isSome then s
  else match s.chanValue c .winchPayout with
    | some v => s.setWork c (.payout { w with startLength := some v })
    | none => failStep step .noData c s

/-! ### CHECK (R103) -/

/-- R103: the captured value once the step is decided: a live quantity is read at this cycle start. -/
def checkValue (s : State) (c : Chan) (p : CheckStep) (w : CheckWork) : Option Int :=
  match p.quantity.measurand with
  | some m => s.availableValue (.chan c m)
  | none => w.captured

/-- R103: a CHECK is decided. -/
def checkCycle (step : Step) (p : CheckStep) (w : CheckWork) (c : Chan) (s : State) : State :=
  let v := checkValue s c p w
  let s := s.setWork c (.check { captured := v })
  match v with
  | none => failStep step .noData c s
  | some x => if x < p.low ∨ p.high < x then failStep step .checkFailed c s else completeStep c s

/-! ### AWAIT (R105 to R107) -/

/-- R105: the timer runs. -/
def timerRuns (p : AwaitStep) : Bool := p.releaseSet.timer && decide (0 < p.timer)

/-- R105: the elapsed count after this cycle start, saturating at 16,777,215. -/
def awaitElapsed (p : AwaitStep) (w : AwaitWork) : Nat :=
  if timerRuns p then satAdd 16777215 w.elapsed 1 else w.elapsed

/-- R106: the sources of the release set present at this cycle start. -/
def awaitPresent (s : State) (c : Chan) (p : AwaitStep) (w : AwaitWork) : AwaitSource → Bool
  | .timer => p.releaseSet.timer && timerRuns p && awaitElapsed p w = p.timer
  | .release => p.releaseSet.release && w.latch
  | .peer => p.releaseSet.peer && (s.chan c).peer
  | .wallClear => p.releaseSet.wallClear && s.wallState = .normal

def SourceSet.has (x : SourceSet) : AwaitSource → Bool
  | .timer => x.timer
  | .release => x.release
  | .peer => x.peer
  | .wallClear => x.wallClear

/-- R107: the first present source in the order TIMER, RELEASE, PEER, WALL_CLEAR. -/
def awaitDecider (s : State) (c : Chan) (p : AwaitStep) (w : AwaitWork) : Option AwaitSource :=
  [AwaitSource.timer, .release, .peer, .wallClear].find? (awaitPresent s c p w)

/-- R107: only the deciding source is consumed: PEER clears the peer flag; a latch goes with the step's fields. -/
def consumeSource (x : AwaitSource) (c : Chan) (s : State) : State :=
  match x with
  | .peer => s.updChan c fun ch => { ch with peer := false }
  | .timer | .release | .wallClear => s

/-- R106, R107: an AWAIT advances its timer and is released by the first source present. -/
def awaitCycle (step : Step) (p : AwaitStep) (w : AwaitWork) (c : Chan) (s : State) : State :=
  match awaitDecider s c p w with
  | none => s.setWork c (.await { w with elapsed := awaitElapsed p w })
  | some x =>
    let s := consumeSource x c s
    if p.divertSet.has x then divertStep step.divert c s else completeStep c s

/-! ### SIGNAL (R111) -/

/-- R110, R111: a SIGNAL completes and its target's peer flag is set. -/
def signalCycle (target : Chan) (c : Chan) (s : State) : State :=
  (completeStep c s).updChan target fun ch => { ch with peer := true }

/-! ### One channel at one cycle start -/

/-- The cycle-start work of the current step of a RUNNING channel, by its kind. An INJECT has none (R69). -/
def stepCycle (step : Step) (c : Chan) (s : State) : State :=
  match step.body, (s.chan c).work with
  | .ramp p, .ramp w => rampCycle step p w c s
  | .hold p, .hold w => holdCycle step p w c s
  | .lockoff p, .lockoff w => lockoffCycle step p w c s
  | .payout _, .payout w => payoutCycle step w c s
  | .check p, .check w => checkCycle step p w c s
  | .await p, .await w => awaitCycle step p w c s
  | .signal t, .signal => signalCycle t c s
  | .finish, .finish => endProgram .completed c s
  | _, _ => s

/-- R11, R18: what a Channel Sequencer does at a cycle start: only a RUNNING channel acts, and a step does no
cycle-start work at the cycle start at which it was taken up. -/
def sequencerCycle (c : Chan) (s : State) : State :=
  let ch := s.chan c
  match ch.state, ch.phase with
  | .running, .takeUp => takeUp c s
  | .running, .active =>
    if ch.tookUp then s
    else match s.currentStep c with
      | some step => stepCycle step c s
      | none => s
  | _, _ => s

/-- R54: when the profile of a RAMP becomes FINISHED, its ramp phase becomes SETTLING. -/
def settleRamp (before : ProfileStatus) (c : Chan) (s : State) : State :=
  match (s.chan c).work with
  | .ramp _ =>
    if before = .active ∧ (s.chan c).profile.status = .finished then
      s.updChan c fun ch =>
        { ch with work := .ramp { phase := .settling, settle := 0, unsettled := 0 }, becameSettling := true }
    else s
  | .none | .payout _ | .inject _ | .hold _ | .lockoff _ | .check _ | .await _ | .signal | .finish => s

/-- R31: s of the effective pace: the warn scale while the wall state is WARN, 256 otherwise. -/
def State.paceScale (s : State) : Nat := if s.wallState = .warn then s.mgmt.config.warnScale else 256

/-- R32: the three conditions of a phase advance. -/
def Channel.advances (ch : Channel) : Bool :=
  decide (ch.state = .running ∧ ch.profile.status = .active) && !ch.tookUp

/-- R31, R32: a Profile Generator at a cycle start: the staged pace is taken, then the phase advances. -/
def profileCycle (c : Chan) (s : State) : State :=
  let s := s.updProfile c Profile.takePace
  if (s.chan c).advances then
    settleRamp .active c (s.updProfile c (·.advance s.store s.paceScale))
  else s

/-! ### Echo checks (R143, R144) -/

/-- R143: the echo age of a record against the low 8 bits of the site cycle count. -/
def echoAge (tag : Nat) (r : InputRecord) : Int := ((tag : Int) - r.value) % 256

/-- R144: a check fails: invalid record, or echo age or record age beyond the limit. -/
def echoFails (s : State) (limit : Nat) (t : Target) : Bool :=
  s.bound t &&
    match s.input t with
    | none => true
    | some r => !r.valid || decide ((limit : Int) < echoAge s.tag r) || decide (limit < r.age)

/-- R144: the echo inputs whose actuators a RUNNING channel's step uses. -/
def echoesInUse (ch : Channel) (c : Chan) : List Target :=
  match ch.work with
  | .ramp _ | .hold _ | .lockoff _ => [.chan c .jackEcho]
  | .payout _ => [.chan c .winchEcho]
  | .inject w => if w.standing = .granted then (ch.config.pump.map Target.pumpEcho).toList else []
  | .none | .check _ | .await _ | .signal | .finish => []

/-- R144: the channel's echo check fails at this cycle start. -/
def State.silent (s : State) (c : Chan) : Bool :=
  let ch := s.chan c
  decide (ch.state = .running ∧ ch.phase = .active) && !ch.tookUp &&
    (echoesInUse ch c).any (echoFails s ch.config.echoLimit)

/-- R144: a failed check faults the channel with NODE_SILENT. -/
def echoCycle (c : Chan) (s : State) : State := if s.silent c then faultChannel .nodeSilent c s else s

/-! ### Staleness (R141) -/

/-- R141: a required input of the current step is unavailable. -/
def State.stepStale (s : State) (c : Chan) : Bool :=
  let ch := s.chan c
  decide (ch.state = .running ∨ ch.state = .frozen ∨ ch.state = .faulted) &&
    match s.currentStep c with
    | some step => !s.requiredAvailable c step.body
    | none => false

/-- R141: SAMPLE_STALE is added. -/
def staleCycle (c : Chan) (s : State) : State := if s.stepStale c then addCause .sampleStale c s else s

end Sys2Proof.Machine
end

