-- ==== Sys2Proof/Machine/Walls.lean ====
section
/-! DEFINITION. The Wall Monitor (07_wall_movement_and_freezing.md, R114 to R121): displacement, classification,
staleness, loads, baselines and clears of wall points. -/

namespace Sys2Proof.Machine

/-- R116: a point's classification: its state and its STOP latch. -/
structure Classification where
  state : PointState
  latch : Bool
  deriving DecidableEq, Repr

/-- R116: the first row that applies, by displacement `d`, state before and latch. -/
def classify (k : WallConfig) (before : PointState) (latch : Bool) (d : Nat) : Classification :=
  if latch then { state := .stop, latch := true }
  else if k.stop ≤ d then { state := .stop, latch := true }
  else if k.warn ≤ d then { state := .warn, latch := false }
  else if (before = .warn ∨ before = .stale) ∧ k.warn ≤ d + k.hysteresis then { state := .warn, latch := false }
  else { state := .normal, latch := false }

/-- R115: the displacement of a value from the baseline. -/
def displacement (k : WallConfig) (value : Int) : Nat := distance value k.baseline

/-- R116: an enabled point classified by a value; a disabled point is left as it stands. -/
def WallPoint.classified (value : Int) (x : WallPoint) : WallPoint :=
  if x.config.enable then
    let k := classify x.config x.state x.latch (displacement x.config value)
    { x with state := k.state, latch := k.latch }
  else x

/-- R116: an accepted sample of a point reaches the Wall Monitor. -/
def wallSample (w : Point) (value : Int) (s : State) : State := s.changeWall w ((s.wall w).classified value)

/-- R117: an enabled point whose latch is clear goes STALE when its input is unavailable. -/
def State.pointStale (s : State) (w : Point) : Bool :=
  (s.wall w).config.enable && !(s.wall w).latch && !s.available (.wallMove w)

/-- R117: what a cycle start does to a point. -/
def wallStaleCycle (w : Point) (s : State) : State :=
  if s.pointStale w then s.changeWall w { s.wall w with state := .stale } else s

/-- R118: the point a load of configuration `k` leaves. -/
def loadedPoint (s : State) (w : Point) (k : WallConfig) : WallPoint :=
  if k.enable then
    match s.availableValue (.wallMove w) with
    | none => { config := k, state := .stale, latch := false }
    | some v => WallPoint.classified v { config := k, state := .normal, latch := false }
  else { config := k, state := .normal, latch := false }

/-- R120: the point with its baseline set to a value and classified by it. -/
def WallPoint.rebased (v : Int) (x : WallPoint) : WallPoint :=
  WallPoint.classified v { x with config := { x.config with baseline := v } }

/-- R121: the displacement lets a STOP latch be cleared. -/
def clearAllowed (k : WallConfig) (d : Nat) : Bool := d + k.hysteresis < k.stop

/-- R121: a cleared point, treated as coming down from WARN. -/
def WallPoint.cleared (d : Nat) (x : WallPoint) : WallPoint :=
  { x with latch := false, state := if x.config.warn ≤ d + x.config.hysteresis then .warn else .normal }

/-- R130: a point's state formed again by a device reset. -/
def WallPoint.afterReset (x : WallPoint) : WallPoint :=
  { x with state := if x.latch then .stop else if x.config.enable then .stale else .normal }

end Sys2Proof.Machine
end

