-- ==== Sys2Proof/Machine/Samples.lean ====
section
/-! DEFINITION. Input Conversion (08_measurands_and_calibration.md): a sample's acceptance (R132), conversion (R134,
R143) and record (R136), the readers it is handed to in their order (R136), and the removal of SAMPLE_STALE (R142). -/

namespace Sys2Proof.Machine

/-! ### Acceptance and conversion (R132, R134, R143) -/

/-- 00_scope.md, Units and ranges: the range a converted value is clamped into. -/
def Measurand.range : Measurand → Int × Int
  | .jackLoad | .anchorLoad => (0, 40000)
  | .jackStroke => (0, 30000)
  | .groutPressure => (0, 20000)
  | .groutFlow => (0, 5000)
  | .winchPayout => (0, 65535)
  | .winchTension => (0, 10000)
  | .jackEcho | .winchEcho => (0, 255)

def Target.range : Target → Int × Int
  | .chan _ m => m.range
  | .pumpEcho _ => (0, 255)
  | .wallMove _ => (-20000, 20000)

/-- R143: the echo inputs. -/
def Target.isEcho : Target → Bool
  | .chan _ .jackEcho | .chan _ .winchEcho | .pumpEcho _ => true
  | .chan _ .jackLoad | .chan _ .anchorLoad | .chan _ .jackStroke | .chan _ .groutPressure | .chan _ .groutFlow
  | .chan _ .winchPayout | .chan _ .winchTension | .wallMove _ => false

/-- R134, steps 1 to 3: (c − offset) × gain, shifted right by the entry's shift. -/
def scaled (e : ScaleEntry) (raw : Int) : Int := shiftRight ((raw - e.offset) * e.gain) e.shift

/-- R134: the converted value and the saturated flag. -/
def convert (e : ScaleEntry) (range : Int × Int) (saturated : Bool) (raw : Int) : Int × Bool :=
  let v := scaled e raw
  let y := clamp range.1 range.2 v
  (y, saturated || decide (y ≠ v))

/-- R132, R134, R143: the record a sample slot gives its target, absent when the sample is rejected. -/
def acceptSample (s : State) (t : Target) (scale : Nat) (slot : Slot) : Option InputRecord :=
  if !slotGood slot || nodeStatus slot = .fault then none
  else
    let saturated := decide (nodeStatus slot = .saturated)
    let aux := slot.b3.toNat
    if t.isEcho then some { value := aux, valid := true, age := 0, saturated := saturated, aux := aux }
    else match Sparse.get none s.scales scale with
      | none => none
      | some e =>
        let y := convert e t.range saturated (rawValue slot)
        some { value := y.1, valid := true, age := 0, saturated := y.2, aux := aux }

/-! ### Readers of a JACK_LOAD sample -/

/-- R51: the record's peak load. -/
def peakLoad (c : Chan) (v : Nat) (s : State) : State := s.updRecord c fun r => { r with peakLoad := max r.peakLoad v }

/-- R52: the overload count after a sample. -/
def overloadCount (ch : Channel) (v : Nat) : Nat :=
  if ch.config.overloadLimit < v then satAdd 255 ch.jack.overloads 1 else 0

/-- R52: this sample raises the OVERLOAD fault. -/
def overloadRaised (ch : Channel) (v : Nat) : Bool :=
  decide (ch.state ≠ .idle ∧ ch.config.overloadLimit < v ∧ ch.config.overloadPersistence ≤ overloadCount ch v)

/-- R52: the overload check. -/
def overloadCheck (c : Chan) (v : Nat) (s : State) : State :=
  let ch := s.chan c
  if ch.state = .idle then s
  else
    let s := s.updJack c fun j => { j with overloads := overloadCount ch v }
    if overloadRaised ch v then faultChannel .overload c s else s

/-- R55: the settle count after a sample. -/
def settleCount (band setpoint : Nat) (w : RampWork) (v : Nat) : Nat :=
  if distance v setpoint ≤ band then satAdd 255 w.settle 1 else 0

/-- R55: the RAMP a RUNNING channel is SETTLING in. -/
def State.settling (s : State) (c : Chan) : Option (RampStep × RampWork) :=
  match (s.chan c).state, s.currentStep c, (s.chan c).work with
  | .running, some { body := .ramp p, .. }, .ramp w => if w.phase = .settling then some (p, w) else none
  | _, _, _ => none

/-- R55: this sample completes the RAMP. -/
def State.settles (s : State) (c : Chan) (v : Nat) : Bool :=
  match s.settling c with
  | some (p, w) => decide (p.settleNeed ≤ settleCount p.settleBand (s.setpoint c) w v)
  | none => false

/-- R55: the settle test. -/
def settleTest (c : Chan) (v : Nat) (s : State) : State :=
  match s.settling c with
  | some (p, w) =>
    let s' := s.setWork c (.ramp { w with settle := settleCount p.settleBand (s.setpoint c) w v })
    if s.settles c v then completeStep c s' else s'
  | none => s

/-- R60: the drift test of a RUNNING HOLD. -/
def driftTest (c : Chan) (v : Nat) (s : State) : State :=
  match (s.chan c).state, s.currentStep c, (s.chan c).work with
  | .running, some step, .hold w =>
    match step.body with
    | .hold p =>
      if distance v (s.setpoint c) ≤ p.tolerance then s
      else match step.onFail with
        | .halt => faultChannel .loadDrift c s
        | .divert =>
          divertStep step.divert c
            (appendResult { verdict := .fail, ks := none, marks := w.marks, drift := w.drift, interrupted := w.interrupted }
              c s)
        | .cont => s.setWork c (.hold { w with drift := true })
    | .payout _ | .inject _ | .ramp _ | .lockoff _ | .check _ | .await _ | .signal _ | .finish => s
  | _, _, _ => s

/-- R67: the residual load: ANCHOR_LOAD when it is bound and available. -/
def State.residual (s : State) (c : Chan) : Option Nat :=
  if s.bound (.chan c .anchorLoad) then s.chanValue c .anchorLoad else none

/-- R67: the loss exceeds the allowed loss. -/
def lossExceeds (load residual : Option Nat) (allowed : Nat) : Bool :=
  match load, residual with
  | some l, some r => decide (r + allowed < l)
  | _, _ => false

/-- R67: the completion test of a RELEASING LOCKOFF. -/
def lockoffTest (c : Chan) (v : Nat) (s : State) : State :=
  match (s.chan c).state, s.currentStep c, (s.chan c).work with
  | .running, some step, .lockoff w =>
    match step.body with
    | .lockoff p =>
      if w.phase = .releasing ∧ s.setpoint c = 0 ∧ v ≤ p.seatThreshold then
        let residual := s.residual c
        let s := s.updRecord c fun r => { r with residualLoad := residual }
        if lossExceeds w.load residual p.allowedLoss then failStep step .lockoffLoss c s else completeStep c s
      else s
    | .payout _ | .inject _ | .ramp _ | .hold _ | .check _ | .await _ | .signal _ | .finish => s
  | _, _, _ => s

/-! ### Readers of the grouting samples -/

/-- The RUNNING or FROZEN INJECT of a channel, with its step. -/
def State.injecting (s : State) (c : Chan) : Option (Step × InjectStep × InjectWork) :=
  match s.currentStep c, (s.chan c).work with
  | some { onFail := f, divert := d, body := .inject p }, .inject w => some ({ onFail := f, divert := d, body := .inject p }, p, w)
  | _, _ => none

/-- R71: the volume count. -/
def volumeCount (c : Chan) (v : Nat) (s : State) : State :=
  match (s.chan c).state, s.injecting c with
  | .running, some (_, p, w) =>
    let volume := satAdd 16777215 w.volume v
    if p.targetVolume ≤ volume then completeStep c (s.setWork c (.inject { w with volume := volume, endReason := some .volume }))
    else s.setWork c (.inject { w with volume := volume })
  | _, _ => s

/-- R72: the refusal test is met. -/
def refusalMet (s : State) (c : Chan) (p : InjectStep) (v : Nat) : Bool :=
  match s.chanValue c .groutPressure with
  | some pressure => decide (p.refusalPressure ≤ pressure ∧ v ≤ p.refusalFlow)
  | none => false

/-- R72: the refusal count after a flow sample. -/
def refusalCountAfter (s : State) (c : Chan) (p : InjectStep) (w : InjectWork) (v : Nat) : Nat :=
  if refusalMet s c p v then satAdd 255 w.refusals 1 else 0

/-- R72: the RUNNING INJECT with standing GRANTED that makes the refusal test. -/
def State.refusing (s : State) (c : Chan) : Option (Step × InjectStep × InjectWork) :=
  match (s.chan c).state, s.injecting c with
  | .running, some (step, p, w) => if w.standing = .granted then some (step, p, w) else none
  | _, _ => none

/-- R72, R73: this flow sample brings the refusal count to the step's refusal count. -/
def State.refuses (s : State) (c : Chan) (v : Nat) : Bool :=
  match s.refusing c with
  | some (_, p, w) => decide (p.refusalCount ≤ refusalCountAfter s c p w v)
  | none => false

/-- R73: the refusal count has reached the step's: the end reason is REFUSAL, the count 0. -/
def refuseStep (step : Step) (p : InjectStep) (w : InjectWork) (c : Chan) (s : State) : State :=
  let s := s.setWork c (.inject { w with refusals := 0, endReason := some .refusal })
  if p.acceptRefusal then completeStep c s else failStep step .refusal c s

/-- R72, R73: the refusal test. -/
def refusalTest (c : Chan) (v : Nat) (s : State) : State :=
  match s.refusing c with
  | some (step, p, w) =>
    if s.refuses c v then refuseStep step p w c s
    else s.setWork c (.inject { w with refusals := refusalCountAfter s c p w v })
  | none => s

/-- R74: the over count after a pressure sample. -/
def overCount (p : InjectStep) (k : ChannelConfig) (w : InjectWork) (v : Nat) : Nat :=
  if p.pressureCeiling + k.overMargin < v then satAdd 255 w.overs 1 else 0

/-- R74: the ACTIVE INJECT of a RUNNING or FROZEN channel. -/
def State.pressureChecked (s : State) (c : Chan) : Option (InjectStep × InjectWork) :=
  if (s.chan c).state = .running ∨ (s.chan c).state = .frozen then (s.injecting c).map fun x => (x.2.1, x.2.2) else none

/-- R74: this pressure sample raises the OVERPRESSURE fault. -/
def State.overpressured (s : State) (c : Chan) (v : Nat) : Bool :=
  match s.pressureChecked c with
  | some (p, w) =>
    decide (p.pressureCeiling + (s.chan c).config.overMargin < v
      ∧ (s.chan c).config.overPersistence ≤ overCount p (s.chan c).config w v)
  | none => false

/-- R74: the overpressure check. -/
def overpressureCheck (c : Chan) (v : Nat) (s : State) : State :=
  match s.pressureChecked c with
  | some (p, w) =>
    let s' := s.setWork c (.inject { w with overs := overCount p (s.chan c).config w v })
    if s.overpressured c v then faultChannel .overpressure c s' else s'
  | none => s

/-! ### Readers of the winching samples -/

/-- R94: progress and completion of a RUNNING PAYOUT with its start length present. -/
def payoutProgress (c : Chan) (v : Nat) (s : State) : State :=
  match (s.chan c).state, s.currentStep c, (s.chan c).work with
  | .running, some { body := .payout p, .. }, .payout w =>
    match w.startLength with
    | some l =>
      let s := s.setWork c (.payout { w with progress := v - l })
      if p.target ≤ v - l then completeStep c s else s
    | none => s
  | _, _, _ => s

/-- R96: the tension count after a tension sample. -/
def tensionCount (k : ChannelConfig) (w : PayoutWork) (v : Nat) : Nat :=
  if k.tensionLimit < v then satAdd 255 w.tension 1 else 0

/-- R96: the ACTIVE PAYOUT of a RUNNING or FROZEN channel. -/
def State.tensionChecked (s : State) (c : Chan) : Option PayoutWork :=
  match (s.chan c).state, (s.chan c).phase, (s.chan c).work with
  | .running, .active, .payout w => some w
  | .frozen, .active, .payout w => some w
  | _, _, _ => none

/-- R97: this tension sample raises the TENSION_LIMIT fault. -/
def State.overtensioned (s : State) (c : Chan) (v : Nat) : Bool :=
  match s.tensionChecked c with
  | some w =>
    decide ((s.chan c).config.tensionLimit < v ∧ (s.chan c).config.tensionPersistence ≤ tensionCount (s.chan c).config w v)
  | none => false

/-- R96, R97: the tension check. -/
def tensionCheck (c : Chan) (v : Nat) (s : State) : State :=
  match s.tensionChecked c with
  | some w =>
    let k := (s.chan c).config
    let s' := s.setWork c (.payout { w with hold := decide (k.tensionLimit < v), tension := tensionCount k w v })
    if s.overtensioned c v then faultChannel .tensionLimit c s' else s'
  | none => s

/-! ### The order of the readers (R136) -/

/-- R136: the tests that act at an accepted sample of a measurand, in their order. -/
def readers (c : Chan) (v : Nat) : Measurand → List (State → State)
  | .jackLoad => [peakLoad c v, overloadCheck c v, settleTest c v, driftTest c v, lockoffTest c v]
  | .groutFlow => [volumeCount c v, refusalTest c v]
  | .groutPressure => [overpressureCheck c v]
  | .winchPayout => [payoutProgress c v]
  | .winchTension => [tensionCheck c v]
  | .anchorLoad | .jackStroke | .jackEcho | .winchEcho => []

/-- R142: an accepted sample that leaves every required input of the current step available removes SAMPLE_STALE. -/
def removeStale (c : Chan) (s : State) : State :=
  match s.currentStep c with
  | some step =>
    if (s.chan c).freeze.sampleStale && s.requiredAvailable c step.body then removeCauses FreezeSet.onlyStale c s else s
  | none => s

/-- R136: an accepted sample is handed to the readers of its target. -/
def handSample (t : Target) (r : InputRecord) (s : State) : State :=
  match t with
  | .chan c m => removeStale c ((readers c r.value.toNat m).foldl (fun s f => f s) s)
  | .pumpEcho _ => s
  | .wallMove w => wallSample w r.value s

/-- R132, R136: a sample of a target is taken, or rejected with nothing changed. -/
def takeSample (t : Target) (scale : Nat) (slot : Slot) (s : State) : State :=
  match acceptSample s t scale slot with
  | none => s
  | some r => handSample t r (s.setInput t r)

/-- R131, R158: the target and scale index, when the slot that arrives next is at a SAMPLE position. -/
def State.nextSample (s : State) : Option (Target × Nat) :=
  match s.nextEntry with
  | some (.sample t k) => some (t, k)
  | _ => none

/-- The channel, the value and the part as the tests meet it, when the slot that arrives next is an accepted
sample of the measurand given. -/
def State.acceptedNext (s : State) (m : Measurand) (slot : Slot) : Option (Chan × Nat × State) :=
  match s.nextSample with
  | some (.chan c m', k) =>
    if m' = m then (acceptSample s (.chan c m') k slot).map fun r => (c, r.value.toNat, s.setInput (.chan c m') r) else none
  | _ => none

/-! ### The outcomes of a sample that are rows of their own -/

/-- R52: the sample that arrives next faults its channel with OVERLOAD. -/
def overloadOccurs (slot : Slot) (s : State) : Bool :=
  match s.acceptedNext .jackLoad slot with
  | some (c, v, s) => overloadRaised (s.chan c) v && decide ((s.chan c).state = .running ∨ (s.chan c).state = .frozen)
  | none => false

/-- R55: the sample that arrives next completes a RAMP; the overload check comes before (R136). -/
def rampSettledOccurs (slot : Slot) (s : State) : Bool :=
  match s.acceptedNext .jackLoad slot with
  | some (c, v, s) => (overloadCheck c v (peakLoad c v s)).settles c v
  | none => false

/-- R73: the flow sample that arrives next completes the refusal count; the volume count comes before (R136). -/
def refusalOccurs (slot : Slot) (s : State) : Bool :=
  match s.acceptedNext .groutFlow slot with
  | some (c, v, s) => (volumeCount c v s).refuses c v
  | none => false

/-- R74: the pressure sample that arrives next faults its channel with OVERPRESSURE. -/
def overpressureOccurs (slot : Slot) (s : State) : Bool :=
  match s.acceptedNext .groutPressure slot with
  | some (c, v, s) => s.overpressured c v
  | none => false

/-- R97: the tension sample that arrives next faults its channel with TENSION_LIMIT. -/
def tensionLimitOccurs (slot : Slot) (s : State) : Bool :=
  match s.acceptedNext .winchTension slot with
  | some (c, v, s) => s.overtensioned c v
  | none => false

end Sys2Proof.Machine
end

