-- ==== Sys2Proof/Machine/Resets.lean ====
section
/-! DEFINITION. Device resets (R26, R163, R180 to R182 and each block's reset rule), the end of a reset (R164, R199),
and the fall to HUNT with the replies it drops (R127, R152, R153, R169). -/

namespace Sys2Proof.Machine

/-! ### What each block holds after a device reset -/

/-- R163: the Line Port; held N, the site cycle count, the last line cycle number and both banks are kept. -/
def LinePort.deviceReset (l : LinePort) : LinePort :=
  { l with alignment := .hunt, slotPos := 0, misses := 0, swapPending := false }

/-- R6, R26: the entries are kept and every lock count is 0. -/
def ProgramStore.deviceReset (st : ProgramStore) : ProgramStore :=
  { st with headerLocks := [], stepLocks := [], segmentLocks := [], markSetLocks := [] }

/-- R145: every record that exists is kept, invalid with age 255. -/
def invalidateRecords (t : SparseTable (Option InputRecord)) : SparseTable (Option InputRecord) :=
  t.map fun e => (e.1, e.2.map fun _ => InputRecord.fresh)

/-- R187: the records are kept and the filing list is emptied. -/
def RecordQueue.deviceReset (q : RecordQueue) : RecordQueue := { q with filing := [] }

/-- R195: both lists are kept; the position is 0, nothing is last sent, and swap-pending is clear. -/
def Composer.deviceReset (r : Composer) : Composer :=
  { r with listPos := 0, lastSent := r.active.map fun _ => none, swapPending := false }

/-- R168, R182: no reply, no reset pending, the latched notices cleared; the part configuration is kept. -/
def Management.deviceReset (m : Management) : Management :=
  { m with
    prepared := none, owed := none, replyWritten := false, window := [], resetPending := false
    latched := { Latched.afterReset with reset := false } }

/-- R26: a device reset takes effect: every program is cut off without a record, and every block takes its device
reset values. The commands that wait, the slots already sent and the pins are not the part's to reset. -/
def deviceReset (s : State) : State :=
  { s with
    line := s.line.deviceReset
    store := s.store.deviceReset
    inputs := invalidateRecords s.inputs
    chans := s.chans.map fun ch => Channel.afterReset ch.config
    pumpA := Arbiter.afterReset
    pumpB := Arbiter.afterReset
    walls := s.walls.map WallPoint.afterReset
    records := s.records.deviceReset
    reports := s.reports.deviceReset
    mgmt := s.mgmt.deviceReset
    due := [] }

/-- R164, R181, R182, R188, R199: a device reset ends: the strap and the panel level are taken as they are, the reset
cause is left, and RESET is latched. -/
def endReset (cause : ResetCause) (strap : BitVec 6) (panel : Bool) (s : State) : State :=
  { s with
    mgmt := { s.mgmt with
      resetCause := cause, address := strap.toNat, latched := { s.mgmt.latched with reset := true } }
    pins := { strap := strap, panel := panel, resetIn := false } }

/-- R180: the device reset of a RESET_PART. -/
def requestReset (strap : BitVec 6) (panel : Bool) (s : State) : State :=
  endReset .request strap panel (deviceReset s)

/-! ### The fall to HUNT -/

/-- R197: RESET_PART is kind 20. -/
def resetPartKind : Byte := 20#8

/-- R180: the reply is the OK of a RESET_PART. -/
def Reply.ofReset (r : Reply) : Bool := r.kind = resetPartKind && r.status = .ok

/-- R180: a reply that ends here, sent or dropped, is the OK of a pending RESET_PART. -/
def State.endsReset (s : State) (r : Option Reply) : Bool :=
  s.mgmt.resetPending && match r with
    | some r => r.ofReset
    | none => false

/-- R180: the device reset of a RESET_PART is now due. -/
def State.resetDue (s : State) : State := { s with due := s.due ++ [.deviceReset] }

/-- R169: on a fall to HUNT both replies are dropped, and with them a request window handed over in part, whose request
is never taken (R167, log entry 43); the dropped OK of a RESET_PART sets the device reset going (R180). -/
def dropReplies (s : State) : State :=
  let reset := s.endsReset s.mgmt.prepared || s.endsReset s.mgmt.owed
  let s := s.updMgmt fun m => { m with prepared := none, owed := none, replyWritten := false, window := [] }
  if reset then s.resetDue else s

/-- R152, R153: alignment is lost from a worked state: HUNT, the notice LINE_LOST latched, the cause added to every
channel that is not IDLE (R127), and the replies dropped (R169). -/
def fallToHunt (s : State) : State :=
  let s := s.updLine fun l => { l with alignment := .hunt }
  let s := s.updLatched fun l => { l with lineLost := true }
  dropReplies (addCauseToAll .lineLost s)

end Sys2Proof.Machine
end

