-- ==== Sys2Proof/Machine/CycleStart.lean ====
section
/-! DEFINITION. The cycle start (R154, R155, R168) as work that is set going and taken piece by piece. The manual
leaves open in which order the receivers take one cycle start and gives the outcome of each order; the order is the
sender's, and work the sender does not order is done, in one fixed order, before the next command that could see it
(log entry 3). -/

namespace Sys2Proof.Machine

/-! ### The pieces -/

/-- The work of one cycle start, in the order the model takes what the sender has not ordered. -/
def cycleStartWork : List CycleWork :=
  [.mapSwap, .listSwap, .ageing] ++ allPoints.map .wallStale ++ allChans.map .inputStale ++ allChans.map .profile
    ++ allChans.map .echo ++ allChans.map .sequencer ++ [.arbiter .a, .arbiter .b]

/-- R137: every record ages by one, saturating at 255. -/
def ageRecords (s : State) : State :=
  { s with inputs := s.inputs.map fun e => (e.1, e.2.map fun r => { r with age := satAdd 255 r.age 1 }) }

/-- R135, R162: a target that has no record gains one. -/
def createRecord (t : Target) (s : State) : State :=
  match s.input t with
  | none => s.setInput t InputRecord.fresh
  | some _ => s

/-- R135, R162: every SAMPLE target of the active bank has a record. -/
def createRecords (s : State) : State :=
  s.line.active.foldl (fun s e => match e.2 with
    | .sample t _ => createRecord t s
    | .pass | .command _ | .report => s) s

/-- R161: a pending slot map swap is carried out. -/
def mapSwapCycle (s : State) : State :=
  if s.line.swapPending then
    createRecords (s.updLine fun l => { l with active := l.shadow, shadow := l.active, swapPending := false })
  else s

/-- R193: the report lists exchange. -/
def Composer.swap (r : Composer) : Composer :=
  { active := r.shadow, shadow := r.active, listPos := 0, lastSent := r.shadow.map fun _ => none, swapPending := false }

/-- R193: with an empty active list a pending swap is carried out at the cycle start. -/
def listSwapCycle (s : State) : State :=
  if s.reports.swapPending ∧ s.reports.active = [] then s.updReports Composer.swap else s

/-- One piece of due work, by its receiver's rule. A device reset uses the pin levels last known. -/
def performWork (w : CycleWork) (s : State) : State :=
  match w with
  | .ageing => ageRecords s
  | .mapSwap => mapSwapCycle s
  | .listSwap => listSwapCycle s
  | .wallStale p => wallStaleCycle p s
  | .inputStale c => staleCycle c s
  | .profile c => profileCycle c s
  | .echo c => echoCycle c s
  | .sequencer c => sequencerCycle c s
  | .arbiter p => arbiterCycle p s
  | .deviceReset => requestReset s.pins.strap s.pins.panel s

/-- A piece is done once: it must be due, and is not due afterwards. -/
def doWork (w : CycleWork) (s : State) : State :=
  if w ∈ s.due then performWork w { s with due := s.due.filter (· ≠ w) } else s

/-! ### What must come first -/

/-- R11, R69: a channel whose take-up at this cycle start will claim its pump. -/
def State.willClaim (s : State) (c : Chan) : Option Pump :=
  if (s.chan c).state = .running ∧ (s.chan c).phase = .takeUp then
    match s.takeUpTest c with
    | .enter _ step =>
      match step.body with
      | .inject _ => if s.requiredAvailable c step.body then (s.chan c).config.pump else none
      | .payout _ | .ramp _ | .hold _ | .lockoff _ | .check _ | .await _ | .signal _ | .finish => none
    | .fail _ => none
  else none

/-- R78: claims that reach an Arbiter together are taken in ascending channel number. -/
def lowerClaimants (s : State) (c : Chan) : List CycleWork :=
  match s.willClaim c with
  | some p => (allChans.filter fun d => d < c ∧ s.willClaim d = some p).map .sequencer
  | none => []

/-- The work the rules put before a piece of the same cycle start: the ageing that makes an input stale (R117, R141),
the phase advance before a LOCKOFF's own work (R66), and the claims of lower channels (R78). -/
def workBefore (w : CycleWork) (s : State) : List CycleWork :=
  match w with
  | .inputStale _ => [.ageing]
  | .wallStale _ => [.ageing]
  | .sequencer c =>
    match (s.chan c).work with
    | .lockoff _ => [.profile c]
    | .none | .payout _ | .inject _ | .ramp _ | .hold _ | .check _ | .await _ | .signal | .finish => lowerClaimants s c
  | .ageing | .mapSwap | .listSwap | .profile _ | .echo _ | .arbiter _ | .deviceReset => []

/-- The part once the work that must come before `w` has been done, `w` being due. -/
def prepareWork (w : CycleWork) (s : State) : State :=
  if w ∈ s.due then (workBefore w s).foldl (fun s w => doWork w s) s else s

/-- A piece of due work with what must come before it. -/
def takeWork (w : CycleWork) (s : State) : State := doWork w (prepareWork w s)

/-- The work of the cycle start that is still due is done, in the model's order; a device reset stays due. -/
def finishCycleStart (s : State) : State :=
  if s.due = [] then s
  else { cycleStartWork.foldl (fun s w => takeWork w s) s with due := s.due.filter (· = .deviceReset) }

/-- All work still due is done, the work of the cycle start before a device reset; the part is then ready for the next
slot (R154, R180). -/
def settle (s : State) : State :=
  if CycleWork.deviceReset ∈ s.due then performWork .deviceReset (finishCycleStart s) else finishCycleStart s

/-! ### Raising a cycle start -/

/-- R154, R155, R168: a cycle start is raised: the site cycle count advances modulo 2^32, the prepared reply becomes
the owed reply, a changed wall stale limit takes effect (R115), and the receivers' work is due. -/
def raiseCycleStart (s : State) : State :=
  { s with
    line := { s.line with count := (s.line.count + 1) % 4294967296, slotPos := 0 }
    mgmt := { s.mgmt with
      owed := s.mgmt.prepared, prepared := none, replyWritten := false, wallStaleInEffect := s.mgmt.config.wallStale }
    chans := s.chans.map fun ch => { ch with tookUp := false, becameSettling := false }
    pumpA := { s.pumpA with begun := false }
    pumpB := { s.pumpB with begun := false }
    due := cycleStartWork }

/-- A cycle start with its work taken in the order given; what the order leaves out stays due. -/
def cycleStart (order : List CycleWork) (s : State) : State :=
  order.foldl (fun s w => takeWork w s) (raiseCycleStart s)

end Sys2Proof.Machine
end

