-- ==== Sys2Proof/Machine/Reports.lean ====
section
/-! DEFINITION. The Report Composer (R190 to R194, R196): the value of each item and the filling of a report slot. -/

namespace Sys2Proof.Machine

/-! ### Report values (R191, R194, R196) -/

/-- A report value of a marker and 24 value bits, signed values in two's complement. -/
def mkReport (marker : Nat) (value : Int) : ReportValue := { marker := BitVec.ofNat 2 marker, bits := BitVec.ofInt 24 value }

/-- R191: the value of an input record and whether the input is available. Without a record the input is unavailable and
the value 0, as R191 gives for the channel inputs; for MOVE it gives no value without a record, and the model sends 0 there
too (DESIGN CHOICE, log entry 40). -/
def inputReport (s : State) (t : Target) : ReportValue :=
  mkReport (boolCode (s.available t)) (((s.input t).map InputRecord.value).getD 0)

/-- R191: GROUT_VOLUME: the step volume (STEP), the record's (RECORD), or 0 (NONE). -/
def groutReport (ch : Channel) : ReportValue :=
  match ch.phase, ch.work with
  | .active, .inject w => mkReport 1 w.volume
  | _, _ =>
    match ch.record.bind Record.groutVolume with
    | some v => mkReport 2 v
    | none => mkReport 0 0

/-- R191: PAYOUT: the progress of an ACTIVE PAYOUT, otherwise 0. -/
def payoutReport (ch : Channel) : ReportValue :=
  match ch.phase, ch.work with
  | .active, .payout w => mkReport 1 w.progress
  | _, _ => mkReport 0 0

/-- The kind of the current step, 15 for none (R196); there is a step in phase ACTIVE alone (DEDUCED, log entry 11). -/
def stepKindCode (s : State) (c : Chan) : Nat := ((s.currentStep c).map fun st => st.body.kind).getD 15

/-- R196: channel STATE. -/
def chanStateReport (s : State) (c : Chan) : ReportValue :=
  let ch := s.chan c
  mkReport 0 ((ch.state.code + 8 * ch.phase.code + 32 * stepKindCode s c + 512 * ch.index
    + 262144 * boolCode ch.fault.isSome : Nat) : Int)

/-- R196: pump STATE. -/
def pumpStateReport (a : Arbiter) : ReportValue :=
  mkReport 0 ((a.state.code + 4 * (a.state.holder.map Fin.val).getD 15 + 64 * a.queue.length : Nat) : Int)

/-- R196: point STATE. -/
def pointStateReport (x : WallPoint) : ReportValue := mkReport 0 ((x.state.code + 4 * boolCode x.latch : Nat) : Int)

/-- R194: the channels in a state, CH0 in bit 0. -/
def State.flagsOf (s : State) (st : ChanState) : Nat := maskOf (allChans.map fun c => (s.chan c).state = st)

/-- R194, R196: the status summary. -/
def statusReport (s : State) : ReportValue :=
  mkReport 0 (((s.digest.map NoticeKind.priority).getD 15 + 16 * s.wallState.code
    + 64 * boolCode (s.line.alignment = .flywheel) + 128 * s.flagsOf .running + 32768 * s.flagsOf .faulted : Nat) : Int)

/-- R191: the value of an item as the slot passes. -/
def reportValue (s : State) : ReportItem → ReportValue
  | .chan c .setpoint => mkReport 0 (s.setpoint c)
  | .chan c .jackLoad => inputReport s (.chan c .jackLoad)
  | .chan c .jackStroke => inputReport s (.chan c .jackStroke)
  | .chan c .valveDemand => mkReport 0 (s.chan c).jack.lastValve
  | .chan c .groutPressure => inputReport s (.chan c .groutPressure)
  | .chan c .groutVolume => groutReport (s.chan c)
  | .chan c .payout => payoutReport (s.chan c)
  | .chan c .tension => inputReport s (.chan c .winchTension)
  | .chan c .state => chanStateReport s c
  | .pump p .state => pumpStateReport (s.arb p)
  | .pump p .demand => mkReport 0 (s.arb p).lastDemand
  | .point w .move => inputReport s (.wallMove w)
  | .point w .state => pointStateReport (s.wall w)
  | .part .status => statusReport s
  | .part .cycle => mkReport 0 ((s.line.count % 16777216 : Nat) : Int)

/-! ### Filling a report slot (R192, R193) -/

/-- R192: the next advance of the list position wraps. -/
def Composer.wraps (r : Composer) : Bool := r.active.length ≤ r.listPos + 1

/-- R192, R193: the list position goes up by one; a wrap carries out a pending swap. -/
def Composer.advance (r : Composer) : Composer :=
  if r.wraps then (if r.swapPending then r.swap else { r with listPos := 0 }) else { r with listPos := r.listPos + 1 }

/-- R192: an entry with CHANGE_ONLY whose value equals the position's last-sent value is passed over. -/
def Composer.unchanged (r : Composer) (e : ReportEntry) (v : ReportValue) : Bool :=
  e.changeOnly && r.lastSent.getD r.listPos none = some v

/-- R192: entries are examined from the list position until one is sent, a swap is carried out, or as many as the
list holds have been examined. The answer is the entry sent, the composer after, and whether a swap was carried
out. -/
def examine (value : ReportItem → ReportValue) : Nat → Composer → Option (Nat × ReportValue) × Composer × Bool
  | 0, r => (none, r, false)
  | n + 1, r =>
    match r.active[r.listPos]? with
    | none => (none, r, false)
    | some e =>
      let v := value e.item
      let swaps := r.wraps && r.swapPending
      if r.unchanged e v then (if swaps then (none, r.advance, true) else examine value n r.advance)
      else (some (r.listPos, v), { r with lastSent := r.lastSent.set r.listPos (some v) }.advance, swaps)

/-- R192: what the report slot of this moment would send and do. -/
def State.nextReport (s : State) : Option (Nat × ReportValue) × Composer × Bool :=
  examine (reportValue s) s.reports.active.length s.reports

/-- R192, R196: the slot of an examined list. -/
def reportOut : Option (Nat × ReportValue) → Slot
  | some (i, v) => sentReport i v
  | none => idleReport

/-- R192: a REPORT position is filled. -/
def writeReport (s : State) : State :=
  let x := s.nextReport
  (s.updReports fun _ => x.2.1).sendNext (reportOut x.1)

/-- R193: filling the report slot that arrives next carries out the pending swap at the wrap. -/
def swapAtWrapOccurs (s : State) : Bool := decide (s.nextEntry = some .report) && s.nextReport.2.2

end Sys2Proof.Machine
end

