-- ==== Sys2Proof/Machine/Reads.lean ====
section
/-! DEFINITION. The payloads of the replies that carry state: READ_ENTRY (R172), READ_CHANNEL and READ_PUMP (R175),
READ_STATUS (R176) and READ_RECORD (R177). Fields stand in the order of the reading rule, in the widths of R196, an
absent field all ones (R197); where those rules leave a layout open the model's is in the log (entries 13 to 17). -/

namespace Sys2Proof.Machine

/-! ### Input records (R135, R175) -/

/-- The five fields of an input record, all absent where there is none (log entry 16). -/
def recordFields (width : Nat) (r : Option InputRecord) : List Field :=
  [{ width := width, value := r.map InputRecord.value }, fOpt 1 (r.map fun r => boolCode r.valid),
    fOpt 1 (r.map InputRecord.age), fOpt 1 (r.map fun r => boolCode r.saturated), fOpt 1 (r.map InputRecord.aux)]

/-- R196: the bytes of a target's value. -/
def valueWidth (t : Target) : Nat := if t.isEcho then 1 else 2

/-- R175: whether an input is bound and its record exists, and the record. -/
def inputFields (s : State) (t : Target) : List Field :=
  [fFlag (s.bound t), fFlag (s.input t).isSome] ++ recordFields (valueWidth t) (s.input t)

/-! ### READ_CHANNEL (R175) -/

/-- R175, part 0. -/
def channelPart0 (s : State) (c : Chan) : List Field :=
  let ch := s.chan c
  [fNat 4 s.line.count, fNat 1 ch.state.code, fNat 1 ch.freeze.mask, fOpt 1 (ch.fault.map FaultCause.code),
    fOpt 1 ch.program, fNat 1 ch.phase.code, fNat 2 ch.index,
    fOpt 1 ((s.currentStep c).map fun st => st.body.kind), fOpt 1 ch.pendingProgram, fFlag ch.peer,
    fInt 2 ch.jack.lastValve, fFlag ch.wedge, fNat 2 ch.lastWinch, fFlag ch.lastBrake]

/-- R175, part 1. -/
def channelPart1 (s : State) (c : Chan) : List Field :=
  let p := (s.chan c).profile
  [fNat 1 p.status.code, fNat 2 (s.setpoint c), fFlag p.limited, fNat 2 p.pace, fOpt 2 p.stagedPace, fNat 2 p.remaining,
    fNat 1 p.segsLeft, fFlag p.staged.isSome]

/-- R175, part 2: the working fields of the current step (log entry 15). -/
def workFields : StepWork → List Field
  | .ramp w => [fNat 1 w.phase.code, fNat 1 w.settle, fNat 2 w.unsettled]
  | .hold w => fNat 3 w.elapsed :: w.marks.map (fOpt 2) ++ [fFlag w.drift, fNat 1 w.interrupted]
  | .lockoff w => [fNat 1 w.phase.code, fNat 2 w.settle, fOpt 2 w.load]
  | .inject w =>
    [fNat 1 w.standing.code, fNat 3 w.volume, fNat 1 w.refusals, fNat 1 w.overs, fOpt 1 (w.endReason.map EndReason.code)]
  | .payout w => [fOpt 2 w.startLength, fNat 2 w.progress, fNat 1 w.tension, fFlag w.hold]
  | .check w => [{ width := 4, value := w.captured }]
  | .await w => [fNat 3 w.elapsed, fFlag w.latch]
  | .none => []
  | .signal => []
  | .finish => []

/-- R175: a part of a channel; there are six. -/
def channelPart (s : State) (c : Chan) : Nat → Option (List Field)
  | 0 => some (channelPart0 s c)
  | 1 => some (channelPart1 s c)
  | 2 => some (workFields (s.chan c).work)
  | 3 => some ([Measurand.jackLoad, .anchorLoad, .jackStroke].flatMap fun m => inputFields s (.chan c m))
  | 4 => some ([Measurand.groutPressure, .groutFlow, .winchPayout].flatMap fun m => inputFields s (.chan c m))
  | 5 => some ([Measurand.winchTension, .jackEcho, .winchEcho].flatMap fun m => inputFields s (.chan c m))
  | _ => none

/-! ### READ_PUMP (R175, R77) -/

/-- The queue as seven bytes, places beyond its length absent, then its length (log entry 14; R83: at most seven
wait). -/
def queueFields (q : List Chan) : List Field := ((List.range 7).map fun i => fChan q[i]?) ++ [fNat 1 q.length]

/-- R175, R77: a pump. The manifold position CLOSED is sent as FF hex, as in the pump command slot; R196 gives it no
code in a reply (DESIGN CHOICE, log entry 37). -/
def pumpFields (s : State) (p : Pump) : List Field :=
  let a := s.arb p
  [fNat 1 a.state.code, fChan a.state.holder, fChan a.manifold] ++ queueFields a.queue
    ++ [fNat 2 a.switchCount, fNat 2 a.tenureCount, fNat 2 a.switchHeld, fNat 2 a.tenureHeld, fNat 2 a.lastDemand]
    ++ inputFields s (.pumpEcho p)

/-! ### READ_STATUS (R176) -/

def statusPart0 (s : State) : List Field :=
  [fNat 4 s.line.count, fNat 2 s.line.lastLine, fNat 1 s.line.alignment.code, fOpt 1 s.line.heldN, fNat 1 s.line.misses,
    fFlag s.line.swapPending, fFlag s.reports.swapPending, fNat 1 s.wallState.code, fFlag s.pins.panel,
    fNat 1 s.mgmt.address, fNat 1 s.mgmt.resetCause.code, fNat 1 s.records.queue.length]

def pumpStatus (a : Arbiter) : List Field := [fNat 1 a.state.code, fChan a.state.holder]

/-- R176, part 1. The digest notice NONE is sent as FF hex, as an absent field is; only the STATUS item has a code for
it (DESIGN CHOICE, log entry 37). -/
def statusPart1 (s : State) : List Field :=
  [fOpt 1 (s.digest.map NoticeKind.priority), fNat 2 s.pendingNotices, fNat 2 s.mgmt.config.mask.toNat]
    ++ allChans.map (fun c => fNat 1 (s.chan c).state.code) ++ pumpStatus s.pumpA ++ pumpStatus s.pumpB

/-- R176: a part of the status; there are two. -/
def statusPart (s : State) : Nat → Option (List Field)
  | 0 => some (statusPart0 s)
  | 1 => some (statusPart1 s)
  | _ => none

/-! ### READ_ENTRY (R172) -/

/-- An entry as it stands. The bytes of EMPTY are free (log entry 7), but they leave room for the byte that follows
them in the 28 of a reply (R170). -/
def entryFields {α : Type} (t : Table) (fields : α → List Field) : Option α → List Field
  | some e => fields e
  | none => ((Config.emptyEntryBytes t.code).take 27).map fun b => fNat 1 b.toNat

/-- R5, R172: a Program Store entry with its lock count. -/
def storeFields {α : Type} (s : State) (t : Table) (i : Nat) (fields : α → List Field) (e : Option α) : List Field :=
  entryFields t fields e ++ [fNat 1 (s.store.locks t i)]

/-- R115: a point's displacement, when its input is available. -/
def State.displacement (s : State) (w : Point) : Option Nat :=
  (s.availableValue (.wallMove w)).map (Sys2Proof.Machine.displacement (s.wall w).config)

/-- R114, R172: a point's configuration, state, latch, displacement and input record. -/
def pointFields (s : State) (w : Point) : List Field :=
  (s.wall w).config.fields ++ [fNat 1 (s.wall w).state.code, fFlag (s.wall w).latch, fOpt 2 (s.displacement w)]
    ++ recordFields 2 (s.input (.wallMove w))

/-- The two banks of a swapped table. -/
inductive Bank where
  | active
  | shadow
  deriving DecidableEq, Repr

/-- R197: ACTIVE 0, SHADOW 1. -/
def bankOf : Nat → Option Bank
  | 0 => some .active
  | 1 => some .shadow
  | _ => none

def LinePort.bank (l : LinePort) : Bank → SparseTable SlotEntry
  | .active => l.active
  | .shadow => l.shadow

def Composer.bank (r : Composer) : Bank → List ReportEntry
  | .active => r.active
  | .shadow => r.shadow

/-- R171: the index lies within the table. -/
def indexInRange (t : Table) (i : Nat) : Bool :=
  match t with
  | .header => i < 32
  | .step => i < 1024
  | .segment => i < 512
  | .markset => i < 32
  | .scale => i < 48
  | .channelConfig => i < 8
  | .wallPoint => i < 16
  | .slotMap => 17 ≤ i && i ≤ 239
  | .reportList => i < 64
  | .partConfig => i = 0

/-- R172, R197: whether a table has banks, the bank byte being read for these alone. -/
def Table.banked : Table → Bool
  | .slotMap => true
  | .reportList => true
  | .header | .step | .segment | .markset | .scale | .channelConfig | .wallPoint | .partConfig => false

/-- R172, R190: the fields of an entry whose index lies within its table; a report list entry comes with its bank's
length. -/
def readFields (s : State) (t : Table) (i : Nat) (b : Bank) : List Field :=
  match t with
  | .header => storeFields s t i Header.fields (s.store.header i)
  | .step => storeFields s t i Step.fields (s.store.step i)
  | .segment => storeFields s t i Segment.fields (s.store.segment i)
  | .markset => storeFields s t i markSetFields (s.store.markSet i)
  | .scale => entryFields t ScaleEntry.fields (Sparse.get none s.scales i)
  | .channelConfig => entryFields t ChannelConfig.fields ((chanOf i).map fun c => (s.chan c).config)
  | .wallPoint => ((pointOf i).map (pointFields s)).getD []
  | .slotMap => (bankEntry (s.line.bank b) i).fields
  | .reportList => entryFields t ReportEntry.fields (s.reports.bank b)[i]? ++ [fNat 1 (s.reports.bank b).length]
  | .partConfig => s.mgmt.config.fields

end Sys2Proof.Machine
end

