-- ==== Sys2Proof/Machine/Answers.lean ====
section
/-! DEFINITION. What the blocks answer to the management requests (10_management_requests.md and the rules of the blocks
that carry them out), and how the Management Unit takes the request of a window, by its kind, from the slots of the
request window (R156, R165 to R167). -/

namespace Sys2Proof.Machine

/-! ### Request kinds (R165, R197) -/

/-- A row of its own request kind. -/
def ofKind (k : Nat) (w : Window) : Bool := requestKind w = k

/-- R197: the known kinds are 1 to 20. -/
def knownKind (k : Nat) : Bool := 1 ≤ k && k ≤ 20

/-- R166: an addressed request of unknown kind: the first check, then the second. -/
def takeUnknown (w : Window) (s : State) : State :=
  match s.taking w with
  | .addressed =>
    if garbledPayload w then State.prepare w (refuse .garbled s.latchGarbled)
    else State.prepare w (refuse .unknownRequest s)
  | .ignored => s
  | .broadcast => s

/-! ### LOAD_ENTRY (R6, R171) -/

/-- The table a LOAD_ENTRY payload names. -/
def loadTable (w : Window) : Option Table :=
  match requestPayload w with
  | [] => none
  | b :: _ => tableOf b.toNat

/-- The window is a LOAD_ENTRY of table `t`, or one that every LOAD_ENTRY row answers alike because it is garbled or
names no table (log entry 26). -/
def ofLoad (t : Table) (w : Window) : Bool :=
  ofKind 1 w && (garbledPayload w || decide (loadTable w = some t ∨ loadTable w = none))

/-- R197: the index of a LOAD_ENTRY or READ_ENTRY payload. -/
def entryIndex (bs : List Byte) : Nat := natAt bs 1 2

/-- R197: a LOAD_ENTRY whose payload ends after the index loads EMPTY. -/
def isEmptyLoad (bs : List Byte) : Bool := bs.length ≤ 3

/-- The entry of a load: EMPTY, an entry that passes the load checks, or none where the value is bad. -/
def loadedValue {α : Type} (decode : List Byte → Option α) (ok : α → Bool) (bs : List Byte) : Option (Option α) :=
  if isEmptyLoad bs then some none
  else match decode (bs.drop 3) with
    | some e => if ok e then some (some e) else none
    | none => none

/-- R6: a load of a Program Store table: index, value, lock. -/
def loadStore {α : Type} (t : Table) (v : Option (Option α)) (write : Nat → Option α → ProgramStore → ProgramStore)
    (bs : List Byte) (s : State) : Answer :=
  let i := entryIndex bs
  if !indexInRange t i then refuse .badIndex s
  else match v with
    | none => refuse .badValue s
    | some e => if 0 < s.store.locks t i then refuse .inUse s else accept [] (s.updStore (write i e))

def ProgramStore.setHeader (i : Nat) (e : Option Header) (st : ProgramStore) : ProgramStore :=
  { st with headers := Sparse.set none st.headers i e }

def ProgramStore.setStep (i : Nat) (e : Option Step) (st : ProgramStore) : ProgramStore :=
  { st with steps := Sparse.set none st.steps i e }

def ProgramStore.setSegment (i : Nat) (e : Option Segment) (st : ProgramStore) : ProgramStore :=
  { st with segments := Sparse.set none st.segments i e }

def ProgramStore.setMarkSet (i : Nat) (e : Option MarkSet) (st : ProgramStore) : ProgramStore :=
  { st with markSets := Sparse.set none st.markSets i e }

def loadHeader (bs : List Byte) (s : State) : Answer :=
  loadStore .header (loadedValue decodeHeader Header.ok bs) ProgramStore.setHeader bs s

def loadStep (bs : List Byte) (s : State) : Answer :=
  loadStore .step (loadedValue decodeStep Step.ok bs) ProgramStore.setStep bs s

def loadSegment (bs : List Byte) (s : State) : Answer :=
  loadStore .segment (loadedValue decodeSegment Segment.ok bs) ProgramStore.setSegment bs s

def loadMarkSet (bs : List Byte) (s : State) : Answer :=
  loadStore .markset (loadedValue decodeMarkSet markSetOk bs) ProgramStore.setMarkSet bs s

/-- R133: index, value; a scale entry carries no lock. -/
def loadScale (bs : List Byte) (s : State) : Answer :=
  let i := entryIndex bs
  if !indexInRange .scale i then refuse .badIndex s
  else match loadedValue decodeScale ScaleEntry.ok bs with
    | none => refuse .badValue s
    | some e => accept [] { s with scales := Sparse.set none s.scales i e }

/-- R24: index, IDLE, value; EMPTY restores the defaults. -/
def loadChannelConfig (bs : List Byte) (s : State) : Answer :=
  match chanOf (entryIndex bs) with
  | none => refuse .badIndex s
  | some c =>
    if (s.chan c).state ≠ .idle then refuse .inUse s
    else match loadedValue decodeChannelConfig ChannelConfig.ok bs with
      | none => refuse .badValue s
      | some e => accept [] (s.updChan c fun ch => { ch with config := e.getD ChannelConfig.defaults })

/-- R114, R118: index, value, latch; the point is then classified afresh. -/
def loadWallPoint (bs : List Byte) (s : State) : Answer :=
  match pointOf (entryIndex bs) with
  | none => refuse .badIndex s
  | some w =>
    match loadedValue decodeWallConfig WallConfig.ok bs with
    | none => refuse .badValue s
    | some e =>
      if (s.wall w).latch then refuse .inUse s
      else accept [] (s.changeWall w (loadedPoint s w (e.getD WallConfig.defaults)))

/-- R160: the command of an entry already stands in the bank at another position. -/
def duplicateCommand (bank : SparseTable SlotEntry) (pos : Nat) : SlotEntry → Bool
  | .command k => bank.any fun e => e.1 ≠ pos && e.2 = .command k
  | .pass | .sample _ _ | .report => false

/-- R160: position, value, duplicate command; EMPTY loads PASS. -/
def loadSlotMap (bs : List Byte) (s : State) : Answer :=
  let pos := entryIndex bs
  if !indexInRange .slotMap pos then refuse .badIndex s
  else match loadedValue decodeSlotEntry SlotEntry.ok bs with
    | none => refuse .badValue s
    | some e =>
      let e := e.getD .pass
      if duplicateCommand s.line.shadow pos e then refuse .badValue s
      else accept [] (s.updLine fun l => { l with shadow := Sparse.set .pass l.shadow pos e })

/-- R190: a load at index `i` replaces, appends or truncates. -/
def reportListAfter (i : Nat) (e : Option ReportEntry) (l : List ReportEntry) : List ReportEntry :=
  match e with
  | some e => if i < l.length then l.set i e else l ++ [e]
  | none => l.take i

/-- R190: index, value, no gap. -/
def loadReportList (bs : List Byte) (s : State) : Answer :=
  let i := entryIndex bs
  if !indexInRange .reportList i then refuse .badIndex s
  else match loadedValue decodeReportEntry (fun _ => true) bs with
    | none => refuse .badValue s
    | some e =>
      if e.isSome ∧ s.reports.shadow.length < i then refuse .wrongState s
      else accept [] (s.updReports fun r => { r with shadow := reportListAfter i e r.shadow })

/-- R179: a pump is SWITCHING or GRANTED. -/
def State.pumpInUse (s : State) : Bool := decide (s.pumpA.state ≠ .free ∨ s.pumpB.state ≠ .free)

/-- R179: index, value, tenure and switch time while a pump is in use; EMPTY loads the power-on values. -/
def loadPartConfig (bs : List Byte) (s : State) : Answer :=
  if !indexInRange .partConfig (entryIndex bs) then refuse .badIndex s
  else match loadedValue decodePartConfig PartConfig.ok bs with
    | none => refuse .badValue s
    | some e =>
      let k := e.getD PartConfig.defaults
      if (k.tenure ≠ s.mgmt.config.tenure ∨ k.switchTime ≠ s.mgmt.config.switchTime) ∧ s.pumpInUse then refuse .inUse s
      else accept [] (s.updMgmt fun m => { m with config := k })

/-! ### READ_ENTRY (R172) -/

/-- R172: table, index, and for a table with banks the bank. R172 states no order of the checks where both the index and
the bank byte are bad; the model tests the index first, so BAD_INDEX is given (DESIGN CHOICE, log entry 39). -/
def readEntry (bs : List Byte) (s : State) : Answer :=
  let i := entryIndex bs
  match tableOf (natAt bs 0 1) with
  | none => refuse .badValue s
  | some t =>
    if !indexInRange t i then refuse .badIndex s
    else if t.banked then
      match bankOf (natAt bs 3 1) with
      | some b => accept (readFields s t i b) s
      | none => refuse .badValue s
    else accept (readFields s t i .active) s

/-! ### SWAP_BANKS (R161, R173, R193) -/

/-- R197: the SWAP_BANKS selector. -/
inductive BankSet where
  | slotMap
  | reportList
  | both
  deriving DecidableEq, Repr

def bankSetOf : Nat → Option BankSet
  | 0 => some .slotMap
  | 1 => some .reportList
  | 2 => some .both
  | _ => none

/-- The selection byte at an offset of a window's payload, absent where the payload ends before it. -/
def payloadByte (off : Nat) (w : Window) : Option Nat := ((requestPayload w)[off]?).map BitVec.toNat

/-- The window is a SWAP_BANKS of this selector, or one that every SWAP_BANKS row answers alike (log entry 26). -/
def ofSwap (b : BankSet) (w : Window) : Bool :=
  ofKind 3 w && (garbledPayload w
    || decide ((payloadByte 0 w).bind bankSetOf = some b ∨ (payloadByte 0 w).bind bankSetOf = none))

def setMapSwap (s : State) : State := s.updLine fun l => { l with swapPending := true }

def setListSwap (s : State) : State := s.updReports fun r => { r with swapPending := true }

def setBothSwaps (s : State) : State := setListSwap (setMapSwap s)

/-- R173: a selector that names no bank pair is refused; otherwise each pair named has its flag set. -/
def swapBanks (set : State → State) (bs : List Byte) (s : State) : Answer :=
  if (bankSetOf (natAt bs 0 1)).isNone then refuse .badValue s else accept [] (set s)

/-! ### Requests that name a channel -/

/-- The channel a request's first byte names; a number above 7 gives BAD_INDEX. -/
def onChannel (act : Chan → List Byte → State → Answer) (bs : List Byte) (s : State) : Answer :=
  match chanOf (natAt bs 0 1) with
  | none => refuse .badIndex s
  | some c => act c bs s

def stateField (s : State) (c : Chan) : Field := fNat 1 (s.chan c).state.code

/-- R174, R196: dispositions STARTED 0 and PENDING 1. -/
def startedDisposition : Nat := 0

def pendingDisposition : Nat := 1

/-- R8: the header and its first step are not EMPTY. -/
def programPresent (st : ProgramStore) (i : Nat) : Bool :=
  match st.header i with
  | none => false
  | some h => (st.step h.stepFirst).isSome

/-- R5, R9: the lock set is counted and the program starts. -/
def lockAndStart (i : Nat) (c : Chan) (s : State) : State := startProgram i c (s.lockProgram i)

/-- R10: the lock set is counted and the header goes into the pending slot. -/
def placePending (i : Nat) (c : Chan) (s : State) : State :=
  (s.lockProgram i).updChan c fun ch => { ch with pendingProgram := some i }

/-- R8 to R10. -/
def startRequest (c : Chan) (bs : List Byte) (s : State) : Answer :=
  let i := natAt bs 1 1
  let idle := decide ((s.chan c).state = .idle)
  if 31 < i then refuse .badIndex s
  else if !idle && (s.chan c).pendingProgram.isSome then refuse .pendingFull s
  else if !programPresent s.store i then refuse .empty s
  else if idle then accept [fNat 1 startedDisposition, stateField (lockAndStart i c s) c] (lockAndStart i c s)
  else accept [fNat 1 pendingDisposition, stateField (placePending i c s) c] (placePending i c s)

/-- R13: the current step, when there is one, is left without its verdict by the end of the program. -/
def leaveForEnd (c : Chan) (s : State) : State :=
  if (s.chan c).phase = .active then leaveStep .none (s.chan c).index c s else s

/-- R21: what ABORT_PROGRAM does in each state that admits it. -/
def abortProgram (c : Chan) (s : State) : State :=
  match (s.chan c).state with
  | .idle => s
  | .running => endProgram .aborted c (discardPending c (leaveForEnd c s))
  | .frozen => endProgram .aborted c (discardPending c (leaveForEnd c s))
  | .faulted => endProgram .abandoned c (discardPending c (leaveForEnd c s))
  | .filing => discardPending c s

/-- R21. -/
def abortRequest (c : Chan) (_ : List Byte) (s : State) : Answer :=
  if (s.chan c).state = .idle then refuse .wrongState s
  else accept [stateField (abortProgram c s) c] (abortProgram c s)

/-- R22: RUNNING or FROZEN: the current step is left, or the index awaiting take-up passed over. -/
def skipLive (c : Chan) (s : State) : State :=
  if (s.chan c).phase = .active then completeStep c s
  else s.updChan c fun ch => { ch with index := nextIndex ch.index }

/-- R22, R23: the record's override count, saturating at 255. -/
def Record.countOverride (r : Record) : Record := { r with overrides := satAdd 255 r.overrides 1 }

/-- R22: FAULTED: the suspended step, when there is one, is left; the fault is cleared and counted, and the channel
goes RUNNING or FROZEN with the next index awaiting take-up. -/
def skipFaulted (c : Chan) (s : State) : State :=
  let next := nextIndex (s.chan c).index
  let s := if (s.chan c).phase = .active then leaveStep .takeUp next c s else s
  s.updChan c fun ch =>
    { ch with
      fault := none, record := ch.record.map Record.countOverride, index := next, phase := .takeUp
      state := if ch.freeze.isEmpty then .running else .frozen }

def skipStep (c : Chan) (s : State) : State :=
  match (s.chan c).state with
  | .running => skipLive c s
  | .frozen => skipLive c s
  | .faulted => skipFaulted c s
  | .idle => s
  | .filing => s

/-- R22. -/
def skipRequest (c : Chan) (_ : List Byte) (s : State) : Answer :=
  if (s.chan c).state = .idle ∨ (s.chan c).state = .filing then refuse .wrongState s
  else accept [stateField (skipStep c s) c, fNat 2 ((skipStep c s).chan c).index] (skipStep c s)

/-! ### FREEZE and RESUME (R124 to R126) -/

/-- The channels of a set, CH0 in bit 0 (R196). -/
def inSet (set : Nat) (c : Chan) : Bool := set.testBit c.val

/-- A set of channels as a mask. -/
def channelMask (q : Chan → Bool) : Nat := maskOf (allChans.map q)

/-- R124: SUPERVISOR is added to each named channel that is not IDLE. The order in which they take it is free (log
entry 8). -/
def freezeChannels (set : Nat) (s : State) : State :=
  ((freezeTurn s).filter (inSet set)).foldl (fun s c => addCause .supervisor c s) s.freezeTaken

/-- R124: the named channels that hold SUPERVISOR after the request. -/
def freezeRequest (bs : List Byte) (s : State) : Answer :=
  let set := natAt bs 0 1
  let s := freezeChannels set s
  accept [fNat 1 (channelMask fun c => inSet set c && (s.chan c).freeze.supervisor)] s

/-- R125: the causes whose test is met. -/
def removableCauses (s : State) : FreezeSet :=
  { supervisor := true, panel := !s.pins.panel, wallStop := !s.anyStop, lineLost := decide (s.line.alignment = .locked)
    sampleStale := false }

/-- R78, R125: RESUME acts on the named channels that are not IDLE, in ascending number. -/
def resumeChannels (set : Nat) (s : State) : State :=
  (allChans.filter (inSet set)).foldl (fun s' c =>
    if (s'.chan c).state = .idle then s' else removeCauses (removableCauses s) c s') s

/-- R126: the named channels still holding a cause, with WRONG_STATE unless there is none. -/
def resumeRequest (bs : List Byte) (s : State) : Answer :=
  let set := natAt bs 0 1
  let s := resumeChannels set s
  let held := channelMask fun c => inSet set c && !(s.chan c).freeze.isEmpty
  { status := if held = 0 then .ok else .wrongState, payload := [fNat 1 held], state := s }

/-! ### RELEASE, RETARGET and SET_PACE (R30, R40 to R43, R108) -/

/-- RUNNING or FROZEN. -/
def Channel.live (ch : Channel) : Bool := decide (ch.state = .running ∨ ch.state = .frozen)

/-- R108: the AWAIT that a RELEASE can reach. -/
def State.releasable (s : State) (c : Chan) : Option AwaitWork :=
  match s.currentStep c, (s.chan c).work with
  | some { body := .await p, .. }, .await w => if (s.chan c).live && p.releaseSet.release then some w else none
  | _, _ => none

/-- R108. -/
def releaseRequest (c : Chan) (_ : List Byte) (s : State) : Answer :=
  match s.releasable c with
  | some w => accept [] (s.setWork c (.await { w with latch := true }))
  | none => refuse .wrongState s

/-- R40: the timing of a RETARGET. -/
inductive Timing where
  | atEnd
  | now
  deriving DecidableEq, Repr

def timingOf : Nat → Option Timing
  | 0 => some .atEnd
  | 1 => some .now
  | _ => none

/-- The window is a RETARGET of this timing, or one that both RETARGET rows answer alike (log entry 26). -/
def ofRetarget (t : Timing) (w : Window) : Bool :=
  ofKind 10 w && (garbledPayload w
    || decide ((payloadByte 1 w).bind timingOf = some t ∨ (payloadByte 1 w).bind timingOf = none))

/-- R40: the segment of a RETARGET, within the ranges of R28. -/
def retargetSegment (bs : List Byte) : Option Segment :=
  match decodeSegment (bs.drop 2) with
  | some g => if g.ok then some g else none
  | none => none

/-- R40: the channel is RUNNING or FROZEN in an ACTIVE RAMP or PAYOUT. -/
def State.retargetable (s : State) (c : Chan) : Bool :=
  (s.chan c).live && match s.currentStep c with
    | some { body := .ramp _, .. } => true
    | some { body := .payout _, .. } => true
    | _ => false

/-- R54: a RAMP whose finished profile is restarted is PROFILING again. -/
def restartRamp (c : Chan) (s : State) : State :=
  match (s.chan c).work with
  | .ramp _ => s.setWork c (.ramp { phase := .profiling, settle := 0, unsettled := 0 })
  | .none | .payout _ | .inject _ | .hold _ | .lockoff _ | .check _ | .await _ | .signal | .finish => s

/-- R41 to R43, R54: an accepted RETARGET. -/
def retarget (act : Segment → Profile → Profile) (g : Segment) (c : Chan) (s : State) : State :=
  if (s.chan c).profile.status = .finished then restartRamp c (s.updProfile c (act g)) else s.updProfile c (act g)

/-- R40. -/
def retargetRequest (act : Segment → Profile → Profile) (c : Chan) (bs : List Byte) (s : State) : Answer :=
  if (timingOf (natAt bs 1 1)).isNone then refuse .badValue s
  else match retargetSegment bs with
    | none => refuse .badValue s
    | some g => if s.retargetable c then accept [] (retarget act g c s) else refuse .wrongState s

/-- R30. Where the channel and the pace are both bad, R30 states no order of the two refusals; the model tests the
channel first (`onChannel`), so BAD_INDEX is given (DESIGN CHOICE, log entry 42). -/
def paceRequest (c : Chan) (bs : List Byte) (s : State) : Answer :=
  if 256 < natAt bs 1 2 then refuse .badValue s
  else accept [] (s.updProfile c fun p => { p with stagedPace := some (natAt bs 1 2) })

/-! ### Reading (R175 to R177) -/

/-- A part read from what is there; a part number beyond the last gives BAD_INDEX (R170). -/
def readPart (part : Option (List Field)) (s : State) : Answer :=
  match part with
  | some fs => accept fs s
  | none => refuse .badIndex s

/-- R175. -/
def readChannel (c : Chan) (bs : List Byte) (s : State) : Answer := readPart (channelPart s c (natAt bs 1 1)) s

/-- R175: a selector other than PUMP A or PUMP B gives BAD_INDEX. -/
def readPump (bs : List Byte) (s : State) : Answer := readPart ((pumpOf (natAt bs 0 1)).map (pumpFields s)) s

/-- R177: the oldest record. -/
def onOldest (act : Record → Answer) (s : State) : Answer :=
  match s.records.queue with
  | [] => refuse .empty s
  | r :: _ => act r

/-- R177: a part of the oldest record. -/
def readRecord (bs : List Byte) (s : State) : Answer := onOldest (fun r => readPart (r.part (natAt bs 0 1)) s) s

/-- R177: the removed record's channel, program tag and start count. -/
def Record.identity (r : Record) : List Field := [fNat 1 r.channel.val, fNat 2 r.tag, fNat 4 r.startCount]

/-- R177, R186: the oldest record is removed and its place freed. -/
def takeRecord (_ : List Byte) (s : State) : Answer := onOldest (fun r => accept r.identity (freePlace s)) s

/-! ### Wall points (R120, R121) -/

/-- The point a request's first byte names; an index above 15 gives BAD_INDEX. -/
def onPoint (act : Point → State → Answer) (bs : List Byte) (s : State) : Answer :=
  match pointOf (natAt bs 0 1) with
  | none => refuse .badIndex s
  | some p => act p s

/-- R120. -/
def baselineRequest (p : Point) (s : State) : Answer :=
  if (s.wall p).latch then refuse .inUse s
  else match s.availableValue (.wallMove p) with
    | none => refuse .noData s
    | some v => accept [fInt 2 v] (s.changeWall p ((s.wall p).rebased v))

/-- R121. -/
def clearRequest (p : Point) (s : State) : Answer :=
  if !(s.wall p).latch then refuse .wrongState s
  else match s.displacement p with
    | none => refuse .noData s
    | some d =>
      if clearAllowed (s.wall p).config d then
        accept [fNat 1 ((s.wall p).cleared d).state.code] (s.changeWall p ((s.wall p).cleared d))
      else refuse .wrongState s

/-! ### The Management Unit's own (R176, R178, R180) -/

/-- R176. -/
def readStatus (bs : List Byte) (s : State) : Answer := readPart (statusPart s (natAt bs 0 1)) s

/-- R178: the named latched kinds are cleared. -/
def clearNotices (named : NoticeSet) (s : State) : State := s.updLatched (·.clear named)

/-- R178: the reply carries the pending set after the request. -/
def noticesRequest (bs : List Byte) (s : State) : Answer :=
  match noticeSetOf (natAt bs 0 2) with
  | none => refuse .badValue s
  | some named => accept [fNat 2 (clearNotices named s).pendingNotices] (clearNotices named s)

/-- R180: OK, and the reset is pending. -/
def resetRequest (_ : List Byte) (s : State) : Answer := accept [] (s.updMgmt fun m => { m with resetPending := true })

/-! ### The request of a window (R156, R165 to R167, R197) -/

/-- R171: a LOAD_ENTRY goes to the owner of the table its selector names. -/
def loadRequest (bs : List Byte) (s : State) : Answer :=
  match tableOf (natAt bs 0 1) with
  | none => refuse .badValue s
  | some .header => loadHeader bs s
  | some .step => loadStep bs s
  | some .segment => loadSegment bs s
  | some .markset => loadMarkSet bs s
  | some .scale => loadScale bs s
  | some .channelConfig => loadChannelConfig bs s
  | some .wallPoint => loadWallPoint bs s
  | some .slotMap => loadSlotMap bs s
  | some .reportList => loadReportList bs s
  | some .partConfig => loadPartConfig bs s

/-- R173: the flags of the bank pairs that a SWAP_BANKS selector names. -/
def swapRequest (bs : List Byte) (s : State) : Answer :=
  match bankSetOf (natAt bs 0 1) with
  | none => refuse .badValue s
  | some .slotMap => swapBanks setMapSwap bs s
  | some .reportList => swapBanks setListSwap bs s
  | some .both => swapBanks setBothSwaps bs s

/-- R40: a RETARGET of the timing it names. -/
def timedRetarget (c : Chan) (bs : List Byte) (s : State) : Answer :=
  match timingOf (natAt bs 1 1) with
  | none => refuse .badValue s
  | some .atEnd => retargetRequest Profile.retargetAtEnd c bs s
  | some .now => retargetRequest Profile.retargetNow c bs s

/-- R197: what the owner of a request answers, by the request's kind. -/
def requestAct : Nat → List Byte → State → Answer
  | 1 => loadRequest
  | 2 => readEntry
  | 3 => swapRequest
  | 4 => onChannel startRequest
  | 5 => onChannel abortRequest
  | 6 => onChannel skipRequest
  | 7 => freezeRequest
  | 8 => resumeRequest
  | 9 => onChannel releaseRequest
  | 10 => onChannel timedRetarget
  | 11 => onChannel paceRequest
  | 12 => onChannel readChannel
  | 13 => readPump
  | 14 => readRecord
  | 15 => takeRecord
  | 16 => onPoint baselineRequest
  | 17 => onPoint clearRequest
  | 18 => readStatus
  | 19 => noticesRequest
  | 20 => resetRequest
  | _ => fun _ s => refuse .unknownRequest s

/-- R156, R165 to R167: the Management Unit takes the request of a window that has been handed over, whatever the
request is. -/
def takeWindow (w : Window) (s : State) : State :=
  if knownKind (requestKind w) then takeRequest (requestAct (requestKind w)) w s else takeUnknown w s

/-- The window that eight slots make. -/
def eightSlots : List Slot → Option Window
  | [s1, s2, s3, s4, s5, s6, s7, s8] => some { s1, s2, s3, s4, s5, s6, s7, s8 }
  | _ => none

/-- R156, R167: a slot of the request window that arrives by itself passes unchanged and is handed to the Management
Unit, which takes the request of the eight when the last, position 8, has been handed over. -/
def requestSlot (slot : Slot) (s : State) : State :=
  let handed := s.mgmt.window ++ [slot]
  if s.nextPos < 8 then (s.sendNext slot).updMgmt fun m => { m with window := handed }
  else
    let s := (s.sendNext slot).updMgmt fun m => { m with window := [] }
    match eightSlots handed with
    | some w => takeWindow w s
    | none => s

end Sys2Proof.Machine
end

