-- ==== Sys2Proof/Machine/Line.lean ====
section
/-! DEFINITION. The meanings of the rows that are pin events, slots of the line, and work of a cycle start. A row
that names an occurrence has the effect its rule gives where the state and the operands admit the occurrence, and no
effect where they do not. A row that names the arrival of a slot delivers it, and the part handles it by its alignment
state and the position it counts, whatever the row (log entries 2 and 5). -/

namespace Sys2Proof.Machine

/-! ### Resets and pins (R164, R180 to R182, R199) -/

/-- POWER_ON (R182): every block takes its power-on values. -/
def execPowerOn (strap : BitVec 6) (panel : Bool) (s : State) : Host.Outcome State Fault Refusal :=
  .next { State.atPowerOn strap panel with pending := s.pending, freezeOrders := s.freezeOrders }

/-- RESET_IN_ASSERT (R181): a device reset at once; the part is held in it. -/
def execResetInAssert (s : State) : Host.Outcome State Fault Refusal :=
  .next (if s.pins.resetIn then s else { deviceReset s with pins := { s.pins with resetIn := true } })

/-- RESET_IN_RELEASE (R181, R164): the pin reset ends. -/
def execResetInRelease (strap : BitVec 6) (panel : Bool) (s : State) : Host.Outcome State Fault Refusal :=
  .next (if s.pins.resetIn then endReset .pin strap panel s else s)

/-- DEVICE_RESET (R26, R180): the device reset that follows the end of a RESET_PART's reply. -/
def execDeviceReset (strap : BitVec 6) (panel : Bool) (s : State) : Host.Outcome State Fault Refusal :=
  .next (if CycleWork.deviceReset ∈ s.due then requestReset strap panel s else s)

/-- PANEL_HOLD_ASSERT (R123): the level taken becomes asserted and PANEL is added to every channel not IDLE. -/
def execPanelHoldAssert (s : State) : Host.Outcome State Fault Refusal :=
  .next (if s.pins.resetIn ∨ s.pins.panel then s
    else addCauseToAll .panel { s with pins := { s.pins with panel := true } })

/-- PANEL_HOLD_RELEASE (R123): the level taken becomes released; no cause is removed. -/
def execPanelHoldRelease (s : State) : Host.Outcome State Fault Refusal :=
  .next (if s.pins.resetIn then s else { s with pins := { s.pins with panel := false } })

/-- R153: the loss meets the part with the cycle start's work done, so that no count moves in HUNT (R117, R127): HUNT
from any state; from LOCKED or FLYWHEEL with the effects of a flywheel's end. -/
def loseSignal (s : State) : State :=
  if s.worked then fallToHunt s else s.updLine fun l => { l with alignment := .hunt }

/-- LOSS_OF_SIGNAL (R153). -/
def execLossOfSignal (s : State) : Host.Outcome State Fault Refusal := .next (loseSignal (finishCycleStart s))

/-! ### Alignment (R149 to R152) -/

/-- R151, R152: a good sync that states the held N; the answer is its line cycle number. -/
def State.syncTaken (s : State) (slot : Slot) : Option Nat :=
  match goodSync slot with
  | some (n, number) => if s.line.heldN = some n then some number else none
  | none => none

/-- R149: a slot examined in HUNT. -/
def huntExamine (slot : Slot) (s : State) : State :=
  match goodSync slot with
  | some (n, number) =>
    s.updLine fun l => { l with alignment := .confirm, heldN := some n, lastLine := number, slotPos := 0 }
  | none => s

/-- R150: the sync that confirms: it states the held N and the next line cycle number. -/
def State.confirms (s : State) (slot : Slot) : Option Nat :=
  match s.syncTaken slot with
  | some number => if number = (s.line.lastLine + 1) % 65536 then some number else none
  | none => none

/-- R150: the slot at the expected sync position in CONFIRM. -/
def confirmExamine (order : List CycleWork) (slot : Slot) (s : State) : State :=
  match s.confirms slot with
  | some number => cycleStart order (s.updLine fun l => { l with alignment := .locked, misses := 0, lastLine := number })
  | none => s.updLine fun l => { l with alignment := .hunt }

/-- R152: a miss, whose count is now `n`, is judged against the flywheel limit. -/
def judgeMiss (n : Nat) (order : List CycleWork) (s : State) : State :=
  let s := s.updLine fun l => { l with alignment := .flywheel, misses := n }
  if n < s.mgmt.config.flywheel then cycleStart order s else fallToHunt s

/-- R151: the slot at the expected sync position in LOCKED. -/
def lockedExamine (order : List CycleWork) (slot : Slot) (s : State) : State :=
  match s.syncTaken slot with
  | some number => cycleStart order (s.updLine fun l => { l with lastLine := number })
  | none => judgeMiss 1 order s

/-- R152: the slot at the expected sync position in FLYWHEEL. -/
def flywheelExamine (order : List CycleWork) (slot : Slot) (s : State) : State :=
  match s.syncTaken slot with
  | some number => cycleStart order (s.updLine fun l => { l with alignment := .locked, misses := 0, lastLine := number })
  | none => judgeMiss (s.line.misses + 1) order s

/-! ### A slot arrives (R147, R156 to R159) -/

/-- R157: the slot of a reply window that arrives by itself. The question whether a reply is owed is asked at position
9, and the answer holds for the window. -/
def replySlot (slot : Slot) (s : State) : State :=
  match s.mgmt.owed with
  | some r =>
    if s.nextPos = 9 then (s.updMgmt fun m => { m with replyWritten := true }).sendNext r.window.s1
    else s.sendNext (if s.mgmt.replyWritten then r.window.slots.getD (s.nextPos - 9) slot else slot)
  | none => s.sendNext slot

/-- R158: the slot at a mapped position, by its entry in the active bank. -/
def entrySlot (e : SlotEntry) (slot : Slot) (s : State) : State :=
  match e with
  | .pass => s.sendNext slot
  | .sample t k => takeSample t k slot (s.sendNext slot)
  | .command (.jack c) => writeJack c s
  | .command (.winch c) => writeWinch c s
  | .command (.pump p) => writePump p s
  | .report => writeReport s

/-- R156 to R159: a slot of a worked cycle, not at the expected sync position, is handled by its position. -/
def workSlot (slot : Slot) (s : State) : State :=
  match s.nextEntry with
  | some e => entrySlot e slot s
  | none => if 9 ≤ s.nextPos then replySlot slot s else requestSlot slot s

/-- R147 to R152: a slot arrives at a part with no work due. `order` is the order of the cycle start that it may
raise. -/
def slotArrives (order : List CycleWork) (slot : Slot) (s : State) : State :=
  if s.pins.resetIn then s.emit slot
  else match s.line.alignment with
  | .hunt => huntExamine slot (s.emit slot)
  | .confirm => if s.atSync then confirmExamine order slot (s.emit slot) else s.sendNext slot
  | .locked => if s.atSync then lockedExamine order slot (s.emit slot) else workSlot slot s
  | .flywheel => if s.atSync then flywheelExamine order slot (s.emit slot) else workSlot slot s

/-- The part with all due work done, before the slots of a command. -/
def State.listening (s : State) : State := (settle s).passSlots []

/-- The slot of a command arrives. -/
def slotEvent (order : List CycleWork) (slot : Slot) (s : State) : State := slotArrives order slot s.listening

/-- The eight slots of a window arrive one by one, each handled by its position. -/
def looseSlots (w : Window) (s : State) : State :=
  w.slots.foldl (fun s x => slotArrives [] x (settle s)) s.listening

/-- HUNT_SLOT (R149). -/
def execHuntSlot (slot : Slot) (s : State) : Host.Outcome State Fault Refusal := .next (slotEvent [] slot s)

/-- CONFIRM_SYNC_POSITION (R150). -/
def execConfirmSyncPosition (slot : Slot) (order : List CycleWork) (s : State) : Host.Outcome State Fault Refusal :=
  .next (slotEvent order slot s)

/-- LOCKED_SYNC_POSITION (R151). -/
def execLockedSyncPosition (slot : Slot) (order : List CycleWork) (s : State) : Host.Outcome State Fault Refusal :=
  .next (slotEvent order slot s)

/-- FLYWHEEL_SYNC_POSITION (R152). -/
def execFlywheelSyncPosition (slot : Slot) (order : List CycleWork) (s : State) : Host.Outcome State Fault Refusal :=
  .next (slotEvent order slot s)

/-- R151, R152: the miss count that a miss at this sync position gives. -/
def LinePort.nextMiss (l : LinePort) : Nat := if l.alignment = .locked then 1 else l.misses + 1

/-- R152: the slot at the expected sync position is a miss that brings the count to the flywheel limit. -/
def flywheelEnds (slot : Slot) (s : State) : Bool :=
  s.worked && s.atSync && (s.syncTaken slot).isNone && decide (s.mgmt.config.flywheel ≤ s.line.nextMiss)

/-- FLYWHEEL_END (R152): no slot arrives where it is not the flywheel's end. -/
def execFlywheelEnd (slot : Slot) (s : State) : Host.Outcome State Fault Refusal :=
  .next (if flywheelEnds slot (settle s) then slotEvent [] slot s else s)

/-- R148: the slot that arrives next is at `pos`. A part that counts no positions (in HUNT, or held in reset) admits
any. -/
def State.arrivesAt (pos : Nat) (s : State) : Bool :=
  s.pins.resetIn || s.line.alignment = .hunt || pos = s.nextPos

/-- A slot at the position a row names, with the outcome the row names; no slot arrives where the position counted or the
outcome is another (log entry 2). -/
def slotOutcome (pos : Nat) (q : Slot → State → Bool) (slot : Slot) (s : State) : State :=
  if (settle s).arrivesAt pos && q slot (settle s) then slotEvent [] slot s else s

/-! ### Work of a cycle start -/

/-- A piece of cycle-start work is due and comes to the outcome `q` names. -/
def workOccurs (w : CycleWork) (q : State → Bool) (s : State) : Bool := decide (w ∈ s.due) && q (prepareWork w s)

/-- The occurrence, taken; no effect where it does not occur. -/
def takeOccurrence (w : CycleWork) (q : State → Bool) (s : State) : State := if workOccurs w q s then takeWork w s else s

/-- R32, R33: this cycle start takes a profile step. -/
def profileSteps (c : Chan) (s : State) : Bool :=
  (s.chan c).advances && ((s.chan c).profile.takePace).crosses s.paceScale

/-- PROFILE_STEP (R33). -/
def execProfileStep (c : Chan) (s : State) : Host.Outcome State Fault Refusal :=
  .next (takeOccurrence (.profile c) (profileSteps c) s)

/-- SEGMENT_END (R34): the profile step that ends the working segment. -/
def execSegmentEnd (c : Chan) (s : State) : Host.Outcome State Fault Refusal :=
  .next (takeOccurrence (.profile c) (fun s => profileSteps c s && (s.chan c).profile.stepEndsSegment) s)

/-- TAKE_UP_STEP (R11, R12, R29). -/
def execTakeUpStep (c : Chan) (s : State) : Host.Outcome State Fault Refusal :=
  .next (takeOccurrence (.sequencer c) (fun s => decide ((s.chan c).state = .running ∧ (s.chan c).phase = .takeUp)) s)

/-- R65: this cycle start releases the jack. -/
def releasesNow (c : Chan) (s : State) : Bool :=
  decide ((s.chan c).state = .running) && !(s.chan c).tookUp &&
    match s.currentStep c, (s.chan c).work with
    | some { body := .lockoff p, .. }, .lockoff w =>
      decide (w.phase = .seating ∧ w.settle = p.settleCycles) && (lockoffLoad s c w).isSome
    | _, _ => false

/-- LOCKOFF_RELEASE (R65, R66). -/
def execLockoffRelease (c : Chan) (s : State) : Host.Outcome State Fault Refusal :=
  .next (takeOccurrence (.sequencer c) (releasesNow c) s)

/-- The HOLD a RUNNING channel works at this cycle start. -/
def State.holding (s : State) (c : Chan) : Option (HoldStep × HoldWork) :=
  match (s.chan c).state, s.currentStep c, (s.chan c).work with
  | .running, some { body := .hold p, .. }, .hold w => if (s.chan c).tookUp then none else some (p, w)
  | _, _, _ => none

/-- R59: a mark is recorded at this cycle start. -/
def marksNow (c : Chan) (s : State) : Bool :=
  match s.holding c with
  | some (p, w) => markDue ((s.store.markSet p.markSet).getD []) p.duration w.elapsed
  | none => false

/-- HOLD_MARK (R59). -/
def execHoldMark (c : Chan) (s : State) : Host.Outcome State Fault Refusal :=
  .next (takeOccurrence (.sequencer c) (marksNow c) s)

/-- R59, R62: the hold is complete at this cycle start. -/
def holdCompletes (c : Chan) (s : State) : Bool :=
  match s.holding c with
  | some (p, w) => w.elapsed = p.duration
  | none => false

/-- HOLD_COMPLETE (R62, R63). -/
def execHoldComplete (c : Chan) (s : State) : Host.Outcome State Fault Refusal :=
  .next (takeOccurrence (.sequencer c) (holdCompletes c) s)

/-- R56: the unsettled count reaches the settle limit at this cycle start. -/
def unsettledNow (c : Chan) (s : State) : Bool :=
  match s.settling c with
  | some (p, w) => !(s.chan c).tookUp && rampCounts (s.chan c) w && decide (p.settleLimit ≤ w.unsettled + 1)
  | none => false

/-- RAMP_UNSETTLED (R56). -/
def execRampUnsettled (c : Chan) (s : State) : Host.Outcome State Fault Refusal :=
  .next (takeOccurrence (.sequencer c) (unsettledNow c) s)

/-- R105: the AWAIT's timer runs out at this cycle start. -/
def timerOut (c : Chan) (s : State) : Bool :=
  decide ((s.chan c).state = .running) && !(s.chan c).tookUp &&
    match s.currentStep c, (s.chan c).work with
    | some { body := .await p, .. }, .await w => awaitPresent s c p w .timer
    | _, _ => false

/-- AWAIT_TIMER (R105 to R107). -/
def execAwaitTimer (c : Chan) (s : State) : Host.Outcome State Fault Refusal :=
  .next (takeOccurrence (.sequencer c) (timerOut c) s)

/-- SWITCH_COMPLETE (R80). -/
def execSwitchComplete (p : Pump) (s : State) : Host.Outcome State Fault Refusal :=
  .next (takeOccurrence (.arbiter p) (fun s => (s.arb p).switchDone) s)

/-- TENURE_EXPIRY (R81). -/
def execTenureExpiry (p : Pump) (s : State) : Host.Outcome State Fault Refusal :=
  .next (takeOccurrence (.arbiter p) (fun s => (s.arb p).tenureDone) s)

/-- SAMPLE_STALE (R141). -/
def execSampleStale (c : Chan) (s : State) : Host.Outcome State Fault Refusal :=
  .next (takeOccurrence (.inputStale c) (fun s => s.stepStale c && !(s.chan c).freeze.sampleStale) s)

/-- WALL_POINT_STALE (R117). -/
def execWallPointStale (w : Point) (s : State) : Host.Outcome State Fault Refusal :=
  .next (takeOccurrence (.wallStale w) (fun s => s.pointStale w && decide ((s.wall w).state ≠ .stale)) s)

/-- NODE_SILENT (R144). -/
def execNodeSilent (c : Chan) (s : State) : Host.Outcome State Fault Refusal :=
  .next (takeOccurrence (.echo c) (fun s => s.silent c) s)

/-- SLOT_MAP_SWAP (R161). -/
def execSlotMapSwap (s : State) : Host.Outcome State Fault Refusal :=
  .next (takeOccurrence .mapSwap (fun s => s.line.swapPending) s)

/-- REPORT_LIST_SWAP (R193): at a cycle start with the list empty, or at the wrap while a report slot is filled. -/
def execReportListSwap (moment : SwapMoment) (s : State) : Host.Outcome State Fault Refusal :=
  .next (match moment with
    | .cycleStart => takeOccurrence .listSwap (fun s => s.reports.swapPending && decide (s.reports.active = [])) s
    | .reportSlot pos slot => slotOutcome pos (fun _ s => swapAtWrapOccurs s) slot s)

/-! ### Slots of a worked cycle (R157 to R159) -/

/-- R157: the eight slots of the reply window pass, written from the owed reply where there is one. -/
def writeReply (w : Window) (s : State) : State :=
  let s := s.updLine fun l => { l with slotPos := 16 }
  match s.mgmt.owed with
  | some r => (s.updMgmt fun m => { m with replyWritten := true }).passSlots r.window.slots
  | none => s.passSlots w.slots

/-- REPLY_WINDOW (R157). -/
def execReplyWindow (w : Window) (s : State) : Host.Outcome State Fault Refusal :=
  .next (if (settle s).atReplyWindow then writeReply w (settle s) else looseSlots w s)

/-- R157, R168, R180: position 16 of a written reply has left: no reply is owed any more, and the OK of a RESET_PART
sets the device reset going. -/
def replyGone (s : State) : State :=
  if s.worked ∧ s.mgmt.replyWritten ∧ 16 ≤ s.line.slotPos then
    let reset := s.endsReset s.mgmt.owed
    let s := s.updMgmt fun m => { m with owed := none, replyWritten := false }
    if reset then s.resetDue else s
  else s

/-- REPLY_LEFT (R157). -/
def execReplyLeft (s : State) : Host.Outcome State Fault Refusal := .next (replyGone (settle s))

/-- SAMPLE_SLOT (R131, R132, R136). -/
def execSampleSlot (pos : Nat) (slot : Slot) (s : State) : Host.Outcome State Fault Refusal :=
  .next (slotOutcome pos (fun _ _ => true) slot s)

/-- OVERLOAD (R52). -/
def execOverload (pos : Nat) (slot : Slot) (s : State) : Host.Outcome State Fault Refusal :=
  .next (slotOutcome pos overloadOccurs slot s)

/-- RAMP_SETTLED (R55). -/
def execRampSettled (pos : Nat) (slot : Slot) (s : State) : Host.Outcome State Fault Refusal :=
  .next (slotOutcome pos rampSettledOccurs slot s)

/-- REFUSAL (R73). -/
def execRefusal (pos : Nat) (slot : Slot) (s : State) : Host.Outcome State Fault Refusal :=
  .next (slotOutcome pos refusalOccurs slot s)

/-- OVERPRESSURE (R74). -/
def execOverpressure (pos : Nat) (slot : Slot) (s : State) : Host.Outcome State Fault Refusal :=
  .next (slotOutcome pos overpressureOccurs slot s)

/-- TENSION_LIMIT (R97). -/
def execTensionLimit (pos : Nat) (slot : Slot) (s : State) : Host.Outcome State Fault Refusal :=
  .next (slotOutcome pos tensionLimitOccurs slot s)

/-- JACK_COMMAND (R46 to R49). -/
def execJackCommand (pos : Nat) (slot : Slot) (s : State) : Host.Outcome State Fault Refusal :=
  .next (slotOutcome pos (fun _ _ => true) slot s)

/-- WINCH_COMMAND (R92, R93). -/
def execWinchCommand (pos : Nat) (slot : Slot) (s : State) : Host.Outcome State Fault Refusal :=
  .next (slotOutcome pos (fun _ _ => true) slot s)

/-- PUMP_COMMAND (R85, R86). -/
def execPumpCommand (pos : Nat) (slot : Slot) (s : State) : Host.Outcome State Fault Refusal :=
  .next (slotOutcome pos (fun _ _ => true) slot s)

/-- REPORT_SLOT (R192). -/
def execReportSlot (pos : Nat) (slot : Slot) (s : State) : Host.Outcome State Fault Refusal :=
  .next (slotOutcome pos (fun _ _ => true) slot s)

end Sys2Proof.Machine
end

