-- ==== Sys2Proof/Machine/Requests.lean ====
section
/-! DEFINITION. The meanings of the request rows. A request row carries its eight-slot window. At the request window of
a worked cycle the window passes and the Management Unit takes the request it carries, the row's own or another's
(log entry 2); eight slots that arrive elsewhere are handled slot by slot. -/

namespace Sys2Proof.Machine

/-! ### The window passes (R147, R156, R165, R167) -/

/-- R156: the eight slots of the request window pass unchanged, the position counted with them. -/
def passWindow (w : Window) (s : State) : State :=
  (s.updLine fun l => { l with slotPos := 8 }).passSlots w.slots

/-- The window arrives and its request is taken: the row's own, by `act`, or another, which the Management Unit takes by
the kind the window carries (R156). Eight slots that do not arrive at the request window of a worked cycle are handled
slot by slot. -/
def requestEvent (mine : Bool) (act : List Byte → State → Answer) (w : Window) (s : State) : State :=
  if (settle s).atRequestWindow then
    if mine then takeRequest act w (passWindow w (settle s)) else takeWindow w (passWindow w (settle s))
  else looseSlots w s

/-! ### IGNORED_REQUEST and UNKNOWN_REQUEST (R165, R166) -/

/-- The window arrives, and the Management Unit judges it (R156): one that is ignored leaves the part as it was (R165),
and a request that is not is taken. -/
def ignoredEvent (w : Window) (s : State) : State :=
  if (settle s).atRequestWindow then takeWindow w (passWindow w (settle s)) else looseSlots w s

/-- IGNORED_REQUEST (R165). -/
def execIgnoredRequest (w : Window) (s : State) : Host.Outcome State Fault Refusal := .next (ignoredEvent w s)

/-- The window arrives and its request, when its kind is unknown, is refused; one of a known kind is taken. -/
def unknownEvent (w : Window) (s : State) : State :=
  if (settle s).atRequestWindow && !knownKind (requestKind w) then takeUnknown w (passWindow w (settle s))
  else ignoredEvent w s

/-- UNKNOWN_REQUEST (R166). -/
def execUnknownRequest (w : Window) (s : State) : Host.Outcome State Fault Refusal := .next (unknownEvent w s)

/-! ### LOAD_ENTRY (R6, R171) -/

/-- LOAD_ENTRY_HEADER (R1, R6). -/
def execLoadEntryHeader (w : Window) (s : State) : Host.Outcome State Fault Refusal :=
  .next (requestEvent (ofLoad .header w) loadHeader w s)

/-- LOAD_ENTRY_STEP (R2, R6). -/
def execLoadEntryStep (w : Window) (s : State) : Host.Outcome State Fault Refusal :=
  .next (requestEvent (ofLoad .step w) loadStep w s)

/-- LOAD_ENTRY_SEGMENT (R28, R6). -/
def execLoadEntrySegment (w : Window) (s : State) : Host.Outcome State Fault Refusal :=
  .next (requestEvent (ofLoad .segment w) loadSegment w s)

/-- LOAD_ENTRY_MARKSET (R3, R6). -/
def execLoadEntryMarkset (w : Window) (s : State) : Host.Outcome State Fault Refusal :=
  .next (requestEvent (ofLoad .markset w) loadMarkSet w s)

/-- LOAD_ENTRY_SCALE (R133). -/
def execLoadEntryScale (w : Window) (s : State) : Host.Outcome State Fault Refusal :=
  .next (requestEvent (ofLoad .scale w) loadScale w s)

/-- LOAD_ENTRY_CHANNEL_CONFIG (R24). -/
def execLoadEntryChannelConfig (w : Window) (s : State) : Host.Outcome State Fault Refusal :=
  .next (requestEvent (ofLoad .channelConfig w) loadChannelConfig w s)

/-- LOAD_ENTRY_WALL_POINT (R114, R118). -/
def execLoadEntryWallPoint (w : Window) (s : State) : Host.Outcome State Fault Refusal :=
  .next (requestEvent (ofLoad .wallPoint w) loadWallPoint w s)

/-- LOAD_ENTRY_SLOT_MAP (R160). -/
def execLoadEntrySlotMap (w : Window) (s : State) : Host.Outcome State Fault Refusal :=
  .next (requestEvent (ofLoad .slotMap w) loadSlotMap w s)

/-- LOAD_ENTRY_REPORT_LIST (R190). -/
def execLoadEntryReportList (w : Window) (s : State) : Host.Outcome State Fault Refusal :=
  .next (requestEvent (ofLoad .reportList w) loadReportList w s)

/-- LOAD_ENTRY_PART_CONFIG (R179). -/
def execLoadEntryPartConfig (w : Window) (s : State) : Host.Outcome State Fault Refusal :=
  .next (requestEvent (ofLoad .partConfig w) loadPartConfig w s)

/-! ### READ_ENTRY (R172) -/

/-- READ_ENTRY (R172). -/
def execReadEntry (w : Window) (s : State) : Host.Outcome State Fault Refusal :=
  .next (requestEvent (ofKind 2 w) readEntry w s)

/-! ### SWAP_BANKS (R161, R173, R193) -/

/-- SWAP_BANKS_SLOT_MAP (R161). -/
def execSwapBanksSlotMap (w : Window) (s : State) : Host.Outcome State Fault Refusal :=
  .next (requestEvent (ofSwap .slotMap w) (swapBanks setMapSwap) w s)

/-- SWAP_BANKS_REPORT_LIST (R193). -/
def execSwapBanksReportList (w : Window) (s : State) : Host.Outcome State Fault Refusal :=
  .next (requestEvent (ofSwap .reportList w) (swapBanks setListSwap) w s)

/-- SWAP_BANKS_BOTH (R173). -/
def execSwapBanksBoth (w : Window) (s : State) : Host.Outcome State Fault Refusal :=
  .next (requestEvent (ofSwap .both w) (swapBanks setBothSwaps) w s)

/-! ### Requests that name a channel -/

/-- START_PROGRAM (R8 to R10). -/
def execStartProgram (w : Window) (s : State) : Host.Outcome State Fault Refusal :=
  .next (requestEvent (ofKind 4 w) (onChannel startRequest) w s)

/-- ABORT_PROGRAM (R21). -/
def execAbortProgram (w : Window) (s : State) : Host.Outcome State Fault Refusal :=
  .next (requestEvent (ofKind 5 w) (onChannel abortRequest) w s)

/-- SKIP_STEP (R22). -/
def execSkipStep (w : Window) (s : State) : Host.Outcome State Fault Refusal :=
  .next (requestEvent (ofKind 6 w) (onChannel skipRequest) w s)

/-! ### FREEZE and RESUME (R124 to R126) -/

/-- FREEZE (R124). -/
def execFreeze (w : Window) (s : State) : Host.Outcome State Fault Refusal :=
  .next (requestEvent (ofKind 7 w) freezeRequest w s)

/-- RESUME (R125, R126). -/
def execResume (w : Window) (s : State) : Host.Outcome State Fault Refusal :=
  .next (requestEvent (ofKind 8 w) resumeRequest w s)

/-! ### RELEASE, RETARGET and SET_PACE (R30, R40 to R43, R108) -/

/-- RELEASE (R108). -/
def execRelease (w : Window) (s : State) : Host.Outcome State Fault Refusal :=
  .next (requestEvent (ofKind 9 w) (onChannel releaseRequest) w s)

/-- RETARGET_AT_END (R41, R43). -/
def execRetargetAtEnd (w : Window) (s : State) : Host.Outcome State Fault Refusal :=
  .next (requestEvent (ofRetarget .atEnd w) (onChannel (retargetRequest Profile.retargetAtEnd)) w s)

/-- RETARGET_NOW (R42, R43). -/
def execRetargetNow (w : Window) (s : State) : Host.Outcome State Fault Refusal :=
  .next (requestEvent (ofRetarget .now w) (onChannel (retargetRequest Profile.retargetNow)) w s)

/-- SET_PACE (R30). A bad channel is refused before a bad pace (DESIGN CHOICE, log entry 42). -/
def execSetPace (w : Window) (s : State) : Host.Outcome State Fault Refusal :=
  .next (requestEvent (ofKind 11 w) (onChannel paceRequest) w s)

/-! ### Reading (R175 to R177) -/

/-- READ_CHANNEL (R175). -/
def execReadChannel (w : Window) (s : State) : Host.Outcome State Fault Refusal :=
  .next (requestEvent (ofKind 12 w) (onChannel readChannel) w s)

/-- READ_PUMP (R175). -/
def execReadPump (w : Window) (s : State) : Host.Outcome State Fault Refusal :=
  .next (requestEvent (ofKind 13 w) readPump w s)

/-- READ_RECORD (R177). -/
def execReadRecord (w : Window) (s : State) : Host.Outcome State Fault Refusal :=
  .next (requestEvent (ofKind 14 w) readRecord w s)

/-- TAKE_RECORD (R177, R186). -/
def execTakeRecord (w : Window) (s : State) : Host.Outcome State Fault Refusal :=
  .next (requestEvent (ofKind 15 w) takeRecord w s)

/-! ### Wall points (R120, R121) -/

/-- SET_BASELINE (R120). -/
def execSetBaseline (w : Window) (s : State) : Host.Outcome State Fault Refusal :=
  .next (requestEvent (ofKind 16 w) (onPoint baselineRequest) w s)

/-- CLEAR_WALL_STOP (R121). -/
def execClearWallStop (w : Window) (s : State) : Host.Outcome State Fault Refusal :=
  .next (requestEvent (ofKind 17 w) (onPoint clearRequest) w s)

/-! ### The Management Unit's own (R176, R178, R180) -/

/-- READ_STATUS (R176). -/
def execReadStatus (w : Window) (s : State) : Host.Outcome State Fault Refusal :=
  .next (requestEvent (ofKind 18 w) readStatus w s)

/-- CLEAR_NOTICES (R178). -/
def execClearNotices (w : Window) (s : State) : Host.Outcome State Fault Refusal :=
  .next (requestEvent (ofKind 19 w) noticesRequest w s)

/-- RESET_PART (R180). -/
def execResetPart (w : Window) (s : State) : Host.Outcome State Fault Refusal :=
  .next (requestEvent (ofKind 20 w) resetRequest w s)

end Sys2Proof.Machine
end

