-- ==== Sys2Proof/Machine/Dispatch.lean ====
section
/-! DEFINITION. The meaning of every command: one arm per constructor of `Instr`. -/

namespace Sys2Proof.Machine

def exec (i : Instr) (s : State) : Host.Outcome State Fault Refusal :=
  match i with
  | .powerOn strap panel => Sys2Proof.Machine.execPowerOn strap panel s
  | .resetInAssert => Sys2Proof.Machine.execResetInAssert s
  | .resetInRelease strap panel => Sys2Proof.Machine.execResetInRelease strap panel s
  | .deviceReset strap panel => Sys2Proof.Machine.execDeviceReset strap panel s
  | .panelHoldAssert => Sys2Proof.Machine.execPanelHoldAssert s
  | .panelHoldRelease => Sys2Proof.Machine.execPanelHoldRelease s
  | .lossOfSignal => Sys2Proof.Machine.execLossOfSignal s
  | .huntSlot slot => Sys2Proof.Machine.execHuntSlot slot s
  | .confirmSyncPosition slot order => Sys2Proof.Machine.execConfirmSyncPosition slot order s
  | .lockedSyncPosition slot order => Sys2Proof.Machine.execLockedSyncPosition slot order s
  | .flywheelSyncPosition slot order => Sys2Proof.Machine.execFlywheelSyncPosition slot order s
  | .flywheelEnd slot => Sys2Proof.Machine.execFlywheelEnd slot s
  | .profileStep c => Sys2Proof.Machine.execProfileStep c s
  | .segmentEnd c => Sys2Proof.Machine.execSegmentEnd c s
  | .takeUpStep c => Sys2Proof.Machine.execTakeUpStep c s
  | .lockoffRelease c => Sys2Proof.Machine.execLockoffRelease c s
  | .holdMark c => Sys2Proof.Machine.execHoldMark c s
  | .holdComplete c => Sys2Proof.Machine.execHoldComplete c s
  | .rampUnsettled c => Sys2Proof.Machine.execRampUnsettled c s
  | .awaitTimer c => Sys2Proof.Machine.execAwaitTimer c s
  | .switchComplete p => Sys2Proof.Machine.execSwitchComplete p s
  | .tenureExpiry p => Sys2Proof.Machine.execTenureExpiry p s
  | .sampleStale c => Sys2Proof.Machine.execSampleStale c s
  | .wallPointStale w => Sys2Proof.Machine.execWallPointStale w s
  | .nodeSilent c => Sys2Proof.Machine.execNodeSilent c s
  | .slotMapSwap => Sys2Proof.Machine.execSlotMapSwap s
  | .reportListSwap moment => Sys2Proof.Machine.execReportListSwap moment s
  | .replyWindow w => Sys2Proof.Machine.execReplyWindow w s
  | .replyLeft => Sys2Proof.Machine.execReplyLeft s
  | .sampleSlot pos slot => Sys2Proof.Machine.execSampleSlot pos slot s
  | .overload pos slot => Sys2Proof.Machine.execOverload pos slot s
  | .rampSettled pos slot => Sys2Proof.Machine.execRampSettled pos slot s
  | .refusal pos slot => Sys2Proof.Machine.execRefusal pos slot s
  | .overpressure pos slot => Sys2Proof.Machine.execOverpressure pos slot s
  | .tensionLimit pos slot => Sys2Proof.Machine.execTensionLimit pos slot s
  | .jackCommand pos slot => Sys2Proof.Machine.execJackCommand pos slot s
  | .winchCommand pos slot => Sys2Proof.Machine.execWinchCommand pos slot s
  | .pumpCommand pos slot => Sys2Proof.Machine.execPumpCommand pos slot s
  | .reportSlot pos slot => Sys2Proof.Machine.execReportSlot pos slot s
  | .ignoredRequest w => Sys2Proof.Machine.execIgnoredRequest w s
  | .unknownRequest w => Sys2Proof.Machine.execUnknownRequest w s
  | .loadEntryHeader w => Sys2Proof.Machine.execLoadEntryHeader w s
  | .loadEntryStep w => Sys2Proof.Machine.execLoadEntryStep w s
  | .loadEntrySegment w => Sys2Proof.Machine.execLoadEntrySegment w s
  | .loadEntryMarkset w => Sys2Proof.Machine.execLoadEntryMarkset w s
  | .loadEntryScale w => Sys2Proof.Machine.execLoadEntryScale w s
  | .loadEntryChannelConfig w => Sys2Proof.Machine.execLoadEntryChannelConfig w s
  | .loadEntryWallPoint w => Sys2Proof.Machine.execLoadEntryWallPoint w s
  | .loadEntrySlotMap w => Sys2Proof.Machine.execLoadEntrySlotMap w s
  | .loadEntryReportList w => Sys2Proof.Machine.execLoadEntryReportList w s
  | .loadEntryPartConfig w => Sys2Proof.Machine.execLoadEntryPartConfig w s
  | .readEntry w => Sys2Proof.Machine.execReadEntry w s
  | .swapBanksSlotMap w => Sys2Proof.Machine.execSwapBanksSlotMap w s
  | .swapBanksReportList w => Sys2Proof.Machine.execSwapBanksReportList w s
  | .swapBanksBoth w => Sys2Proof.Machine.execSwapBanksBoth w s
  | .startProgram w => Sys2Proof.Machine.execStartProgram w s
  | .abortProgram w => Sys2Proof.Machine.execAbortProgram w s
  | .skipStep w => Sys2Proof.Machine.execSkipStep w s
  | .freeze w => Sys2Proof.Machine.execFreeze w s
  | .resume w => Sys2Proof.Machine.execResume w s
  | .release w => Sys2Proof.Machine.execRelease w s
  | .retargetAtEnd w => Sys2Proof.Machine.execRetargetAtEnd w s
  | .retargetNow w => Sys2Proof.Machine.execRetargetNow w s
  | .setPace w => Sys2Proof.Machine.execSetPace w s
  | .readChannel w => Sys2Proof.Machine.execReadChannel w s
  | .readPump w => Sys2Proof.Machine.execReadPump w s
  | .readRecord w => Sys2Proof.Machine.execReadRecord w s
  | .takeRecord w => Sys2Proof.Machine.execTakeRecord w s
  | .setBaseline w => Sys2Proof.Machine.execSetBaseline w s
  | .clearWallStop w => Sys2Proof.Machine.execClearWallStop w s
  | .readStatus w => Sys2Proof.Machine.execReadStatus w s
  | .clearNotices w => Sys2Proof.Machine.execClearNotices w s
  | .resetPart w => Sys2Proof.Machine.execResetPart w s

end Sys2Proof.Machine
end

