-- ==== Sys2Proof/Machine/LineCoding.lean ====
section
/-! DEFINITION. Slot delimiting (R199): the bits of a slot on a line port, and the slots that a receiver delimits in a
sequence of bits. A bit is `true` at high level. The slots so delimited are what the rows that carry slots deliver
(R147, log entry 41), and the bits of the slots in `State.sent` are what leaves the downstream port. -/

namespace Sys2Proof.Machine

/-! ### Characters -/

/-- R199: a byte as it travels, with the level of its stop bit; the start bit is always low. -/
structure Character where
  data : Byte
  stop : Bool
  deriving DecidableEq, Repr

/-- R199: a start bit at low level, eight data bits most significant first, and the stop bit. -/
def Character.bits (x : Character) : List Bool :=
  let d := x.data
  [false, d.getLsbD 7, d.getLsbD 6, d.getLsbD 5, d.getLsbD 4, d.getLsbD 3, d.getLsbD 2, d.getLsbD 1, d.getLsbD 0, x.stop]

def charactersBits (cs : List Character) : List Bool := cs.flatMap Character.bits

/-! ### Slots on the line -/

/-- R146, R199: the four data bytes and the check byte; the first character alone has a low stop bit, the slot-start
symbol. -/
def slotCharacters (x : Slot) : List Character :=
  [⟨x.b0, false⟩, ⟨x.b1, true⟩, ⟨x.b2, true⟩, ⟨x.b3, true⟩, ⟨x.check, true⟩]

/-- The bits of a slot on a line port. -/
def slotBits (x : Slot) : List Bool := charactersBits (slotCharacters x)

/-- The bits of consecutive slots. -/
def slotsBits (xs : List Slot) : List Bool := xs.flatMap slotBits

/-- The bits that left the downstream port with the last command. -/
def State.sentBits (s : State) : List Bool := slotsBits s.sent

/-! ### The receiver -/

/-- R199: the characters of a sequence of bits that begins between two characters. A low level is a start bit, and the
eight bits after it and the stop bit are taken whatever their levels. DESIGN CHOICE (log entry 41): a high level between
two characters is the line at rest and is passed over, and a character that is not whole is not read. -/
def readCharacters : List Bool → List Character
  | true :: bs => readCharacters bs
  | false :: b7 :: b6 :: b5 :: b4 :: b3 :: b2 :: b1 :: b0 :: stop :: bs =>
    { data := BitVec.ofBoolListBE [b7, b6, b5, b4, b3, b2, b1, b0], stop } :: readCharacters bs
  | _ => []

/-- R199: a character with a low stop bit starts a slot, and with the four that follow it is one. DESIGN CHOICE (log
entry 41): a character that starts no whole slot is dropped, be it one before any slot start or one of a slot cut short
by the next slot start. -/
def delimit : List Character → List Slot
  | c0 :: c1 :: c2 :: c3 :: c4 :: cs =>
    if !c0.stop && (c1.stop && c2.stop && c3.stop && c4.stop) then
      { b0 := c0.data, b1 := c1.data, b2 := c2.data, b3 := c3.data, check := c4.data } :: delimit cs
    else delimit (c1 :: c2 :: c3 :: c4 :: cs)
  | _ => []

/-- R199: the slots a receiver delimits. It reads no alignment, count or held N: slots are delimited before the part
has aligned to the cycle. -/
def receivedSlots (bits : List Bool) : List Slot := delimit (readCharacters bits)

end Sys2Proof.Machine
end

