-- ==== Sys2Proof/WellFormed.lean ====
section
/-! DEFINITION. Which commands are well formed: a position is one a line cycle has, the order of a cycle start names work
of a cycle start and each piece once, and a request row's window carries that row's request. What depends on the state
(which position comes next, whether a window is addressed to the part) is not asked here. -/

namespace Sys2Proof

open Sys2Proof.Machine

/-- R147, R149: a position of a line cycle, whose sync interval is at most 240. -/
def linePosition (pos : Nat) : Bool := 1 ≤ pos && pos ≤ 240

/-- R154: an order in which a cycle start's work is taken: no piece twice, and no request reset among it. -/
def orderOk (order : List CycleWork) : Bool := decide order.Nodup && decide (CycleWork.deviceReset ∉ order)

/-- R193: a report list swap at the wrap happens at a position. -/
def momentOk : SwapMoment → Bool
  | .cycleStart => true
  | .reportSlot pos _ => linePosition pos

/-- The command is well formed. -/
def Instr.wellFormed : Instr → Bool
  | .powerOn _ _ => true
  | .resetInAssert => true
  | .resetInRelease _ _ => true
  | .deviceReset _ _ => true
  | .panelHoldAssert => true
  | .panelHoldRelease => true
  | .lossOfSignal => true
  | .huntSlot _ => true
  | .confirmSyncPosition _ order => orderOk order
  | .lockedSyncPosition _ order => orderOk order
  | .flywheelSyncPosition _ order => orderOk order
  | .flywheelEnd _ => true
  | .profileStep _ => true
  | .segmentEnd _ => true
  | .takeUpStep _ => true
  | .lockoffRelease _ => true
  | .holdMark _ => true
  | .holdComplete _ => true
  | .rampUnsettled _ => true
  | .awaitTimer _ => true
  | .switchComplete _ => true
  | .tenureExpiry _ => true
  | .sampleStale _ => true
  | .wallPointStale _ => true
  | .nodeSilent _ => true
  | .slotMapSwap => true
  | .reportListSwap moment => momentOk moment
  | .replyWindow _ => true
  | .replyLeft => true
  | .sampleSlot pos _ => linePosition pos
  | .overload pos _ => linePosition pos
  | .rampSettled pos _ => linePosition pos
  | .refusal pos _ => linePosition pos
  | .overpressure pos _ => linePosition pos
  | .tensionLimit pos _ => linePosition pos
  | .jackCommand pos _ => linePosition pos
  | .winchCommand pos _ => linePosition pos
  | .pumpCommand pos _ => linePosition pos
  | .reportSlot pos _ => linePosition pos
  | .ignoredRequest _ => true
  | .unknownRequest w => !knownKind (requestKind w)
  | .loadEntryHeader w => ofLoad .header w
  | .loadEntryStep w => ofLoad .step w
  | .loadEntrySegment w => ofLoad .segment w
  | .loadEntryMarkset w => ofLoad .markset w
  | .loadEntryScale w => ofLoad .scale w
  | .loadEntryChannelConfig w => ofLoad .channelConfig w
  | .loadEntryWallPoint w => ofLoad .wallPoint w
  | .loadEntrySlotMap w => ofLoad .slotMap w
  | .loadEntryReportList w => ofLoad .reportList w
  | .loadEntryPartConfig w => ofLoad .partConfig w
  | .readEntry w => ofKind 2 w
  | .swapBanksSlotMap w => ofSwap .slotMap w
  | .swapBanksReportList w => ofSwap .reportList w
  | .swapBanksBoth w => ofSwap .both w
  | .startProgram w => ofKind 4 w
  | .abortProgram w => ofKind 5 w
  | .skipStep w => ofKind 6 w
  | .freeze w => ofKind 7 w
  | .resume w => ofKind 8 w
  | .release w => ofKind 9 w
  | .retargetAtEnd w => ofRetarget .atEnd w
  | .retargetNow w => ofRetarget .now w
  | .setPace w => ofKind 11 w
  | .readChannel w => ofKind 12 w
  | .readPump w => ofKind 13 w
  | .readRecord w => ofKind 14 w
  | .takeRecord w => ofKind 15 w
  | .setBaseline w => ofKind 16 w
  | .clearWallStop w => ofKind 17 w
  | .readStatus w => ofKind 18 w
  | .clearNotices w => ofKind 19 w
  | .resetPart w => ofKind 20 w

end Sys2Proof
end

