-- ==== Sys2Proof/Safety.lean ====
section
/-! DEFINITION. What a safe part is: the invariants that every step keeps, in the terms the statements use. -/

namespace Sys2Proof.Machine

/-! ### Invariants -/

/-- Every sparse table is in its canonical form: indices strictly rising, no entry equal to what an unlisted index
reads as. -/
def State.tablesCanonical (s : State) : Prop :=
  Sparse.wf .pass s.line.active ∧ Sparse.wf .pass s.line.shadow ∧
  Sparse.wf none s.store.headers ∧ Sparse.wf none s.store.steps ∧
  Sparse.wf none s.store.segments ∧ Sparse.wf none s.store.markSets ∧
  Sparse.wf 0 s.store.headerLocks ∧ Sparse.wf 0 s.store.stepLocks ∧
  Sparse.wf 0 s.store.segmentLocks ∧ Sparse.wf 0 s.store.markSetLocks ∧
  Sparse.wf none s.scales ∧ Sparse.wf none s.inputs

/-- R185, R186: at most 16 records; the filing list holds exactly the FILING channels, each once and with its record;
while it is not empty the queue is full. -/
def State.recordsOk (s : State) : Prop :=
  s.records.queue.length ≤ 16 ∧ s.records.filing.Nodup ∧
  (s.records.filing ≠ [] → s.records.queue.length = 16) ∧
  (∀ c, c ∈ s.records.filing ↔ (s.chan c).state = .filing) ∧
  ∀ c ∈ s.records.filing, (s.chan c).filed.isSome = true

/-- R35: no channel's accumulator lies above its profile ceiling. -/
def State.setpointsOk (s : State) : Prop := ∀ c, (s.chan c).profile.acc ≤ (s.chan c).profile.ceiling * 256

/-- R45, R47, R48, R50: the integral lies within Imax and is 0 in IDLE, and the valve demand within 1000. -/
def State.loopsOk (s : State) : Prop :=
  ∀ c, -((s.chan c).config.imax : Int) ≤ (s.chan c).jack.integral ∧ (s.chan c).jack.integral ≤ (s.chan c).config.imax ∧
    -1000 ≤ (s.chan c).jack.lastValve ∧ (s.chan c).jack.lastValve ≤ 1000 ∧
    ((s.chan c).state = .idle → (s.chan c).jack.integral = 0)

/-- R116 to R118: a point is STOP exactly while its latch is set, and a disabled point is NORMAL. -/
def State.pointsOk (s : State) : Prop :=
  ∀ w, ((s.wall w).latch = true ↔ (s.wall w).state = .stop) ∧
    ((s.wall w).config.enable = false → (s.wall w).state = .normal)

/-- R17: an IDLE or RUNNING channel's freeze-cause set is empty, a FROZEN channel's is not. -/
def State.freezeOk (s : State) : Prop :=
  ∀ c, match (s.chan c).state with
    | .idle => (s.chan c).freeze.isEmpty = true
    | .running => (s.chan c).freeze.isEmpty = true
    | .frozen => (s.chan c).freeze.isEmpty = false
    | .faulted => True
    | .filing => True

/-- R122: while the wall state is STOP, every channel with a program in progress holds WALL_STOP. -/
def State.stopHeld (s : State) : Prop :=
  s.wallState = .stop → ∀ c, (s.chan c).state = .running ∨ (s.chan c).state = .frozen ∨ (s.chan c).state = .faulted →
    (s.chan c).freeze.wallStop = true

/-- R70: a channel's place at its pump as its step holds it, absent when it holds no claim. -/
def State.standing (s : State) (c : Chan) : Standing :=
  match (s.chan c).work with
  | .inject w => w.standing
  | .none | .payout _ | .ramp _ | .hold _ | .lockoff _ | .check _ | .await _ | .signal | .finish => .none

/-- R70, R83: each channel's standing is the Arbiter's place for it, a claim is held by RUNNING channels alone, a wait
queue holds no channel twice and is empty in FREE, and a GRANTED pump's manifold is at its holder. -/
def State.pumpsOk (s : State) : Prop :=
  (∀ p c, c ∈ (s.arb p).queue ↔ (s.chan c).config.pump = some p ∧ s.standing c = .queued) ∧
  (∀ p c, (s.arb p).state = .switching c ↔ (s.chan c).config.pump = some p ∧ s.standing c = .switching) ∧
  (∀ p c, (s.arb p).state = .granted c ↔ (s.chan c).config.pump = some p ∧ s.standing c = .granted) ∧
  (∀ p, (s.arb p).queue.Nodup) ∧
  (∀ p, (s.arb p).state = .free → (s.arb p).queue = []) ∧
  (∀ p c, (s.arb p).state = .granted c → (s.arb p).manifold = some c) ∧
  (∀ c, s.standing c ≠ .none → (s.chan c).state = .running ∧ (s.chan c).config.pump ≠ none) ∧
  ∀ c, (s.chan c).phase ≠ .active → (s.chan c).work = .none

/-- R148: the slots of the present cycle's request window that have been handed over and whose request is not taken yet:
those before its last one, in LOCKED and FLYWHEEL alone (R156). -/
def LinePort.handedOver (l : LinePort) : Nat :=
  if (l.alignment = .locked ∨ l.alignment = .flywheel) ∧ l.slotPos < 8 then l.slotPos else 0

/-- R149 to R152: outside HUNT a sync interval from 32 to 240 is held and the position counted is below it. R117, R127,
R154: work of a cycle start is due in a LOCKED or FLYWHEEL part alone, so that nothing counts in HUNT or CONFIRM. R156: the
Management Unit holds a slot for each position of the request window passed so far. R163, R181: a part held in reset is
in HUNT. -/
def State.lineOk (s : State) : Prop :=
  (s.line.alignment ≠ .hunt → ∃ n, s.line.heldN = some n ∧ 32 ≤ n ∧ n ≤ 240 ∧ s.line.slotPos < n) ∧
  (∀ w ∈ s.due, w = .deviceReset ∨ s.line.alignment = .locked ∨ s.line.alignment = .flywheel) ∧
  s.mgmt.window.length = s.line.handedOver ∧ (s.pins.resetIn = true → s.line.alignment = .hunt)

/-! ### Terms of the statements -/

/-- R150 to R152: the slot that arrives next is at the expected sync position, the one after position N − 1. -/
def AtSync (s : State) : Prop := ∃ n, s.line.heldN = some n ∧ s.line.slotPos + 1 = n

/-- The slot that arrives next lies before the expected sync position. -/
def BeforeSync (s : State) : Prop := ∃ n, s.line.heldN = some n ∧ s.line.slotPos + 1 < n

/-- R158: in a worked cycle the slot that arrives next is at the mapped position `pos`, where the active bank holds
`e`. -/
def SlotAt (s : State) (pos : Nat) (e : SlotEntry) : Prop :=
  s.worked = true ∧ BeforeSync s ∧ pos = s.line.slotPos + 1 ∧ 17 ≤ pos ∧ bankEntry s.line.active pos = e

/-- R165, R166: the window carries the request of kind `k` with payload `p`, is addressed to the part, and passes the
checks of its framing; it arrives at the request window of a LOCKED or FLYWHEEL part with no reset pending. -/
def Addressed (k : Nat) (p : List Byte) (w : Window) (s : State) : Prop :=
  s.atRequestWindow = true ∧ s.mgmt.resetPending = false ∧ 1 ≤ s.mgmt.address ∧ s.mgmt.address ≤ 62 ∧ slotGood w.s1 = true ∧
  requestDestination w = s.mgmt.address ∧ requestKind w = k ∧ requestLength w = p.length ∧ p.length ≤ 28 ∧
  requestPayload w = p ∧ ∀ x ∈ usedSlots w, slotGood x = true

/-- R147, R167, R168: the eight slots of a request window have passed and the reply to it is prepared; the part is
otherwise `s`. -/
def answered (w : Window) (status : Status) (payload : List Field) (s : State) : State :=
  { s with
    line := { s.line with slotPos := 8 }
    sent := w.slots
    mgmt := { s.mgmt with
      prepared := some { address := s.mgmt.address, kind := w.s1.b1, tag := w.s1.b2, status := status, payload := payload } } }

/-- R70, R72: what an Arbiter can do to the working fields of a step: it moves the claim standing of an INJECT, and with
it the refusal count may become 0. Volume, over count and end reason stay. -/
def ClaimMoved (a b : StepWork) : Prop :=
  b = a ∨ ∃ x st r, a = .inject x ∧ b = .inject { x with standing := st, refusals := r } ∧ (r = x.refusals ∨ r = 0)

/-- The channel `b` is as `a` says, but that an INJECT's claim may have been moved by an Arbiter. -/
def KeptAs (a b : Channel) : Prop := b = { a with work := b.work } ∧ ClaimMoved a.work b.work

/-- R17, R122: a freeze cause reaches the channels that `q` names. An IDLE channel takes none; a RUNNING channel that
did not hold it goes FROZEN; the others keep their state. Nothing else of a channel changes but the claim of an
INJECT. -/
def CauseReaches (k : FreezeCause) (q : Chan → Prop) (s t : State) : Prop :=
  ∀ c,
    (q c → (s.chan c).state ≠ .idle →
      KeptAs
        { s.chan c with
          freeze := (s.chan c).freeze.add k
          state := if (s.chan c).state = .running ∧ (s.chan c).freeze.has k = false then .frozen else (s.chan c).state }
        (t.chan c)) ∧
    (¬ q c ∨ (s.chan c).state = .idle → KeptAs (s.chan c) (t.chan c))

/-- Every channel but `c` is as it was, but for the claim of an INJECT. -/
def OthersKept (c : Chan) (s t : State) : Prop := ∀ d, d ≠ c → KeptAs (s.chan d) (t.chan d)

/-- R16: a fault has made channel `c` FAULTED: the cause is held and in the record, the notice is latched, and nothing
else of the channels changes but the claims of INJECT steps. -/
def FaultsWith (cause : FaultCause) (c : Chan) (s t : State) : Prop :=
  KeptAs
    { s.chan c with
      state := .faulted, fault := some cause
      record := (s.chan c).record.map fun r => { r with fault := some cause } }
    (t.chan c) ∧
  OthersKept c s t ∧ t.mgmt = { s.mgmt with latched := { s.mgmt.latched with channelFault := true } } ∧
  t.store = s.store ∧ t.scales = s.scales ∧ t.inputs = s.inputs ∧ t.walls = s.walls ∧ t.records = s.records ∧
  t.reports = s.reports ∧ t.pins = s.pins

/-- R13, R14: the ACTIVE step of channel `c` has been left naming `index`: phase TAKE_UP, no working fields,
SAMPLE_STALE removed, and a FROZEN channel whose set that empties RUNNING. The program, configuration, fault, pending
slot and peer flag are kept. -/
def StepLeft (index : Nat) (c : Chan) (s t : State) : Prop :=
  (t.chan c).phase = .takeUp ∧ (t.chan c).index = index ∧ (t.chan c).work = .none ∧
  (t.chan c).freeze = { (s.chan c).freeze with sampleStale := false } ∧
  (t.chan c).state =
    (if (s.chan c).state = .frozen ∧ (t.chan c).freeze.isEmpty = true then .running else (s.chan c).state) ∧
  (t.chan c).program = (s.chan c).program ∧ (t.chan c).config = (s.chan c).config ∧
  (t.chan c).fault = (s.chan c).fault ∧ (t.chan c).pendingProgram = (s.chan c).pendingProgram ∧
  (t.chan c).peer = (s.chan c).peer ∧ (t.chan c).filed = (s.chan c).filed ∧
  OthersKept c s t ∧ t.store = s.store ∧ t.scales = s.scales ∧ t.walls = s.walls ∧ t.records = s.records ∧
  t.reports = s.reports ∧ t.mgmt = s.mgmt ∧ t.pins = s.pins

/-- R6, R26, R44, R88, R130, R145, R163, R182, R187, R195: what a device reset leaves of a part `s`. -/
def DeviceResetLeaves (s t : State) : Prop :=
  (∀ c, t.chan c = Channel.afterReset (s.chan c).config) ∧
  t.pumpA = Arbiter.afterReset ∧ t.pumpB = Arbiter.afterReset ∧
  t.line = { s.line with alignment := .hunt, slotPos := 0, misses := 0, swapPending := false } ∧
  t.store = { s.store with headerLocks := [], stepLocks := [], segmentLocks := [], markSetLocks := [] } ∧
  t.scales = s.scales ∧
  (∀ x, t.input x = (s.input x).map fun _ => { value := 0, valid := false, age := 255, saturated := false, aux := 0 }) ∧
  (∀ w, (t.wall w).config = (s.wall w).config ∧ (t.wall w).latch = (s.wall w).latch ∧
    (t.wall w).state = if (s.wall w).latch then .stop else if (s.wall w).config.enable then .stale else .normal) ∧
  t.records.queue = s.records.queue ∧ t.records.filing = [] ∧
  t.reports.active = s.reports.active ∧ t.reports.shadow = s.reports.shadow ∧ t.reports.listPos = 0 ∧
  t.reports.lastSent = s.reports.active.map (fun _ => none) ∧ t.reports.swapPending = false ∧
  t.mgmt.prepared = none ∧ t.mgmt.owed = none ∧ t.mgmt.resetPending = false ∧ t.mgmt.config = s.mgmt.config ∧
  t.mgmt.latched.lineLost = false ∧ t.mgmt.latched.channelFault = false ∧ t.mgmt.latched.sampleStale = false ∧
  t.mgmt.latched.pumpTenure = false ∧ t.mgmt.latched.mgmtGarbled = false

end Sys2Proof.Machine
end

