-- ==== Sys2Proof/Certificates/Slice0/Obligations.lean ====
section
/-! DEFINITION. The statements for the provers, about every state unless a hypothesis says otherwise. In them `u` is
the part with all due work of its cycle start done, as the slot or request then meets it (R154, R167; log entry 3). -/

open Sys2Proof Sys2Proof.Machine

/-! ### The machine -/

/-- The queue is taken first in, first out (log entry 1): a step runs the command at the front on the part with the
queue's rest, and an empty queue idles. -/
def Obligations.StepRunsFrontCommand : Prop :=
  (∀ (c : Instr) (q : List Instr) (s : State), s.pending = c :: q → step s = exec c { s with pending := q }) ∧
  ∀ s : State, s.pending = [] → step s = .next s

/-- R117, R141, R154, R167 (log entry 3): the work of a cycle start that no command has taken is done before a slot or
request of the cycle is met. `settle` leaves nothing due, and a part with nothing due as it is; one piece that is due
is performed on the part without it; and of several, the first in the model's order is taken, and then the rest. A piece
is taken once, after what must come before it: the ageing, for the work that looks for stale inputs. -/
def Sys2Proof.Machine.SettleTakesAllDueWork : Prop :=
  (∀ s : State, s.due = [] → settle s = s) ∧ (∀ s : State, (settle s).due = []) ∧
  (∀ (w : CycleWork) (s : State), s.due = [w] → settle s = performWork w { s with due := [] }) ∧
  (∀ (pre : List CycleWork) (w : CycleWork) (post : List CycleWork) (s : State), cycleStartWork = pre ++ w :: post →
    w ∈ s.due → (∀ v ∈ pre, v ∉ s.due) → settle s = settle (takeWork w s)) ∧
  (∀ (w : CycleWork) (s : State), w ∈ s.due →
    takeWork w s = performWork w { prepareWork w s with due := (prepareWork w s).due.filter (· ≠ w) }) ∧
  ∀ (w : CycleWork) (s : State), w ∈ s.due → (∃ p, w = .wallStale p) ∨ (∃ c, w = .inputStale c) →
    (CycleWork.ageing ∈ s.due → prepareWork w s = ageRecords { s with due := s.due.filter (· ≠ CycleWork.ageing) }) ∧
    (CycleWork.ageing ∉ s.due → prepareWork w s = s)

/-! ### Resets and pins -/

/-- R6, R25, R44, R45, R88, R100, R130, R145, R163, R182, R187, R195: the power-on values, with the strap and the
panel level as they stand (R164, R199). The step index and next segment of a channel are the model's (log entry 27)
and are not named. That the pins hold RESET_IN released after POWER_ON, whatever they held, is the model's (log
entry 33). -/
def Obligations.PowerOnSetsEveryBlock : Prop :=
  ∀ (strap : BitVec 6) (panel : Bool) (s : State), ∃ t, exec (.powerOn strap panel) s = .next t ∧
    (∀ c, (t.chan c).state = .idle ∧ (t.chan c).pendingProgram = none ∧ (t.chan c).freeze = FreezeSet.empty ∧
      (t.chan c).fault = none ∧ (t.chan c).phase = .none ∧ (t.chan c).peer = false ∧ (t.chan c).record = none ∧
      (t.chan c).filed = none ∧ (t.chan c).program = none ∧
      (t.chan c).config = { pump := none, staleLimit := 10, echoLimit := 25, loadCeiling := 0, kp := 0, ki := 0
                            imax := 0, deadband := 0, overloadLimit := 40000, overloadPersistence := 1, pgain := 0
                            overMargin := 0, overPersistence := 1, tensionLimit := 10000, tensionPersistence := 1 } ∧
      (t.chan c).profile.acc = 0 ∧ (t.chan c).profile.ceiling = 0 ∧ (t.chan c).profile.phase = 0 ∧
      (t.chan c).profile.status = .inactive ∧ (t.chan c).profile.working = none ∧ (t.chan c).profile.reload = none ∧
      (t.chan c).profile.staged = none ∧ (t.chan c).profile.remaining = 0 ∧ (t.chan c).profile.segsLeft = 0 ∧
      (t.chan c).profile.limited = false ∧ (t.chan c).profile.pace = 256 ∧ (t.chan c).profile.stagedPace = none ∧
      (t.chan c).jack = { integral := 0, overloads := 0, lastValve := 0 } ∧
      (t.chan c).lastWinch = 0 ∧ (t.chan c).lastBrake = true) ∧
    (∀ p, (t.arb p).state = .free ∧ (t.arb p).manifold = none ∧ (t.arb p).queue = [] ∧ (t.arb p).switchCount = 0 ∧
      (t.arb p).tenureCount = 0 ∧ (t.arb p).switchHeld = 0 ∧ (t.arb p).tenureHeld = 0 ∧ (t.arb p).lastDemand = 0) ∧
    (∀ w, (t.wall w).config = { enable := false, baseline := 0, warn := 20000, stop := 20000, hysteresis := 0 } ∧
      (t.wall w).state = .normal ∧ (t.wall w).latch = false) ∧
    t.wallState = .normal ∧
    (∀ i, t.store.header i = none ∧ t.store.step i = none ∧ t.store.segment i = none ∧ t.store.markSet i = none) ∧
    (∀ k i, t.store.locks k i = 0) ∧
    (∀ i, Sparse.get none t.scales i = none) ∧ (∀ x, t.input x = none) ∧
    t.line = { alignment := .hunt, heldN := none, slotPos := 0, misses := 0, count := 0, lastLine := 0, active := []
               shadow := [], swapPending := false } ∧
    t.records = { queue := [], filing := [] } ∧
    t.reports = { active := [], shadow := [], listPos := 0, lastSent := [], swapPending := false } ∧
    t.mgmt.prepared = none ∧ t.mgmt.owed = none ∧ t.mgmt.resetPending = false ∧ t.mgmt.resetCause = .powerOn ∧
    t.mgmt.address = strap.toNat ∧
    t.mgmt.config = { warnScale := 128, wallStale := 10, tenure := 15000, switchTime := 500, flywheel := 4, mask := 0 } ∧
    t.mgmt.latched = { lineLost := false, channelFault := false, sampleStale := false, pumpTenure := false
                       mgmtGarbled := false, reset := true } ∧
    t.pins = { strap := strap, panel := panel, resetIn := false } ∧ t.pending = s.pending

/-- R26, R180, R181: RESET_IN sets a device reset going at once and holds the part in it; a further assertion changes
nothing. The device reset of a RESET_PART, once due, leaves the cause REQUEST, RESET latched, and the strap and panel
level as they then stand (R164, R199). -/
def Sys2Proof.Machine.DeviceResetByPinOrRequest : Prop :=
  (∀ s : State, s.pins.resetIn = false → ∃ t, exec .resetInAssert s = .next t ∧ DeviceResetLeaves s t ∧
    t.pins = { s.pins with resetIn := true } ∧ t.mgmt.address = s.mgmt.address ∧ t.pending = s.pending) ∧
  (∀ s : State, s.pins.resetIn = true → exec .resetInAssert s = .next s) ∧
  ∀ (strap : BitVec 6) (panel : Bool) (s : State), CycleWork.deviceReset ∈ s.due →
    ∃ t, exec (.deviceReset strap panel) s = .next t ∧ DeviceResetLeaves s t ∧ t.mgmt.resetCause = .request ∧
      t.mgmt.latched.reset = true ∧ t.mgmt.address = strap.toNat ∧
      t.pins = { strap := strap, panel := panel, resetIn := false } ∧ t.pending = s.pending

/-- R164, R181, R199: the release of RESET_IN ends the pin reset: the strap and the panel level are taken, the cause
is PIN and RESET is latched; nothing else changes. -/
def Sys2Proof.Machine.ResetReleaseTakesStrapAndCause : Prop :=
  ∀ (strap : BitVec 6) (panel : Bool) (s : State), s.pins.resetIn = true →
    exec (.resetInRelease strap panel) s = .next
      { s with
        mgmt := { s.mgmt with
          resetCause := .pin, address := strap.toNat, latched := { s.mgmt.latched with reset := true } }
        pins := { strap := strap, panel := panel, resetIn := false } }

/-- R26, R164, R180, R181, R199: the device reset by pin and by request, and the end of the pin reset. -/
def Obligations.DeviceResetSetsEveryBlock : Prop :=
  DeviceResetByPinOrRequest ∧ ResetReleaseTakesStrapAndCause

/-- R123: PANEL_HOLD_IN taken as asserted adds PANEL to every channel that is not IDLE, with the effects of R17; taken
as released it changes the level alone. Neither acts while the part is held in reset (log entry 20). -/
def Obligations.PanelHoldFreezesEveryChannel : Prop :=
  (∀ s : State, s.pins.resetIn = false → s.pins.panel = false →
    ∃ t, exec .panelHoldAssert s = .next t ∧ CauseReaches .panel (fun _ => True) s t ∧
      t.pins = { s.pins with panel := true } ∧ t.line = s.line ∧ t.store = s.store ∧ t.scales = s.scales ∧
      t.inputs = s.inputs ∧ t.walls = s.walls ∧ t.records = s.records ∧ t.reports = s.reports ∧ t.mgmt = s.mgmt ∧
      t.due = s.due ∧ t.sent = s.sent) ∧
  (∀ s : State, s.pins.resetIn = false →
    exec .panelHoldRelease s = .next { s with pins := { s.pins with panel := false } }) ∧
  ∀ s : State, s.pins.resetIn = true → exec .panelHoldAssert s = .next s ∧ exec .panelHoldRelease s = .next s

/-! ### Alignment -/

/-- R127, R152, R153, R169, R188: what the fall to HUNT from a worked state does: the notice LINE_LOST is latched, the
cause reaches every channel that is not IDLE, and both replies are dropped; the dropped OK of a pending RESET_PART
sets its device reset going (R180). -/
def Sys2Proof.Machine.FallsToHunt (s t : State) : Prop :=
  t.line.alignment = .hunt ∧ t.line.count = s.line.count ∧ t.line.heldN = s.line.heldN ∧
  t.line.lastLine = s.line.lastLine ∧ t.line.active = s.line.active ∧ t.line.shadow = s.line.shadow ∧
  t.mgmt.latched = { s.mgmt.latched with lineLost := true } ∧ t.mgmt.prepared = none ∧ t.mgmt.owed = none ∧
  t.mgmt.resetPending = s.mgmt.resetPending ∧ t.mgmt.config = s.mgmt.config ∧ t.mgmt.address = s.mgmt.address ∧
  CauseReaches .lineLost (fun _ => True) s t ∧
  t.store = s.store ∧ t.scales = s.scales ∧ t.inputs = s.inputs ∧ t.walls = s.walls ∧ t.records = s.records ∧
  t.reports = s.reports ∧ t.pins = s.pins ∧
  let okOfReset (r : Reply) : Prop := r.kind = 20#8 ∧ r.status = .ok
  let dropped : Prop := (∃ r, s.mgmt.prepared = some r ∧ okOfReset r) ∨ ∃ r, s.mgmt.owed = some r ∧ okOfReset r
  (s.mgmt.resetPending = true ∧ dropped → t.due = s.due ++ [CycleWork.deviceReset]) ∧
  (¬ (s.mgmt.resetPending = true ∧ dropped) → t.due = s.due)

/-- R117, R127, R153: loss of signal makes the alignment state HUNT from every state; from LOCKED or FLYWHEEL with the
effects of a fall to HUNT, from HUNT or CONFIRM (or held in reset) with no other effect. It meets the part with the
work of the last cycle start done (log entry 4), but not a device reset that is still due. (That the slot position is
kept is the model's, log entry 28.) -/
def Sys2Proof.Machine.LossOfSignalFallsToHunt : Prop :=
  ∀ s u : State, (CycleWork.deviceReset ∉ s.due ∧ u = settle s) ∨ ((∀ w ∈ s.due, w = .deviceReset) ∧ u = s) →
    (u.worked = true → ∃ t, exec .lossOfSignal s = .next t ∧ FallsToHunt u t) ∧
    (u.worked = false → exec .lossOfSignal s = .next { u with line := { u.line with alignment := .hunt } })

/-- R149: a slot examined in HUNT. A good sync (first byte B5 hex, check good, N from 32 to 240) enters CONFIRM with
its N and number held; any other slot leaves HUNT as it is. The slot passes unchanged (R147). (That the slot position does
not move in HUNT is the model's, log entry 28.) -/
def Sys2Proof.Machine.HuntExaminesEverySlot : Prop :=
  ∀ (x : Slot) (s : State), (settle s).pins.resetIn = false → (settle s).line.alignment = .hunt →
    (x.b0 = 0xB5#8 → slotGood x = true → 32 ≤ x.b1.toNat → x.b1.toNat ≤ 240 →
      exec (.huntSlot x) s = .next { settle s with
        sent := [x]
        line := { (settle s).line with
          alignment := .confirm, heldN := some x.b1.toNat, lastLine := 256 * x.b2.toNat + x.b3.toNat, slotPos := 0 } }) ∧
    (x.b0 ≠ 0xB5#8 ∨ slotGood x = false ∨ x.b1.toNat < 32 ∨ 240 < x.b1.toNat →
      exec (.huntSlot x) s = .next { settle s with sent := [x] })

/-- R149: a good sync slot. -/
def Sys2Proof.Machine.GoodSync (x : Slot) : Prop :=
  x.b0 = 0xB5#8 ∧ slotGood x = true ∧ 32 ≤ x.b1.toNat ∧ x.b1.toNat ≤ 240

/-- A good sync slot that states the N held: its number. -/
def Sys2Proof.Machine.SyncOf (s : State) (x : Slot) (number : Nat) : Prop :=
  x.b0 = 0xB5#8 ∧ slotGood x = true ∧ s.line.heldN = some x.b1.toNat ∧ 32 ≤ x.b1.toNat ∧ x.b1.toNat ≤ 240 ∧
  number = 256 * x.b2.toNat + x.b3.toNat

/-- R154, R155, R168: `t` is `s` with a cycle start raised and none of its work taken: the site cycle count one up modulo
2^32, position 0, the prepared reply owed, the wall stale limit in effect renewed (R115), what counts from the last
cycle start cleared, and every piece of the receivers' work due, each once. Nothing else of the part moves. -/
def Sys2Proof.Machine.CycleStartRaised (s t : State) : Prop :=
  t = { s with line := t.line, mgmt := t.mgmt, chans := t.chans, pumpA := t.pumpA, pumpB := t.pumpB, due := t.due } ∧
  t.line = { s.line with count := (s.line.count + 1) % 4294967296, slotPos := 0 } ∧
  t.mgmt = { s.mgmt with
    owed := s.mgmt.prepared, prepared := none, replyWritten := false, wallStaleInEffect := s.mgmt.config.wallStale } ∧
  (∀ c, t.chan c = { s.chan c with tookUp := false, becameSettling := false }) ∧
  (∀ p, t.arb p = { s.arb p with begun := false }) ∧
  (∀ w, w ∈ t.due ↔ w ≠ CycleWork.deviceReset) ∧ t.due.Nodup

/-- R154, R155, R161, R168, R193: what a cycle start leaves whatever order its work is taken in: the alignment and the
numbers the sync gave, the site cycle count one up modulo 2^32, the prepared reply owed, no reply prepared. -/
def Sys2Proof.Machine.CycleStarts (s t : State) (a : Machine.Alignment) (misses lastLine : Nat) : Prop :=
  t.line.alignment = a ∧ t.line.misses = misses ∧ t.line.lastLine = lastLine ∧
  t.line.count = (s.line.count + 1) % 4294967296 ∧ t.line.heldN = s.line.heldN ∧ t.line.slotPos = 0 ∧
  t.mgmt.owed = s.mgmt.prepared ∧ t.mgmt.prepared = none ∧ t.mgmt.config = s.mgmt.config ∧
  t.mgmt.resetPending = s.mgmt.resetPending ∧ t.mgmt.wallStaleInEffect = s.mgmt.config.wallStale ∧
  t.scales = s.scales ∧ t.pins = s.pins ∧ t.pending = s.pending ∧
  (∀ w, (t.wall w).config = (s.wall w).config) ∧ ∀ c, (t.chan c).config = (s.chan c).config

/-- R147, R150 to R154: the slot `x` at a sync position has left unchanged and a cycle start follows, with the alignment,
miss count and line cycle number given: it is raised, and its work is taken in the order given; with no order none is
taken yet. -/
def Sys2Proof.Machine.StartsCycle (i : Instr) (x : Slot) (order : List CycleWork) (a : Machine.Alignment)
    (misses lastLine : Nat) (s u : State) : Prop :=
  ∃ r t, CycleStartRaised
      { u with sent := [x], line := { u.line with alignment := a, misses := misses, lastLine := lastLine } } r ∧
    exec i s = .next t ∧ t = order.foldl (fun v w => takeWork w v) r ∧ t.sent = [x] ∧
    CycleStarts u t a misses lastLine

/-- R150: in CONFIRM the slot after position N − 1 that is a sync, states the held N and the next line cycle number
enters LOCKED with a cycle start, whatever order its work is taken in; anything else there returns to HUNT. (That the
slot position is kept on the return to HUNT is the model's, log entry 28: R150 does not name it.) -/
def Sys2Proof.Machine.ConfirmLocksOrHunts : Prop :=
  ∀ (x : Slot) (order : List CycleWork) (s : State),
    let u := settle s
    u.pins.resetIn = false → u.line.alignment = .confirm → AtSync u →
    (SyncOf u x ((u.line.lastLine + 1) % 65536) →
      StartsCycle (.confirmSyncPosition x order) x order .locked 0 ((u.line.lastLine + 1) % 65536) s u) ∧
    (¬ SyncOf u x ((u.line.lastLine + 1) % 65536) →
      exec (.confirmSyncPosition x order) s = .next
        { u with sent := [x], line := { u.line with alignment := .hunt } })

/-- R149, R150: alignment is found by two syncs in sequence. (The slot position in HUNT is the model's, log entry 28.) -/
def Obligations.HuntAndConfirmFindTheCycle : Prop :=
  HuntExaminesEverySlot ∧ ConfirmLocksOrHunts

/-- R151, R152: in LOCKED, after position N − 1, a good sync that states the held N is taken with a cycle start and its
number held; anything else there is a miss: the miss count is 1 and the state FLYWHEEL, with a cycle start while 1 is
below the flywheel limit, and the fall to HUNT without one where it is not. -/
def Sys2Proof.Machine.LockedTakesSyncOrFlywheels : Prop :=
  ∀ (x : Slot) (order : List CycleWork) (s : State),
    let u := settle s
    u.pins.resetIn = false → u.line.alignment = .locked → AtSync u →
    (∀ n, SyncOf u x n → StartsCycle (.lockedSyncPosition x order) x order .locked u.line.misses n s u) ∧
    ((∀ n, ¬ SyncOf u x n) → 1 < u.mgmt.config.flywheel →
      StartsCycle (.lockedSyncPosition x order) x order .flywheel 1 u.line.lastLine s u) ∧
    ((∀ n, ¬ SyncOf u x n) → u.mgmt.config.flywheel ≤ 1 →
      ∃ t, exec (.lockedSyncPosition x order) s = .next t ∧ t.sent = [x] ∧ t.line.misses = 1 ∧ FallsToHunt u t)

/-- R152: in FLYWHEEL, after position N − 1, a good sync that states the held N relocks with a cycle start and a miss
count of 0; a further miss below the flywheel limit still raises a cycle start; the miss that reaches the limit is
FLYWHEEL_END. -/
def Sys2Proof.Machine.FlywheelRelocksOrMisses : Prop :=
  ∀ (x : Slot) (order : List CycleWork) (s : State),
    let u := settle s
    u.pins.resetIn = false → u.line.alignment = .flywheel → AtSync u →
    (∀ n, SyncOf u x n → StartsCycle (.flywheelSyncPosition x order) x order .locked 0 n s u) ∧
    ((∀ n, ¬ SyncOf u x n) → u.line.misses + 1 < u.mgmt.config.flywheel →
      StartsCycle (.flywheelSyncPosition x order) x order .flywheel (u.line.misses + 1) u.line.lastLine s u)

/-- The rows that deliver a slot by itself, those that name a position naming `pos`. -/
def Sys2Proof.Machine.SlotRows (pos : Nat) (x : Slot) : List Instr :=
  [.huntSlot x, .confirmSyncPosition x [], .lockedSyncPosition x [], .flywheelSyncPosition x [], .sampleSlot pos x,
    .jackCommand pos x, .winchCommand pos x, .pumpCommand pos x, .reportSlot pos x]

/-- R147 to R152, R156, R158: positions are counted by the part, and a slot is handled by the alignment state and its
position, whatever row delivers it (log entries 2 and 5). Held in reset every slot passes. In CONFIRM the positions
before N count up and the slots pass. In a worked cycle the slots of a reply window with no reply owed and of PASS
positions pass and are counted, and those of positions 1 to 8 pass, are counted and handed to the Management Unit, which
takes the request of the eight with the last. A row that names another position than the one that comes next is not met:
no slot arrives. -/
def Sys2Proof.Machine.PositionsAreCounted : Prop :=
  (∀ (x : Slot) (i : Instr) (s : State),
    let u := settle s
    let pos := u.line.slotPos + 1
    let passed := { u with line := { u.line with slotPos := pos }, sent := [x] }
    i ∈ SlotRows pos x →
    exec i s = exec (.huntSlot x) s ∧
    (u.pins.resetIn = true → exec i s = .next { u with sent := [x] }) ∧
    (u.pins.resetIn = false → u.line.alignment = .confirm → BeforeSync u → exec i s = .next passed) ∧
    (u.worked = true → BeforeSync u → pos < 8 →
      exec i s = .next { passed with mgmt := { u.mgmt with window := u.mgmt.window ++ [x] } }) ∧
    (∀ w : Window, u.worked = true → BeforeSync u → pos = 8 → u.mgmt.window ++ [x] = w.slots →
      exec i s = .next (takeWindow w { passed with mgmt := { u.mgmt with window := [] } })) ∧
    (u.worked = true → BeforeSync u → 9 ≤ pos → pos ≤ 16 → u.mgmt.owed = none → exec i s = .next passed) ∧
    (SlotAt u pos .pass → exec i s = .next passed)) ∧
  ∀ (pos : Nat) (x : Slot) (i : Instr) (s : State),
    let u := settle s
    u.pins.resetIn = false → u.line.alignment ≠ .hunt → pos ≠ u.line.slotPos + 1 →
    i ∈ [Instr.sampleSlot pos x, .overload pos x, .rampSettled pos x, .refusal pos x, .overpressure pos x,
      .tensionLimit pos x, .jackCommand pos x, .winchCommand pos x, .pumpCommand pos x, .reportSlot pos x,
      .reportListSwap (.reportSlot pos x)] →
    exec i s = .next s

/-- R151, R152: alignment is kept through missed syncs up to the flywheel limit, and the positions are counted. -/
def Obligations.SyncPositionsKeepTheCycle : Prop :=
  LockedTakesSyncOrFlywheels ∧ FlywheelRelocksOrMisses ∧ PositionsAreCounted

/-- R152: the miss that brings the count to the flywheel limit ends the flywheel: HUNT with no cycle start (the site
cycle count stays), LINE_LOST latched and added, the replies dropped. -/
def Sys2Proof.Machine.FlywheelEndFallsToHunt : Prop :=
  ∀ (x : Slot) (s : State), (settle s).worked = true → AtSync (settle s) → (∀ n, ¬ SyncOf (settle s) x n) →
    ((settle s).line.alignment = .locked → (settle s).mgmt.config.flywheel ≤ 1) →
    ((settle s).line.alignment = .flywheel → (settle s).mgmt.config.flywheel ≤ (settle s).line.misses + 1) →
    ∃ t, exec (.flywheelEnd x) s = .next t ∧ t.sent = [x] ∧ FallsToHunt (settle s) t

/-- R152, R153: the two ways the line is lost. -/
def Obligations.LossOfLineFallsToHunt : Prop :=
  LossOfSignalFallsToHunt ∧ FlywheelEndFallsToHunt

/-! ### Setpoint profiles -/

/-- R31, R32: channel `c` takes a profile step at this cycle start: it is RUNNING with an ACTIVE profile, it did not
take up its step at this cycle start, and the phase with the effective pace `e` reaches 256. The pace is the staged
one where there is one; it is scaled by the warn scale while the wall state is WARN. -/
def Sys2Proof.Machine.TakesProfileStep (s : State) (c : Chan) (e : Nat) : Prop :=
  (s.chan c).state = .running ∧ (s.chan c).profile.status = .active ∧ (s.chan c).tookUp = false ∧
  e = ((s.chan c).profile.stagedPace.getD (s.chan c).profile.pace
        * (if s.wallState = .warn then s.mgmt.config.warnScale else 256)) / 256 ∧
  256 ≤ (s.chan c).profile.phase + e

/-- R35: acc after the slope of the working segment `g` has been added, clamped to 0 and ceiling × 256. -/
def Sys2Proof.Machine.SlopeAdded (p : Profile) (g : Segment) : Int := max 0 (min (p.ceiling * 256) (p.acc + g.slope))

/-- R32, R33, R35: a profile step that does not end its segment. The phase gives up 256. With a staged segment, that
segment becomes the working segment in place of the step, ABSOLUTE setting acc and CONTINUE keeping it; without one,
the slope is added to acc under the clamp, a clamp that changes it setting LIMITED, and the steps remaining go down by
one. Nothing else in the part changes. -/
def Sys2Proof.Machine.ProfileStepAddsSlope : Prop :=
  ∀ (c : Chan) (e : Nat) (s : State), CycleWork.profile c ∈ s.due → TakesProfileStep s c e →
    let p := (s.chan c).profile
    let after := { s with due := s.due.filter (· ≠ CycleWork.profile c) }
    let paced := { p with pace := p.stagedPace.getD p.pace, stagedPace := none, phase := p.phase + e - 256 }
    (∀ g, p.staged = some g → g.mode = .cont →
      exec (.profileStep c) s = .next (after.setChan c { s.chan c with
        profile := { paced with staged := none, working := some g, remaining := g.duration } })) ∧
    (∀ g, p.staged = some g → g.mode = .absolute →
      exec (.profileStep c) s = .next (after.setChan c { s.chan c with
        profile := { paced with
          staged := none, working := some g, remaining := g.duration, acc := min (g.start * 256) (p.ceiling * 256)
          limited := p.limited || decide (p.ceiling < g.start) } })) ∧
    (∀ g, p.staged = none → p.working = some g → 2 ≤ p.remaining →
      exec (.profileStep c) s = .next (after.setChan c { s.chan c with
        profile := { paced with
          remaining := p.remaining - 1, acc := (SlopeAdded p g).toNat
          limited := p.limited || decide (SlopeAdded p g ≠ p.acc + g.slope) } }))

/-- R31, R32: at every cycle start a staged pace becomes the pace, in every channel state. Where the generator advances
(RUNNING, ACTIVE, and not the cycle start of the take-up) the phase goes up by the effective pace while the sum is below
256; elsewhere it stands. Nothing else in the part changes. -/
def Sys2Proof.Machine.PaceIsTakenAndPhaseAdvances : Prop :=
  ∀ (c : Chan) (s : State), s.due = [CycleWork.profile c] →
    let p := (s.chan c).profile
    let pace := p.stagedPace.getD p.pace
    let e := (pace * (if s.wallState = .warn then s.mgmt.config.warnScale else 256)) / 256
    let advances := (s.chan c).state = .running ∧ p.status = .active ∧ (s.chan c).tookUp = false
    let left (phase : Nat) : State := ({ s with due := [] }).setChan c { s.chan c with
      profile := { p with pace := pace, stagedPace := none, phase := phase } }
    (advances → p.phase + e < 256 → settle s = left (p.phase + e)) ∧ (¬ advances → settle s = left p.phase)

/-- R31 to R33, R35: what a cycle start that ends no segment does to the generator. -/
def Obligations.ProfileStepMovesSetpoint : Prop :=
  ProfileStepAddsSlope ∧ PaceIsTakenAndPhaseAdvances

/-- R33, R34, R36, R54: the profile step that ends the working segment. The reload becomes the working segment and is
refilled from the store while segments remain; with no reload the profile is FINISHED, and a RAMP becomes SETTLING with
its counts at 0. (That next segment becomes 512 after the store's last entry is the model's, log entry 36.) -/
def Obligations.SegmentEndReloadsOrFinishes : Prop :=
  ∀ (c : Chan) (e : Nat) (g : Segment) (s : State), CycleWork.profile c ∈ s.due → TakesProfileStep s c e →
    (s.chan c).profile.staged = none → (s.chan c).profile.working = some g → (s.chan c).profile.remaining ≤ 1 →
    let p := (s.chan c).profile
    ∃ t, exec (.segmentEnd c) s = .next t ∧
      (t.chan c).profile.phase = p.phase + e - 256 ∧ (t.chan c).profile.ceiling = p.ceiling ∧
      (∀ r, p.reload = some r →
        (t.chan c).profile.working = some r ∧ (t.chan c).profile.remaining = r.duration ∧
        (t.chan c).profile.status = .active ∧ (t.chan c).work = (s.chan c).work ∧
        (r.mode = .absolute → (t.chan c).profile.acc = min (r.start * 256) (p.ceiling * 256)) ∧
        (r.mode = .cont → (t.chan c).profile.acc = (SlopeAdded p g).toNat) ∧
        (0 < p.segsLeft → (t.chan c).profile.reload = s.store.segment p.next ∧ (t.chan c).profile.next = p.next + 1 ∧
          (t.chan c).profile.segsLeft = p.segsLeft - 1) ∧
        (p.segsLeft = 0 → (t.chan c).profile.reload = none ∧ (t.chan c).profile.next = p.next ∧
          (t.chan c).profile.segsLeft = 0)) ∧
      (p.reload = none →
        (t.chan c).profile.status = .finished ∧ (t.chan c).profile.working = none ∧
        (t.chan c).profile.acc = (SlopeAdded p g).toNat ∧
        (∀ x, (s.chan c).work = .ramp x → (t.chan c).work = .ramp { phase := .settling, settle := 0, unsettled := 0 }) ∧
        ((∀ x, (s.chan c).work ≠ .ramp x) → (t.chan c).work = (s.chan c).work)) ∧
      t = ({ s with due := s.due.filter (· ≠ CycleWork.profile c) }).setChan c { s.chan c with
            profile := (t.chan c).profile, work := (t.chan c).work, becameSettling := (t.chan c).becameSettling }

/-! ### Steps -/

/-- R11: a RUNNING channel in phase TAKE_UP whose work at this cycle start is due, the work that must come before it
having been done: `u` is the part as the channel then meets it. -/
def Sys2Proof.Machine.MeetsTakeUp (c : Chan) (s u : State) : Prop :=
  CycleWork.sequencer c ∈ s.due ∧ u = prepareWork (.sequencer c) s ∧
  (u.chan c).state = .running ∧ (u.chan c).phase = .takeUp

/-- R11, R53, R58, R64, R69, R90, R102, R105: the working fields a step of each kind begins with. An INJECT's standing
is the Arbiter's answer to its claim. -/
def Sys2Proof.Machine.EntryFields (u : State) (c : Chan) (b : StepBody) (w : StepWork) : Prop :=
  match b with
  | .ramp _ => w = .ramp { phase := .profiling, settle := 0, unsettled := 0 }
  | .hold p => ∃ m, u.store.markSet p.markSet = some m ∧
      w = .hold { elapsed := 0, marks := m.map fun _ => none, drift := false, interrupted := 0 }
  | .lockoff _ => w = .lockoff { phase := .seating, settle := 0, load := none }
  | .inject _ => ∃ x, w = .inject { standing := x, volume := 0, refusals := 0, overs := 0, endReason := none }
  | .payout _ => w = .payout { startLength := u.chanValue c .winchPayout, progress := 0, tension := 0, hold := false }
  | .check p =>
      w = .check { captured :=
        match p.quantity with
        | .peakLoad => (u.chan c).record.map fun r => (r.peakLoad : Int)
        | .groutVolume => ((u.chan c).record.bind Record.groutVolume).map fun n => (n : Int)
        | .payoutLength => ((u.chan c).record.bind Record.payoutLength).map fun n => (n : Int)
        | .lastCreep => (u.chan c).lastCreep
        | _ => none }
  | .await _ => w = .await { elapsed := 0, latch := false }
  | .signal _ => w = .signal
  | .finish => w = .finish

/-- R11, R12, R29: the tests of a take-up and what follows. An index beyond the header's step count, an EMPTY step, a
segment run outside the window or with an EMPTY segment, and a HOLD's EMPTY or short mark set fault the channel with
BAD_STEP; a missing binding with BAD_BINDING; the phase is then NONE with the index kept. Otherwise the step is ACTIVE
with the working fields of its kind, a LOCKOFF sets the wedge flag, and an unavailable required input adds SAMPLE_STALE,
which leaves the channel FROZEN. -/
def Obligations.TakeUpEntersOrFaults : Prop :=
  ∀ (c : Chan) (h : Header) (s u : State), MeetsTakeUp c s u → u.programHeader c = some h →
    let fails (cause : FaultCause) : Prop := ∃ t v, exec (.takeUpStep c) s = .next t ∧ FaultsWith cause c u v ∧
      t = v.setChan c { v.chan c with phase := .none } ∧ (t.chan c).index = (u.chan c).index
    (h.stepCount ≤ (u.chan c).index → fails .badStep) ∧
    ((u.chan c).index < h.stepCount → u.store.step (h.stepFirst + (u.chan c).index) = none → fails .badStep) ∧
    ∀ st, (u.chan c).index < h.stepCount → u.store.step (h.stepFirst + (u.chan c).index) = some st →
      (kindTest u.store h st.body = false → fails .badStep) ∧
      (kindTest u.store h st.body = true → u.bindingsPresent c st.body = false → fails .badBinding) ∧
      (kindTest u.store h st.body = true → u.bindingsPresent c st.body = true →
        ∃ t, exec (.takeUpStep c) s = .next t ∧ (t.chan c).phase = .active ∧ (t.chan c).index = (u.chan c).index ∧
          EntryFields u c st.body (t.chan c).work ∧ (t.chan c).record = (u.chan c).record ∧
          (t.chan c).program = (u.chan c).program ∧ (t.chan c).jack = (u.chan c).jack ∧
          (t.chan c).config = (u.chan c).config ∧
          ((∃ p, st.body = .lockoff p) → (t.chan c).wedge = true) ∧
          ((∀ p, st.body ≠ .lockoff p) → (t.chan c).wedge = (u.chan c).wedge) ∧
          (u.requiredAvailable c st.body = true → (t.chan c).state = .running ∧ (t.chan c).freeze = (u.chan c).freeze) ∧
          (u.requiredAvailable c st.body = false → (u.chan c).freeze.sampleStale = false →
            (t.chan c).state = .frozen ∧ (t.chan c).freeze = { (u.chan c).freeze with sampleStale := true } ∧
            t.mgmt.latched.sampleStale = true) ∧
          OthersKept c u t ∧ t.line = u.line ∧ t.store = u.store ∧ t.scales = u.scales ∧ t.inputs = u.inputs ∧
          t.walls = u.walls ∧ t.records = u.records ∧ t.reports = u.reports ∧ t.pins = u.pins)

/-- R29, R36, R37: what a take-up does to the generator. A RAMP loads its run under the load ceiling and a PAYOUT under
1000; a HOLD and a LOCKOFF engage it without a segment, the setpoint held under the load ceiling and the status
FINISHED; every other kind leaves it as it stands. (That steps remaining and next segment are kept at the entry of a HOLD
or LOCKOFF, and next segment when a run of one is loaded, is the model's, log entries 35 and 27; so is a next segment of
512, log entry 36.) -/
def Obligations.TakeUpEngagesGenerator : Prop :=
  ∀ (c : Chan) (h : Header) (st : Step) (s u : State), MeetsTakeUp c s u → u.programHeader c = some h →
    (u.chan c).index < h.stepCount → u.store.step (h.stepFirst + (u.chan c).index) = some st →
    kindTest u.store h st.body = true → u.bindingsPresent c st.body = true →
    let p := (u.chan c).profile
    let run (q : Profile) (ceiling first count : Nat) : Prop :=
      q.ceiling = ceiling ∧ q.status = .active ∧ q.phase = 0 ∧ q.staged = none ∧ q.pace = p.pace ∧
      q.stagedPace = p.stagedPace ∧
      (∀ g, u.store.segment first = some g → q.working = some g ∧ q.remaining = g.duration ∧
        (g.mode = .absolute → q.acc = min (g.start * 256) (ceiling * 256) ∧ q.limited = decide (ceiling < g.start)) ∧
        (g.mode = .cont → q.acc = min p.acc (ceiling * 256) ∧ q.limited = decide (ceiling * 256 < p.acc))) ∧
      (2 ≤ count → q.reload = u.store.segment (first + 1) ∧ q.next = first + 2 ∧ q.segsLeft = count - 2) ∧
      (count < 2 → q.reload = none ∧ q.next = p.next ∧ q.segsLeft = 0)
    let held (q : Profile) : Prop :=
      q = { p with
        ceiling := (u.chan c).config.loadCeiling, acc := min p.acc ((u.chan c).config.loadCeiling * 256)
        limited := p.limited || decide ((u.chan c).config.loadCeiling * 256 < p.acc), working := none, reload := none
        staged := none, segsLeft := 0, status := .finished }
    ∃ t, exec (.takeUpStep c) s = .next t ∧
      match st.body with
      | .ramp r => run (t.chan c).profile (u.chan c).config.loadCeiling (h.segFirst + r.segOffset) r.segCount
      | .payout r => run (t.chan c).profile 1000 (h.segFirst + r.segOffset) r.segCount
      | .hold _ => held (t.chan c).profile
      | .lockoff _ => held (t.chan c).profile
      | _ => (t.chan c).profile = p

/-- R65, R66: a SEATING LOCKOFF whose settle count equals its settle cycles releases: the lock-off load, taken now if
it was absent, is held and in the record; the phase is RELEASING; and the generator is loaded with the release segment,
CONTINUE from the held acc at minus the release slope for 65535 steps. (The segment's start of 0 is the model's choice, log
entry 38; so is that next segment is kept at the load of the release segment, which R37 does not name, log entry 27.) -/
def Sys2Proof.Machine.SeatedLockoffReleases : Prop :=
  ∀ (c : Chan) (st : Step) (p : LockoffStep) (w : LockoffWork) (load : Nat) (s u : State),
    CycleWork.sequencer c ∈ s.due → u = prepareWork (.sequencer c) s →
    (u.chan c).state = .running → (u.chan c).phase = .active → (u.chan c).tookUp = false →
    u.currentStep c = some st → st.body = .lockoff p → (u.chan c).work = .lockoff w → w.phase = .seating →
    w.settle = p.settleCycles → w.load.or (u.chanValue c .jackLoad) = some load →
    exec (.lockoffRelease c) s = .next (
      ({ u with due := u.due.filter (· ≠ CycleWork.sequencer c) }).setChan c { u.chan c with
      work := .lockoff { phase := .releasing, settle := w.settle, load := some load }
      record := if w.load = none then (u.chan c).record.map (fun r : Record => { r with lockoffLoad := some load })
        else (u.chan c).record
      profile := { (u.chan c).profile with
        working := some { mode := .cont, start := 0, slope := -(p.releaseSlope : Int), duration := 65535 }
        reload := none, remaining := 65535, phase := 0, limited := false, status := .active } })

/-- R15: a step failure acted on through the step's on-fail course; `rec` is the record the failure meets. -/
def Sys2Proof.Machine.FailsBy (st : Step) (cause : FaultCause) (c : Chan) (rec : Record) (s t : State) : Prop :=
  (st.onFail = .halt → FaultsWith cause c s t) ∧
  (st.onFail = .divert → StepLeft st.divert c s t ∧ (t.chan c).record = some rec) ∧
  (st.onFail = .cont → StepLeft (min 256 ((s.chan c).index + 1)) c s t ∧
    (t.chan c).record = some { rec with failedChecks := min 255 (rec.failedChecks + 1) })

/-- A RUNNING channel whose ACTIVE step `st` was not taken up at this cycle start, its work alone being due. -/
def Sys2Proof.Machine.WorksStep (c : Chan) (st : Step) (s : State) : Prop :=
  s.due = [CycleWork.sequencer c] ∧ (s.chan c).state = .running ∧ (s.chan c).phase = .active ∧
  (s.chan c).tookUp = false ∧ s.currentStep c = some st

/-- R65: a SEATING LOCKOFF below its settle cycles counts the cycle start. The lock-off load, while it is absent, is taken
from an available JACK_LOAD and goes into the record; without one the step fails with NO_DATA. -/
def Sys2Proof.Machine.SeatingLockoffTakesLoad : Prop :=
  ∀ (c : Chan) (st : Step) (p : LockoffStep) (w : LockoffWork) (s : State), WorksStep c st s →
    st.body = .lockoff p → (s.chan c).work = .lockoff w → w.phase = .seating →
    let counted (load : Nat) (record : Option Record) : State := ({ s with due := [] }).setChan c { s.chan c with
      work := .lockoff { w with load := some load, settle := w.settle + 1 }, record := record }
    (∀ load, w.load = some load → w.settle ≠ p.settleCycles → settle s = counted load (s.chan c).record) ∧
    (∀ load, w.load = none → s.chanValue c .jackLoad = some load → w.settle ≠ p.settleCycles → settle s =
      counted load ((s.chan c).record.map fun r : Record => { r with lockoffLoad := some load })) ∧
    (∀ rec, w.load = none → s.chanValue c .jackLoad = none → (s.chan c).record = some rec →
      FailsBy st .noData c rec s (settle s))

/-- R65, R66: the cycle starts of a SEATING LOCKOFF. -/
def Obligations.LockoffReleasesJack : Prop :=
  SeatedLockoffReleases ∧ SeatingLockoffTakesLoad

/-- A RUNNING channel in an ACTIVE HOLD that was not taken up at this cycle start, its work being due. -/
def Sys2Proof.Machine.Holding (c : Chan) (st : Step) (p : HoldStep) (w : HoldWork) (times : MarkSet) (s : State) : Prop :=
  CycleWork.sequencer c ∈ s.due ∧ (s.chan c).state = .running ∧ (s.chan c).phase = .active ∧ (s.chan c).tookUp = false ∧
  s.currentStep c = some st ∧ st.body = .hold p ∧ (s.chan c).work = .hold w ∧ s.store.markSet p.markSet = some times

/-- R58, R59: a mark at a mark time of the set that equals the elapsed count and is within reach: its entry takes the
JACK_STROKE value when that input is available and stays as it is otherwise; the other entries stay, and the elapsed
count goes up by one. Nothing else in the part changes. -/
def Sys2Proof.Machine.HoldRecordsMark : Prop :=
  ∀ (c : Chan) (st : Step) (p : HoldStep) (w : HoldWork) (times : MarkSet) (s : State),
    Holding c st p w times s → w.elapsed ∈ times → w.elapsed < p.duration →
    ∃ marks, exec (.holdMark c) s = .next (({ s with due := s.due.filter (· ≠ CycleWork.sequencer c) }).setWork c
        (.hold { w with marks := marks, elapsed := w.elapsed + 1 })) ∧
      marks.length = min times.length w.marks.length ∧
      ∀ (i t : Nat) (m : Option Nat), times[i]? = some t → w.marks[i]? = some m →
        marks[i]? = some (if t = w.elapsed then (s.chanValue c .jackStroke).or m else m)

/-- R59: the cycle start of a HOLD that is neither at a mark time within reach nor complete: the elapsed count alone goes up
by one. The mark list has one entry for each time of the set (R58). -/
def Sys2Proof.Machine.HoldCountsElapsed : Prop :=
  ∀ (c : Chan) (st : Step) (p : HoldStep) (w : HoldWork) (times : MarkSet) (s : State), WorksStep c st s →
    st.body = .hold p → (s.chan c).work = .hold w → s.store.markSet p.markSet = some times →
    w.marks.length = times.length → ¬ (w.elapsed ∈ times ∧ w.elapsed ≤ p.duration) → w.elapsed ≠ p.duration →
    settle s = ({ s with due := [] }).setWork c (.hold { w with elapsed := w.elapsed + 1 })

/-- R62: ks of a hold from the strokes at its creep pair, absent when either is. -/
def Sys2Proof.Machine.CreepIs (p : HoldStep) (marks : List (Option Nat)) (ks : Option Int) : Prop :=
  match marks.getD p.markA none, marks.getD p.markB none with
  | some a, some b => ks = some ((((b : Int) - a) * p.kFactor + 512) / 1024)
  | _, _ => ks = none

/-- R59, R62, R63, R101: a hold whose elapsed count equals its duration is complete. Its last mark is recorded, ks and
the verdict are formed (FAIL for a drift or a creep above the limit, INCOMPLETE without ks, PASS otherwise), the result
is appended (three are kept, all are counted) and becomes the last-creep value. A PASS or INCOMPLETE names index + 1; a
drift under CONTINUE counts a failed check and names index + 1; a creep FAIL takes the step's on-fail course. -/
def Sys2Proof.Machine.HoldCompletesWithVerdict : Prop :=
  ∀ (c : Chan) (st : Step) (p : HoldStep) (w : HoldWork) (times : MarkSet) (rec : Record) (ks : Option Int) (s : State),
    Holding c st p w times s → w.elapsed = p.duration → (s.chan c).record = some rec →
    CreepIs p (recordMarks times p.duration w.elapsed (s.chanValue c .jackStroke) w.marks) ks →
    let marks := recordMarks times p.duration w.elapsed (s.chanValue c .jackStroke) w.marks
    let fails := w.drift = false ∧ ∃ x, ks = some x ∧ x > p.creepLimit
    let verdict : Verdict := if w.drift then .fail else match ks with
      | none => .incomplete
      | some x => if x > p.creepLimit then .fail else .pass
    let result : HoldResult := { verdict, ks, marks, drift := w.drift, interrupted := w.interrupted }
    let appended : Record := { rec with
      holdCount := min 255 (rec.holdCount + 1)
      holds := if rec.holds.length < 3 then rec.holds ++ [result] else rec.holds }
    let counted : Record := { appended with failedChecks := min 255 (rec.failedChecks + 1) }
    ∃ t, exec (.holdComplete c) s = .next t ∧ (t.chan c).lastCreep = ks ∧
      (w.drift = false → ¬ fails → StepLeft (min 256 ((s.chan c).index + 1)) c s t ∧ (t.chan c).record = some appended) ∧
      (w.drift = true → StepLeft (min 256 ((s.chan c).index + 1)) c s t ∧ (t.chan c).record = some counted) ∧
      (fails → st.onFail = .cont →
        StepLeft (min 256 ((s.chan c).index + 1)) c s t ∧ (t.chan c).record = some counted) ∧
      (fails → st.onFail = .divert → StepLeft st.divert c s t ∧ (t.chan c).record = some appended) ∧
      (fails → st.onFail = .halt → (t.chan c).state = .faulted ∧ (t.chan c).fault = some .creepExceeded ∧
        (t.chan c).phase = .active ∧ (t.chan c).index = (s.chan c).index ∧
        (t.chan c).record = some { appended with fault := some .creepExceeded } ∧ t.mgmt.latched.channelFault = true)

/-- R58, R59, R62, R63: a hold counts its cycle starts, records its marks and is completed with its verdict. -/
def Obligations.HoldMarksAndCompletes : Prop :=
  HoldRecordsMark ∧ HoldCountsElapsed ∧ HoldCompletesWithVerdict

/-- R56: at a cycle start of a RUNNING channel in a RAMP in phase SETTLING, not the one at which the phase became
SETTLING, the unsettled count goes up by one; the count that reaches the settle limit fails the step with
RAMP_UNSETTLED. -/
def Sys2Proof.Machine.RampFailsUnsettled : Prop :=
  ∀ (c : Chan) (st : Step) (p : RampStep) (w : RampWork) (rec : Record) (s : State),
    CycleWork.sequencer c ∈ s.due → (s.chan c).state = .running → (s.chan c).phase = .active →
    (s.chan c).tookUp = false → (s.chan c).becameSettling = false → s.currentStep c = some st → st.body = .ramp p →
    (s.chan c).work = .ramp w → w.phase = .settling → p.settleLimit ≤ w.unsettled + 1 → (s.chan c).record = some rec →
    ∃ t, exec (.rampUnsettled c) s = .next t ∧
      FailsBy st .rampUnsettled c rec (s.setWork c (.ramp { w with unsettled := w.unsettled + 1 })) t

/-- R56: the unsettled count goes up by one at each cycle start that counts, and the cycle start at which the phase
became SETTLING does not; below the settle limit nothing else happens. -/
def Sys2Proof.Machine.SettlingRampCounts : Prop :=
  ∀ (c : Chan) (st : Step) (p : RampStep) (w : RampWork) (s : State), WorksStep c st s →
    st.body = .ramp p → (s.chan c).work = .ramp w →
    (w.phase = .settling → (s.chan c).becameSettling = false → w.unsettled + 1 < p.settleLimit →
      settle s = ({ s with due := [] }).setWork c (.ramp { w with unsettled := w.unsettled + 1 })) ∧
    (w.phase = .profiling ∨ (s.chan c).becameSettling = true → settle s = { s with due := [] })

/-- R91: a PAYOUT without a start length takes it from an available WINCH_PAYOUT at a cycle start, or fails with NO_DATA;
with one it does nothing. -/
def Sys2Proof.Machine.PayoutTakesStartLength : Prop :=
  ∀ (c : Chan) (st : Step) (p : PayoutStep) (w : PayoutWork) (s : State), WorksStep c st s →
    st.body = .payout p → (s.chan c).work = .payout w →
    (w.startLength ≠ none → settle s = { s with due := [] }) ∧
    (∀ v, w.startLength = none → s.chanValue c .winchPayout = some v →
      settle s = ({ s with due := [] }).setWork c (.payout { w with startLength := some v })) ∧
    (∀ rec, w.startLength = none → s.chanValue c .winchPayout = none → (s.chan c).record = some rec →
      FailsBy st .noData c rec s (settle s))

/-- R105 to R107: the AWAIT's timer runs out: TIMER is the first source in order, so it decides. The step completes and
names its divert target when TIMER is in the divert set and index + 1 otherwise; the peer flag and the record stay. -/
def Sys2Proof.Machine.AwaitTimerReleases : Prop :=
  ∀ (c : Chan) (st : Step) (p : AwaitStep) (w : AwaitWork) (s : State),
    CycleWork.sequencer c ∈ s.due → (s.chan c).state = .running → (s.chan c).phase = .active →
    (s.chan c).tookUp = false → s.currentStep c = some st → st.body = .await p → (s.chan c).work = .await w →
    p.releaseSet.timer = true → 0 < p.timer → min 16777215 (w.elapsed + 1) = p.timer →
    ∃ t, exec (.awaitTimer c) s = .next t ∧ (t.chan c).record = (s.chan c).record ∧
      (p.divertSet.timer = true → StepLeft st.divert c s t) ∧
      (p.divertSet.timer = false → StepLeft (min 256 ((s.chan c).index + 1)) c s t)

/-- R105 to R107: the sources of an AWAIT after its timer, in their order RELEASE, PEER and WALL_CLEAR. The first that is
present decides: the step completes and names its divert target when that source is in the divert set, and index + 1
otherwise. PEER takes the peer flag with it; the other sources leave it. With none present the elapsed count alone
moves, and only while the timer runs. -/
def Sys2Proof.Machine.AwaitSourcesRelease : Prop :=
  ∀ (c : Chan) (st : Step) (p : AwaitStep) (w : AwaitWork) (s : State), WorksStep c st s →
    st.body = .await p → (s.chan c).work = .await w →
    let runs := p.releaseSet.timer = true ∧ 0 < p.timer
    let timer := runs ∧ min 16777215 (w.elapsed + 1) = p.timer
    let release := p.releaseSet.release = true ∧ w.latch = true
    let peer := p.releaseSet.peer = true ∧ (s.chan c).peer = true
    let clear := p.releaseSet.wallClear = true ∧ s.wallState = .normal
    let goes (diverts : Bool) (v : State) : Prop :=
      StepLeft (if diverts then st.divert else min 256 ((s.chan c).index + 1)) c v (settle s) ∧
      ((settle s).chan c).record = (s.chan c).record
    (¬ timer → release → goes p.divertSet.release s) ∧
    (¬ timer → ¬ release → peer → goes p.divertSet.peer (s.setChan c { s.chan c with peer := false })) ∧
    (¬ timer → ¬ release → ¬ peer → clear → goes p.divertSet.wallClear s) ∧
    (¬ timer → ¬ release → ¬ peer → ¬ clear →
      (runs → settle s =
        ({ s with due := [] }).setWork c (.await { w with elapsed := min 16777215 (w.elapsed + 1) })) ∧
      (¬ runs → settle s = { s with due := [] }))

/-- R56, R91, R105 to R107: what a cycle start counts, takes or ends in a RAMP, a PAYOUT and an AWAIT. -/
def Obligations.RampFailsAndAwaitReleases : Prop :=
  RampFailsUnsettled ∧ SettlingRampCounts ∧ PayoutTakesStartLength ∧ AwaitTimerReleases ∧ AwaitSourcesRelease

/-- R4, R5, R19: the store once the lock set of the program in progress on a channel has been counted down. -/
def Sys2Proof.Machine.StoreUnlocked (c : Chan) (s : State) : ProgramStore :=
  match (s.chan c).program with
  | some i => (s.unlockProgram i).store
  | none => s.store

/-- R9, R19: the pending program of header `j` has started on channel `c` in place of a program that ended: index 0 in
phase TAKE_UP, a record opened with the header's tag and the site cycle count, the generator cleared with its pace kept,
the integral and overload count 0, and RUNNING, or FROZEN by a wall at STOP and an asserted panel. -/
def Sys2Proof.Machine.PendingStarts (j tag : Nat) (c : Chan) (s t : State) : Prop :=
  let ch := t.chan c
  ch.freeze = { FreezeSet.empty with wallStop := decide (s.wallState = .stop), panel := s.pins.panel } ∧
  ch.state = (if ch.freeze.isEmpty = true then .running else .frozen) ∧ ch.program = some j ∧ ch.index = 0 ∧
  ch.phase = .takeUp ∧ ch.work = .none ∧ ch.fault = none ∧ ch.filed = none ∧ ch.lastCreep = none ∧
  ch.pendingProgram = none ∧
  ch.record = some { channel := c, tag := tag, outcome := none, fault := none, startCount := s.line.count
                     endCount := none, peakLoad := 0, lockoffLoad := none, residualLoad := none, groutVolume := none
                     groutEnd := none, payoutLength := none, holdCount := 0, holds := [], failedChecks := 0
                     overrides := 0, lastIndex := 0 } ∧
  ch.profile.acc = 0 ∧ ch.profile.ceiling = 0 ∧ ch.profile.phase = 0 ∧ ch.profile.status = .inactive ∧
  ch.profile.working = none ∧ ch.profile.reload = none ∧ ch.profile.staged = none ∧ ch.profile.segsLeft = 0 ∧
  ch.profile.limited = false ∧ ch.profile.pace = (s.chan c).profile.pace ∧
  ch.profile.stagedPace = (s.chan c).profile.stagedPace ∧ ch.jack.integral = 0 ∧ ch.jack.overloads = 0

/-- R5, R19, R183, R185: a program ends on channel `c` with `outcome`. The record `r` is closed with the outcome, the
site cycle count and the step index, and the program's lock set is counted down. With room in the queue the record is
pushed, and the channel starts its pending program or is IDLE; without, the channel is FILING with the record held, at
the tail of the filing list, its pending program kept. -/
def Sys2Proof.Machine.ProgramEnds (outcome : RunOutcome) (r : Record) (c : Chan) (s t : State) : Prop :=
  r.outcome = some outcome ∧ r.endCount = some s.line.count ∧ r.lastIndex = (s.chan c).index ∧
  (t.chan c).config = (s.chan c).config ∧ (t.chan c).peer = (s.chan c).peer ∧ t.store = StoreUnlocked c s ∧
  OthersKept c s t ∧ t.line = s.line ∧ t.walls = s.walls ∧ t.reports = s.reports ∧ t.mgmt = s.mgmt ∧ t.pins = s.pins ∧
  t.inputs = s.inputs ∧
  let ended := (t.chan c).program = none ∧ (t.chan c).phase = .none ∧ (t.chan c).work = .none ∧
    (t.chan c).record = none ∧ (t.chan c).lastCreep = none ∧ (t.chan c).freeze.isEmpty = true ∧
    (t.chan c).pendingProgram = (s.chan c).pendingProgram
  (s.records.queue.length < 16 → t.records = { s.records with queue := s.records.queue ++ [r] } ∧
    ((s.chan c).pendingProgram = none → ended ∧ (t.chan c).state = .idle) ∧
    ∀ j h, (s.chan c).pendingProgram = some j → s.store.header j = some h → PendingStarts j h.tag c s t) ∧
  (16 ≤ s.records.queue.length → ended ∧ (t.chan c).state = .filing ∧ (t.chan c).filed = some r ∧
    t.records = { s.records with filing := s.records.filing ++ [c] })

/-- R19, R103, R110 to R112: the work of a RUNNING channel in an ACTIVE CHECK, SIGNAL or END at a cycle start that did
not take the step up, done with no other work due. A CHECK without a value fails with NO_DATA and one outside its bounds
with CHECK_FAILED; one within them completes. A SIGNAL completes and sets its target's peer flag. An END ends the
program COMPLETED, its record closed as it stands; a pending program follows it (R9, R19). -/
def Obligations.CheckSignalAndEndComplete : Prop :=
  ∀ (c : Chan) (st : Step) (s : State), s.due = [CycleWork.sequencer c] → (s.chan c).state = .running →
    (s.chan c).phase = .active → (s.chan c).tookUp = false → s.currentStep c = some st →
    let next := min 256 ((s.chan c).index + 1)
    (∀ p w rec, st.body = .check p → (s.chan c).work = .check w → (s.chan c).record = some rec →
      let live (m : Measurand) := s.availableValue (.chan c m)
      let v := match p.quantity with
        | .jackLoad => live .jackLoad
        | .anchorLoad => live .anchorLoad
        | .jackStroke => live .jackStroke
        | .groutPressure => live .groutPressure
        | .groutFlow => live .groutFlow
        | .winchPayout => live .winchPayout
        | .winchTension => live .winchTension
        | _ => w.captured
      let decided := s.setWork c (.check { captured := v })
      (v = none → FailsBy st .noData c rec decided (settle s)) ∧
      (∀ x, v = some x → x < p.low ∨ p.high < x → FailsBy st .checkFailed c rec decided (settle s)) ∧
      (∀ x, v = some x → p.low ≤ x → x ≤ p.high → StepLeft next c s (settle s) ∧
        ((settle s).chan c).record = some rec)) ∧
    (∀ d, st.body = .signal d → (s.chan c).work = .signal → ∃ v, StepLeft next c s v ∧
      (v.chan c).record = (s.chan c).record ∧ settle s = v.setChan d { v.chan d with peer := true }) ∧
    (∀ rec, st.body = .finish → (s.chan c).work = .finish → (s.chan c).record = some rec →
      ProgramEnds .completed
        { rec with outcome := some .completed, endCount := some s.line.count, lastIndex := (s.chan c).index } c s
        (settle s))

/-! ### Pump arbitration -/

/-- R80: the cycle start that brings the switch count to the switch time held makes the pump GRANTED: the manifold
moves to the holder, both counts are 0 and the holder's standing is GRANTED. Nothing else changes. -/
def Sys2Proof.Machine.SwitchCompletes : Prop :=
  ∀ (p : Pump) (c : Chan) (x : InjectWork) (s : State), CycleWork.arbiter p ∈ s.due →
    (s.arb p).state = .switching c → (s.arb p).begun = false → (s.arb p).switchCount + 1 = (s.arb p).switchHeld →
    (s.chan c).work = .inject x →
    exec (.switchComplete p) s = .next ((({ s with due := s.due.filter (· ≠ CycleWork.arbiter p) }).setArb p
      { s.arb p with state := .granted c, manifold := some c, switchCount := 0, tenureCount := 0 }).setWork c
        (.inject { x with standing := .granted }))

/-- R79, R81: the cycle start that brings the tenure count to the tenure held. With an empty queue the count restarts
and nothing else changes. Otherwise the holder joins the tail with standing QUEUED, the head is granted the pump with
tenure and switch time copied from the part configuration, directly when the manifold names it or the switch time is
0 and by a switch if not, and PUMP_TENURE is latched. (That the tenure count is 0 while SWITCHING is the model's, log
entry 12: R79 is silent on it.) -/
def Sys2Proof.Machine.TenureExpires : Prop :=
  ∀ (p : Pump) (c : Chan) (s : State), CycleWork.arbiter p ∈ s.due → (s.arb p).state = .granted c →
    (s.arb p).begun = false → (s.arb p).tenureCount + 1 = (s.arb p).tenureHeld →
    let after := { s with due := s.due.filter (· ≠ CycleWork.arbiter p) }
    let k := s.mgmt.config
    ((s.arb p).queue = [] →
      exec (.tenureExpiry p) s = .next (after.setArb p { s.arb p with tenureCount := 0 })) ∧
    ∀ (d : Chan) (rest : List Chan) (x y : InjectWork), (s.arb p).queue = d :: rest → d ≠ c →
      (s.chan c).work = .inject x → (s.chan d).work = .inject y →
      let direct := (s.arb p).manifold = some d ∨ k.switchTime = 0
      let noticed := { after with
        mgmt := { s.mgmt with latched := { s.mgmt.latched with pumpTenure := true } } }
      let granted := { s.arb p with queue := rest ++ [c], tenureHeld := k.tenure, switchHeld := k.switchTime
                                    tenureCount := 0, begun := true }
      let queued := noticed.setWork c (.inject { x with standing := .queued, refusals := 0 })
      (direct → exec (.tenureExpiry p) s = .next
        ((queued.setWork d (.inject { y with standing := .granted })).setArb p
          { granted with state := .granted d, manifold := some d })) ∧
      (¬ direct → exec (.tenureExpiry p) s = .next
        ((queued.setWork d (.inject { y with standing := .switching, refusals := 0 })).setArb p
          { granted with state := .switching d, switchCount := 0 }))

/-- R80, R81: the cycle starts that only count. A switch below the switch time held and a grant below the tenure held count
the cycle start and nothing else changes; the cycle start at which the switch or grant itself began does not count, and a
FREE pump counts nothing. -/
def Sys2Proof.Machine.ArbiterCounts : Prop :=
  ∀ (p : Pump) (s : State), s.due = [CycleWork.arbiter p] →
    let a := s.arb p
    (∀ c, a.state = .switching c → a.begun = false → a.switchCount + 1 ≠ a.switchHeld →
      settle s = ({ s with due := [] }).setArb p { a with switchCount := a.switchCount + 1 }) ∧
    (∀ c, a.state = .granted c → a.begun = false → a.tenureCount + 1 ≠ a.tenureHeld →
      settle s = ({ s with due := [] }).setArb p { a with tenureCount := a.tenureCount + 1 }) ∧
    (a.begun = true ∨ a.state = .free → settle s = { s with due := [] })

/-- R79 to R81: an Arbiter's two counts. -/
def Obligations.SwitchCompletesAndTenureExpires : Prop :=
  SwitchCompletes ∧ TenureExpires ∧ ArbiterCounts

/-- R70, R72, R78, R79: channel `c`, whose INJECT is `x`, has claimed pump `p` of the part `u`. A FREE pump is granted to
it with tenure and switch time copied from the part configuration, directly when the manifold names it or the switch
time is 0 and by a switch if not; otherwise the channel joins the tail of the queue. Its standing says which. The other
pump stays as it is. (The tenure count of a switch: log entry 12.) -/
def Sys2Proof.Machine.ClaimAnswered (p : Pump) (c : Chan) (x : InjectWork) (u t : State) : Prop :=
  let a := u.arb p
  let k := u.mgmt.config
  let direct := a.manifold = some c ∨ k.switchTime = 0
  let granted := { a with tenureHeld := k.tenure, switchHeld := k.switchTime, begun := true, tenureCount := 0 }
  (a.state = .free → direct → t.arb p = { granted with state := .granted c, manifold := some c } ∧
    (t.chan c).work = .inject { x with standing := .granted }) ∧
  (a.state = .free → ¬ direct → t.arb p = { granted with state := .switching c, switchCount := 0 } ∧
    (t.chan c).work = .inject { x with standing := .switching, refusals := 0 }) ∧
  (a.state ≠ .free → t.arb p = { a with queue := a.queue ++ [c] } ∧
    (t.chan c).work = .inject { x with standing := .queued, refusals := 0 }) ∧
  ∀ q, q ≠ p → t.arb q = u.arb q

/-- R69, R78: an INJECT taken up with its required inputs available claims the pump of its channel's binding. -/
def Sys2Proof.Machine.TakeUpClaimsPump : Prop :=
  ∀ (c : Chan) (h : Header) (st : Step) (k : InjectStep) (p : Pump) (s u : State), MeetsTakeUp c s u →
    u.programHeader c = some h → (u.chan c).index < h.stepCount →
    u.store.step (h.stepFirst + (u.chan c).index) = some st → st.body = .inject k →
    u.bindingsPresent c st.body = true → u.requiredAvailable c st.body = true → (u.chan c).config.pump = some p →
    ∃ t, exec (.takeUpStep c) s = .next t ∧
      ClaimAnswered p c { standing := .none, volume := 0, refusals := 0, overs := 0, endReason := none } u t

/-- R75, R82, R124: a FREEZE of one channel alone, RUNNING in an INJECT with a claim, withdraws the claim, and volume, over
count and end reason stay. A waiting channel leaves its pump's queue. From the holder the pump passes on: to FREE with
counts of 0 and the manifold as it stands when no channel waits, and otherwise to the head of the queue, granted as a
claim on a FREE pump is. -/
def Sys2Proof.Machine.FreezeWithdrawsClaim : Prop :=
  ∀ (c : Chan) (p : Pump) (x : InjectWork) (b : Byte) (w : Window) (s : State),
    let u := settle s
    let a := u.arb p
    let k := u.mgmt.config
    Addressed 7 [b] w u → b.toNat = 2 ^ c.val → (u.chan c).state = .running → (u.chan c).freeze.supervisor = false →
    (u.chan c).config.pump = some p → (u.chan c).work = .inject x → x.standing ≠ .none →
    ∃ t, exec (.freeze w) s = .next t ∧ (t.chan c).state = .frozen ∧
      (t.chan c).work = .inject { x with standing := .none, refusals := 0 } ∧ (∀ q, q ≠ p → t.arb q = u.arb q) ∧
      (a.state ≠ .switching c → a.state ≠ .granted c →
        t.arb p = { a with queue := a.queue.filter (· ≠ c) }) ∧
      (a.state = .switching c ∨ a.state = .granted c →
        (a.queue = [] → (t.arb p).state = .free ∧ (t.arb p).queue = [] ∧ (t.arb p).manifold = a.manifold ∧
          (t.arb p).switchCount = 0 ∧ (t.arb p).tenureCount = 0) ∧
        ∀ (d : Chan) (rest : List Chan) (y : InjectWork), a.queue = d :: rest → d ≠ c → (u.chan d).work = .inject y →
          let direct := a.manifold = some d ∨ k.switchTime = 0
          (t.arb p).queue = rest ∧ (t.arb p).tenureHeld = k.tenure ∧ (t.arb p).switchHeld = k.switchTime ∧
          (t.arb p).tenureCount = 0 ∧ (t.arb p).begun = true ∧
          (direct → (t.arb p).state = .granted d ∧ (t.arb p).manifold = some d ∧
            (t.chan d).work = .inject { y with standing := .granted }) ∧
          (¬ direct → (t.arb p).state = .switching d ∧ (t.arb p).manifold = a.manifold ∧ (t.arb p).switchCount = 0 ∧
            (t.chan d).work = .inject { y with standing := .switching, refusals := 0 }))

/-- R75, R78, R125: a RESUME that lets one FROZEN channel in an INJECT run again makes its claim anew, and the step goes
on with its volume, over count and end reason. -/
def Sys2Proof.Machine.ResumeClaimsPumpAgain : Prop :=
  ∀ (c : Chan) (p : Pump) (x : InjectWork) (b : Byte) (w : Window) (s : State),
    let u := settle s
    Addressed 8 [b] w u → b.toNat = 2 ^ c.val → (u.chan c).state = .frozen →
    (u.chan c).freeze = { FreezeSet.empty with supervisor := true } → (u.chan c).config.pump = some p →
    (u.chan c).work = .inject x →
    ∃ t, exec (.resume w) s = .next t ∧ (t.chan c).state = .running ∧ ClaimAnswered p c x u t

/-- R69, R70, R75, R78, R79, R82: a claim is granted or waits, a freeze withdraws it, and the return to RUNNING makes it
again. -/
def Obligations.ClaimsAreGrantedAndWithdrawn : Prop :=
  TakeUpClaimsPump ∧ FreezeWithdrawsClaim ∧ ResumeClaimsPumpAgain

/-! ### Staleness and echoes -/

/-- R131, R132, R134, R143, 00_scope.md (Arithmetic): the slot at a SAMPLE position is accepted for target `x` and
gives record `r`: the check good and the node status OK or SATURATED; an echo target takes the aux as its value; any
other takes (raw − offset) × gain shifted right by the shift, clamped to its range, and is saturated when the node says
so or the clamp changes it. -/
def Sys2Proof.Machine.Accepts (u : State) (pos : Nat) (slot : Slot) (x : Target) (r : InputRecord) : Prop :=
  ∃ k, SlotAt u pos (.sample x k) ∧ slotGood slot = true ∧ (slot.b0 = 0#8 ∨ slot.b0 = 1#8) ∧
    r.valid = true ∧ r.age = 0 ∧ r.aux = slot.b3.toNat ∧
    if x.isEcho = true then r.value = slot.b3.toNat ∧ r.saturated = decide (slot.b0 = 1#8)
    else ∃ e, Sparse.get none u.scales k = some e ∧
      let v := (slot.b1 ++ slot.b2).toInt
      let y := (v - e.offset) * e.gain / 2 ^ e.shift
      r.value = max x.range.1 (min x.range.2 y) ∧
      r.saturated = (decide (slot.b0 = 1#8) || decide (y < x.range.1 ∨ x.range.2 < y))

/-- R128, R138, R141: a required input of the current step that ageing makes unavailable adds SAMPLE_STALE to the
channel, with the effects of R17, and latches the notice. The ageing of the same cycle start comes first. (That an input
unavailable since before this ageing adds the cause as well, where it is absent, is the model's reading of R141, log
entry 31.) -/
def Sys2Proof.Machine.StaleInputFreezesChannel : Prop :=
  ∀ (c : Chan) (st : Step) (m : Measurand) (s u : State), CycleWork.inputStale c ∈ s.due →
    u = prepareWork (.inputStale c) s →
    (u.chan c).state = .running ∨ (u.chan c).state = .frozen ∨ (u.chan c).state = .faulted →
    u.currentStep c = some st → m ∈ st.body.requiredInputs → u.available (.chan c m) = false →
    (u.chan c).freeze.sampleStale = false →
    ∃ t, exec (.sampleStale c) s = .next t ∧ CauseReaches .sampleStale (fun d => d = c) u t ∧
      t.mgmt = { u.mgmt with latched := { u.mgmt.latched with sampleStale := true } } ∧ t.line = u.line ∧
      t.store = u.store ∧ t.scales = u.scales ∧ t.inputs = u.inputs ∧ t.walls = u.walls ∧ t.records = u.records ∧
      t.reports = u.reports ∧ t.pins = u.pins

/-- R137, R138: at a cycle start every input record ages by one, saturating at 255, and is otherwise kept; the ageing
changes nothing else. -/
def Sys2Proof.Machine.AgeingAgesEveryRecord : Prop :=
  (∀ (x : Target) (s : State),
    (ageRecords s).input x = (s.input x).map fun r => { r with age := min 255 (r.age + 1) }) ∧
  ∀ s : State, s.due = [CycleWork.ageing] →
    settle s = { s with due := [], inputs := (settle s).inputs } ∧
    ∀ x, (settle s).input x = (s.input x).map fun r => { r with age := min 255 (r.age + 1) }

/-- R137, R154, R167: no slot or request meets work of a cycle start that is still due (log entry 3), and the ageing of a
cycle start ages every record by one. -/
def Obligations.CycleStartWorkIsTakenOnce : Prop :=
  SettleTakesAllDueWork ∧ AgeingAgesEveryRecord

/-- R117: an enabled point with its latch clear whose input is unavailable becomes STALE; nothing else changes. The
ageing of the same cycle start comes first. -/
def Sys2Proof.Machine.UnavailableInputMakesPointStale : Prop :=
  ∀ (w : Point) (s u : State), CycleWork.wallStale w ∈ s.due → u = prepareWork (.wallStale w) s →
    (u.wall w).config.enable = true → (u.wall w).latch = false → u.available (.wallMove w) = false →
    (u.wall w).state ≠ .stale →
    exec (.wallPointStale w) s = .next
      (({ u with due := u.due.filter (· ≠ CycleWork.wallStale w) }).setWall w { u.wall w with state := .stale })

/-- R142: an accepted sample of a channel's input removes SAMPLE_STALE when it leaves every required input of the current
step available. The cause stands afterwards only where there is no such step or an input is still unavailable. A FROZEN
channel held by it alone, whose other required inputs are available, is RUNNING again, but for a fault that the sample's
own checks raise. -/
def Sys2Proof.Machine.SampleRemovesStale : Prop :=
  ∀ (pos : Nat) (slot : Slot) (c : Chan) (m : Measurand) (r : InputRecord) (s : State),
    let u := settle s
    Accepts u pos slot (.chan c m) r →
    ∃ t, exec (.sampleSlot pos slot) s = .next t ∧
      ((t.chan c).freeze.sampleStale = true → ∀ st, t.currentStep c = some st → t.requiredAvailable c st.body = false) ∧
      ∀ st, (u.chan c).state = .frozen → (u.chan c).freeze = { FreezeSet.empty with sampleStale := true } →
        u.currentStep c = some st → (∀ n ∈ st.body.requiredInputs, n ≠ m → u.available (.chan c n) = true) →
        (t.chan c).freeze = FreezeSet.empty ∧ ((t.chan c).state = .running ∨ (t.chan c).state = .faulted) ∧
        (m ≠ .jackLoad → m ≠ .groutPressure → m ≠ .winchTension → (t.chan c).state = .running ∧
          ∀ x, (u.chan c).work = .hold x → (t.chan c).work = .hold
            { elapsed := 0, marks := x.marks.map fun _ => none, drift := false, interrupted := min 255 (x.interrupted + 1) })

/-- R117, R141, R142: what an input that ageing makes unavailable does to a channel and to a wall point, and what brings
the channel back. -/
def Obligations.StalenessFreezesAndMarks : Prop :=
  StaleInputFreezesChannel ∧ UnavailableInputMakesPointStale ∧ SampleRemovesStale

/-- R144: the echo inputs of the actuators that the ACTIVE step of a channel uses. -/
def Sys2Proof.Machine.EchoInUse (ch : Channel) (c : Chan) (x : Target) : Prop :=
  match ch.work with
  | .ramp _ => x = .chan c .jackEcho
  | .hold _ => x = .chan c .jackEcho
  | .lockoff _ => x = .chan c .jackEcho
  | .payout _ => x = .chan c .winchEcho
  | .inject w => w.standing = .granted ∧ ∃ p, ch.config.pump = some p ∧ x = .pumpEcho p
  | _ => False

/-- R143, R144: a bound echo input in use whose record is invalid, or whose echo age or record age is beyond the echo
limit, faults the RUNNING channel with NODE_SILENT. So does one that has no record, which every reader treats as invalid
(R135). -/
def Sys2Proof.Machine.SilentEchoFaults : Prop :=
  ∀ (c : Chan) (x : Target) (s : State), CycleWork.echo c ∈ s.due → (s.chan c).state = .running →
    (s.chan c).phase = .active → (s.chan c).tookUp = false → EchoInUse (s.chan c) c x → s.bound x = true →
    let faulted := ∃ t, exec (.nodeSilent c) s = .next t ∧ FaultsWith .nodeSilent c s t ∧ t.line = s.line
    (s.input x = none → faulted) ∧
    ∀ r : InputRecord, s.input x = some r →
      r.valid = false ∨ (s.chan c).config.echoLimit < r.age ∨
        ((s.chan c).config.echoLimit : Int) < (((s.line.count % 256 : Nat) : Int) - r.value) % 256 → faulted

/-- R143, R144: a channel's echo check at a cycle start, alone due, that raises no fault and changes nothing: every bound
echo input in use has a valid record whose echo age and record age are within the echo limit; or the channel is not
RUNNING in an ACTIVE step, or took its step up at this cycle start. -/
def Sys2Proof.Machine.AnsweringEchoPasses : Prop :=
  ∀ (c : Chan) (s : State), s.due = [CycleWork.echo c] →
    (s.chan c).state ≠ .running ∨ (s.chan c).phase ≠ .active ∨ (s.chan c).tookUp = true ∨
      (∀ x, EchoInUse (s.chan c) c x → s.bound x = true → ∃ r, s.input x = some r ∧ r.valid = true ∧
        r.age ≤ (s.chan c).config.echoLimit ∧
        (((s.line.count % 256 : Nat) : Int) - r.value) % 256 ≤ ((s.chan c).config.echoLimit : Int)) →
    settle s = { s with due := [] }

/-- R143, R144: the echo check of a channel. -/
def Obligations.SilentNodeFaultsChannel : Prop :=
  SilentEchoFaults ∧ AnsweringEchoPasses

/-! ### Swaps at a cycle start and at the wrap -/

/-- R161, R162: a pending slot map swap exchanges the banks whole and clears the flag; every target bound in the new
active bank that has no record gains one, invalid with age 255. -/
def Sys2Proof.Machine.SlotMapSwapExchangesBanks : Prop :=
  ∀ s : State, CycleWork.mapSwap ∈ s.due → s.line.swapPending = true →
    ∃ t, exec .slotMapSwap s = .next t ∧
      t = { s with
        line := { s.line with active := s.line.shadow, shadow := s.line.active, swapPending := false }
        inputs := t.inputs, due := s.due.filter (· ≠ CycleWork.mapSwap) } ∧
      (∀ x r, s.input x = some r → t.input x = some r) ∧
      (∀ x, s.input x = none → t.bound x = true →
        t.input x = some { value := 0, valid := false, age := 255, saturated := false, aux := 0 }) ∧
      ∀ x, s.input x = none → t.bound x = false → t.input x = none

/-- R193: the report list exchanged: position 0, every last-sent value absent, the flag clear. -/
def Sys2Proof.Machine.ListSwapped (r : Composer) : Composer :=
  { active := r.shadow, shadow := r.active, listPos := 0, lastSent := r.shadow.map fun _ => none, swapPending := false }

/-- R192: entry `i` of the active list would be passed over: CHANGE_ONLY, and its value is the one last sent. -/
def Sys2Proof.Machine.PassedOver (s : State) (i : Nat) : Prop :=
  ∃ e, s.reports.active[i]? = some e ∧ e.changeOnly = true ∧
    s.reports.lastSent.getD i none = some (reportValue s e.item)

/-- R193: a pending report list swap is carried out at a cycle start when the active list is empty, and otherwise when
the list position wraps while a REPORT slot is filled: after the last entry has been sent, or passed over (the slot
then carries the IDLE report). -/
def Sys2Proof.Machine.ReportListSwapExchangesLists : Prop :=
  (∀ s : State, CycleWork.listSwap ∈ s.due → s.reports.swapPending = true → s.reports.active = [] →
    exec (.reportListSwap .cycleStart) s = .next
      { s with due := s.due.filter (· ≠ CycleWork.listSwap), reports := ListSwapped s.reports }) ∧
  ∀ (pos : Nat) (x : Slot) (e : ReportEntry) (s : State),
    let u := settle s
    let last := u.reports.active.length - 1
    SlotAt u pos .report → u.reports.swapPending = true → u.reports.active[last]? = some e →
    u.reports.listPos ≤ last → (∀ i, u.reports.listPos ≤ i → i < last → PassedOver u i) →
    let done := { u with line := { u.line with slotPos := pos }, reports := ListSwapped u.reports }
    (PassedOver u last → exec (.reportListSwap (.reportSlot pos x)) s = .next { done with sent := [idleReport] }) ∧
    (¬ PassedOver u last → exec (.reportListSwap (.reportSlot pos x)) s = .next
      { done with sent := [sentReport last (reportValue u e.item)] })

/-- R161, R162, R193: the two pairs of banks exchange whole. -/
def Obligations.SwapsExchangeBanks : Prop :=
  SlotMapSwapExchangesBanks ∧ ReportListSwapExchangesLists

/-! ### Slots of a worked cycle -/

/-- R191, R192, R196: a REPORT position is filled. An empty list gives the IDLE report. Entries are examined from the
list position, wrapping, until one is sent: it becomes that position's last-sent value and the position moves past it.
When all are passed over the slot carries the IDLE report and nothing moves. (A wrap with a swap pending is the swap's
own statement.) -/
def Obligations.ReportSlotSendsNextReport : Prop :=
  ∀ (pos : Nat) (x : Slot) (s : State),
    let u := settle s
    let l := u.reports.active.length
    SlotAt u pos .report →
    let filled := { u with line := { u.line with slotPos := pos } }
    (l = 0 → exec (.reportSlot pos x) s = .next { filled with sent := [idleReport] }) ∧
    (∀ k e, k < l → u.reports.listPos < l → u.reports.swapPending = false ∨ u.reports.listPos + k + 1 < l →
      (∀ j, j < k → PassedOver u ((u.reports.listPos + j) % l)) →
      u.reports.active[(u.reports.listPos + k) % l]? = some e → ¬ PassedOver u ((u.reports.listPos + k) % l) →
      let i := (u.reports.listPos + k) % l
      exec (.reportSlot pos x) s = .next { filled with
        sent := [sentReport i (reportValue u e.item)]
        reports := { u.reports with
          listPos := (i + 1) % l, lastSent := u.reports.lastSent.set i (some (reportValue u e.item)) } }) ∧
    (u.reports.listPos < l → u.reports.swapPending = false → (∀ i, i < l → PassedOver u i) →
      exec (.reportSlot pos x) s = .next { filled with sent := [idleReport] })

/-- R147, R156, R157: the eight slots of a window that do not meet a worked cycle pass. Held in reset, and in HUNT without
a good sync among them, nothing of the part moves; in CONFIRM the positions are counted. -/
def Sys2Proof.Machine.WindowPassesUnworked (i : Instr) (w : Window) (s : State) : Prop :=
  let u := settle s
  (u.pins.resetIn = true → exec i s = .next { u with sent := w.slots }) ∧
  (u.line.alignment = .hunt → (∀ x ∈ w.slots, ¬ GoodSync x) → exec i s = .next { u with sent := w.slots }) ∧
  (∀ n, u.pins.resetIn = false → u.line.alignment = .confirm → u.line.heldN = some n → u.line.slotPos + 8 < n →
    exec i s = .next { u with line := { u.line with slotPos := u.line.slotPos + 8 }, sent := w.slots })

/-- R157, R168, R180: the reply window, positions 9 to 16, passes. A worked part that owes a reply writes it; otherwise
the eight slots pass unchanged. When position 16 of a written reply has left, no reply is owed, and the OK of a pending
RESET_PART sets its device reset going. -/
def Sys2Proof.Machine.ReplyWindowWritten : Prop :=
  (∀ (w : Window) (s : State), (settle s).worked = true → (settle s).line.slotPos = 8 →
    let u := settle s
    (∀ r, u.mgmt.owed = some r → exec (.replyWindow w) s = .next { u with
      line := { u.line with slotPos := 16 }, mgmt := { u.mgmt with replyWritten := true }, sent := r.window.slots }) ∧
    (u.mgmt.owed = none → exec (.replyWindow w) s = .next
      { u with line := { u.line with slotPos := 16 }, sent := w.slots })) ∧
  (∀ (w : Window) (s : State), WindowPassesUnworked (.replyWindow w) w s) ∧
  ∀ (r : Reply) (s : State), (settle s).worked = true → (settle s).mgmt.replyWritten = true →
    16 ≤ (settle s).line.slotPos → (settle s).mgmt.owed = some r →
    let u := settle s
    let gone := { u with mgmt := { u.mgmt with owed := none, replyWritten := false } }
    (u.mgmt.resetPending = true → r.kind = 20#8 → r.status = .ok →
      exec .replyLeft s = .next { gone with due := u.due ++ [CycleWork.deviceReset] }) ∧
    (u.mgmt.resetPending = false ∨ r.kind ≠ 20#8 ∨ r.status ≠ .ok → exec .replyLeft s = .next gone)

/-- R157: the slots of a reply window that come one by one. Whether a reply is owed is asked at position 9; where one is,
that slot carries its header and the slots to position 16 the rest of it. (At position 9 a reply is not yet written. That
any row that delivers a slot delivers these is log entry 2.) -/
def Sys2Proof.Machine.ReplySlotsWritten : Prop :=
  ∀ (x : Slot) (i : Instr) (r : Reply) (s : State),
    let u := settle s
    let pos := u.line.slotPos + 1
    let sends (out : Slot) (written : Bool) : State := { u with
      line := { u.line with slotPos := pos }, mgmt := { u.mgmt with replyWritten := written }, sent := [out] }
    i ∈ SlotRows pos x → u.worked = true → BeforeSync u → u.mgmt.owed = some r →
    (pos = 9 → exec i s = .next (sends r.window.s1 true)) ∧
    (∀ out, 10 ≤ pos → pos ≤ 16 → u.mgmt.replyWritten = true → r.window.slots[pos - 9]? = some out →
      exec i s = .next (sends out true)) ∧
    (10 ≤ pos → pos ≤ 16 → u.mgmt.replyWritten = false → exec i s = .next (sends x false))

/-- R157, R168, R180: the reply window, whole and slot by slot. -/
def Obligations.ReplyWindowWritesOwedReply : Prop :=
  ReplyWindowWritten ∧ ReplySlotsWritten

/-! ### Samples -/

/-- R131, R132, R134, R136: an accepted sample replaces its target's record and leaves every other record; a rejected
one (bad check, node status FAULT or undefined, or an EMPTY scale entry) changes nothing. The slot passes unchanged. -/
def Obligations.SampleSlotWritesRecord : Prop :=
  (∀ (pos : Nat) (slot : Slot) (x : Target) (r : InputRecord) (s : State), Accepts (settle s) pos slot x r →
    ∃ t, exec (.sampleSlot pos slot) s = .next t ∧ t.input x = some r ∧
      (∀ y, y ≠ x → t.input y = (settle s).input y) ∧ t.sent = [slot] ∧
      t.line = { (settle s).line with slotPos := pos } ∧ t.scales = (settle s).scales ∧ t.store = (settle s).store ∧
      t.records = (settle s).records ∧ t.reports = (settle s).reports ∧ t.pins = (settle s).pins) ∧
  ∀ (pos : Nat) (slot : Slot) (x : Target) (k : Nat) (s : State),
    SlotAt (settle s) pos (.sample x k) →
    slotGood slot = false ∨ (slot.b0 ≠ 0#8 ∧ slot.b0 ≠ 1#8) ∨
      (x.isEcho = false ∧ Sparse.get none (settle s).scales k = none) →
    exec (.sampleSlot pos slot) s = .next
      { settle s with line := { (settle s).line with slotPos := pos }, sent := [slot] }

/-- R115, R116, R119, R122: an accepted sample of a wall point. A disabled point is not classified. An enabled one takes
the first row of R116's table that applies; every other point is as it was; a wall state that becomes STOP adds
WALL_STOP to every channel that is not IDLE, and the channels are otherwise left alone. -/
def Obligations.WallSampleClassifiesPoint : Prop :=
  ∀ (pos : Nat) (slot : Slot) (w : Point) (r : InputRecord) (s : State), Accepts (settle s) pos slot (.wallMove w) r →
    let u := settle s
    let x := u.wall w
    let d := (r.value - x.config.baseline).natAbs
    ∃ t, exec (.sampleSlot pos slot) s = .next t ∧ (∀ v, v ≠ w → t.wall v = u.wall v) ∧
      (x.config.enable = false → t.wall w = x) ∧
      (x.config.enable = true → x.latch = true → t.wall w = { x with state := .stop, latch := true }) ∧
      (x.config.enable = true → x.latch = false → x.config.stop ≤ d →
        t.wall w = { x with state := .stop, latch := true }) ∧
      (x.config.enable = true → x.latch = false → d < x.config.stop → x.config.warn ≤ d →
        t.wall w = { x with state := .warn }) ∧
      (x.config.enable = true → x.latch = false → d < x.config.stop → d < x.config.warn →
        t.wall w = { x with
          state := if (x.state = .warn ∨ x.state = .stale) ∧ x.config.warn ≤ d + x.config.hysteresis then .warn
            else .normal }) ∧
      (u.wallState ≠ .stop → t.wallState = .stop → CauseReaches .wallStop (fun _ => True) u t) ∧
      (u.wallState = .stop ∨ t.wallState ≠ .stop → ∀ c, t.chan c = u.chan c)

/-- R51, R52: an accepted JACK_LOAD sample raises the record's peak load to the greatest seen; above the overload limit
it counts, and the sample that brings the count to the persistence faults a RUNNING or FROZEN channel with OVERLOAD. -/
def Sys2Proof.Machine.OverloadFaultsChannel : Prop :=
  ∀ (pos : Nat) (slot : Slot) (c : Chan) (v : Nat) (r : InputRecord) (s : State),
    Accepts (settle s) pos slot (.chan c .jackLoad) r → r.value = v →
    let u := settle s
    let ch := u.chan c
    ch.state = .running ∨ ch.state = .frozen → ch.config.overloadLimit < v →
    ch.config.overloadPersistence ≤ min 255 (ch.jack.overloads + 1) →
    ∃ t, exec (.overload pos slot) s = .next t ∧ (t.chan c).state = .faulted ∧ (t.chan c).fault = some .overload ∧
      (t.chan c).record = (ch.record.map fun (x : Record) =>
        { x with peakLoad := max x.peakLoad v, fault := some .overload }) ∧
      (t.chan c).jack = { ch.jack with overloads := min 255 (ch.jack.overloads + 1) } ∧
      (t.chan c).phase = ch.phase ∧ (t.chan c).index = ch.index ∧ (t.chan c).profile = ch.profile ∧
      (t.chan c).program = ch.program ∧ (t.chan c).config = ch.config ∧
      t.mgmt.latched = { u.mgmt.latched with channelFault := true } ∧ OthersKept c u t ∧
      t.input (.chan c .jackLoad) = some r ∧ t.sent = [slot]

/-- A JACK_LOAD sample of value `v` does not raise the OVERLOAD fault (R52), which is looked at first (R136). -/
def Sys2Proof.Machine.NoOverload (ch : Channel) (v : Nat) : Prop :=
  v ≤ ch.config.overloadLimit ∨ ch.jack.overloads + 1 < ch.config.overloadPersistence

/-- R55: an accepted JACK_LOAD sample of a RUNNING channel in a RAMP in phase SETTLING within the settle band counts;
the one that brings the count to the settle need completes the step, naming index + 1. (The overload check comes first,
R136, and has not faulted the channel. That steps remaining and next segment are kept is the model's, log entries 35 and
27.) -/
def Sys2Proof.Machine.SettledRampCompletes : Prop :=
  ∀ (pos : Nat) (slot : Slot) (c : Chan) (v : Nat) (st : Step) (p : RampStep) (w : RampWork) (r : InputRecord) (s : State),
    Accepts (settle s) pos slot (.chan c .jackLoad) r → r.value = v →
    let u := settle s
    let ch := u.chan c
    ch.state = .running → ch.phase = .active → u.currentStep c = some st → st.body = .ramp p → ch.work = .ramp w →
    w.phase = .settling → ((v : Int) - u.setpoint c).natAbs ≤ p.settleBand → p.settleNeed ≤ min 255 (w.settle + 1) →
    NoOverload ch v →
    ∃ t, exec (.rampSettled pos slot) s = .next t ∧ StepLeft (min 256 (ch.index + 1)) c u t ∧
      (t.chan c).record = (ch.record.map fun (x : Record) => { x with peakLoad := max x.peakLoad v }) ∧
      (t.chan c).profile = { ch.profile with
        status := .inactive, working := none, reload := none, staged := none, segsLeft := 0 } ∧
      t.input (.chan c .jackLoad) = some r ∧ t.sent = [slot]

/-- R51, R55: the sample that does not complete a SETTLING RAMP: within the settle band, below the settle need, the settle
count goes up by one; outside the band it becomes 0. In phase PROFILING nothing is counted. -/
def Sys2Proof.Machine.SettlingSampleCounts : Prop :=
  ∀ (pos : Nat) (slot : Slot) (c : Chan) (v : Nat) (st : Step) (p : RampStep) (w : RampWork) (r : InputRecord) (s : State),
    Accepts (settle s) pos slot (.chan c .jackLoad) r → r.value = v →
    let u := settle s
    let ch := u.chan c
    let within := ((v : Int) - u.setpoint c).natAbs ≤ p.settleBand
    ch.state = .running → ch.phase = .active → u.currentStep c = some st → st.body = .ramp p → ch.work = .ramp w →
    NoOverload ch v → 1 ≤ p.settleNeed →
    ∃ t, exec (.sampleSlot pos slot) s = .next t ∧
      ((w.phase = .profiling ∨ ¬ within ∨ min 255 (w.settle + 1) < p.settleNeed) →
        (t.chan c).phase = .active ∧ (t.chan c).index = ch.index ∧
        (t.chan c).record = (ch.record.map fun (x : Record) => { x with peakLoad := max x.peakLoad v })) ∧
      (w.phase = .settling → within → min 255 (w.settle + 1) < p.settleNeed →
        (t.chan c).work = .ramp { w with settle := min 255 (w.settle + 1) }) ∧
      (w.phase = .settling → ¬ within → (t.chan c).work = .ramp { w with settle := 0 }) ∧
      (w.phase = .profiling → (t.chan c).work = .ramp w)

/-- R51, R55: the load samples of a RAMP. -/
def Obligations.RampSettles : Prop :=
  SettledRampCompletes ∧ SettlingSampleCounts

/-- R15, R60, R63: the drift test of a RUNNING HOLD. A load within the tolerance of the setpoint changes nothing of the
step. Beyond it, HALT faults with LOAD_DRIFT and the step suspended as it stands; DIVERT appends a FAIL result with no
ks, the last-creep value becomes absent, and the step is left for its divert target; CONTINUE sets the drift flag and
the hold goes on. -/
def Sys2Proof.Machine.LoadSampleTestsDrift : Prop :=
  ∀ (pos : Nat) (slot : Slot) (c : Chan) (v : Nat) (st : Step) (p : HoldStep) (w : HoldWork) (rec : Record)
    (r : InputRecord) (s : State), Accepts (settle s) pos slot (.chan c .jackLoad) r → r.value = v →
    let u := settle s
    let ch := u.chan c
    let within := ((v : Int) - u.setpoint c).natAbs ≤ p.tolerance
    let peaked : Record := { rec with peakLoad := max rec.peakLoad v }
    ch.state = .running → ch.phase = .active → u.currentStep c = some st → st.body = .hold p → ch.work = .hold w →
    ch.record = some rec → NoOverload ch v →
    ∃ t, exec (.sampleSlot pos slot) s = .next t ∧
      (within → (t.chan c).work = .hold w ∧ (t.chan c).state = .running ∧ (t.chan c).phase = .active ∧
        (t.chan c).record = some peaked) ∧
      (¬ within → st.onFail = .halt → (t.chan c).state = .faulted ∧ (t.chan c).fault = some .loadDrift ∧
        (t.chan c).work = .hold w ∧ (t.chan c).phase = .active ∧ (t.chan c).index = ch.index ∧
        (t.chan c).record = some { peaked with fault := some .loadDrift } ∧
        t.mgmt.latched = { u.mgmt.latched with channelFault := true }) ∧
      (¬ within → st.onFail = .divert → StepLeft st.divert c u t ∧ (t.chan c).lastCreep = none ∧
        (t.chan c).record = some { peaked with
          holdCount := min 255 (rec.holdCount + 1)
          holds := if rec.holds.length < 3 then rec.holds ++ [
              { verdict := .fail, ks := none, marks := w.marks, drift := w.drift, interrupted := w.interrupted }]
            else rec.holds }) ∧
      (¬ within → st.onFail = .cont → (t.chan c).work = .hold { w with drift := true } ∧
        (t.chan c).state = .running ∧ (t.chan c).phase = .active ∧ (t.chan c).record = some peaked)

/-- R15, R67, R68: the completion test of a RUNNING LOCKOFF in phase RELEASING: at setpoint 0, a load at or below the seat
threshold takes the residual load from a bound and available ANCHOR_LOAD into the record. A loss above the allowed one
fails the step with LOCKOFF_LOSS; otherwise, and without a residual load, it completes. A step that is left clears the
wedge flag and the integral. Any other sample leaves the step as it is. -/
def Sys2Proof.Machine.LoadSampleEndsLockoff : Prop :=
  ∀ (pos : Nat) (slot : Slot) (c : Chan) (v : Nat) (st : Step) (p : LockoffStep) (w : LockoffWork) (rec : Record)
    (r : InputRecord) (s : State), Accepts (settle s) pos slot (.chan c .jackLoad) r → r.value = v →
    let u := settle s
    let ch := u.chan c
    let released := w.phase = .releasing ∧ u.setpoint c = 0 ∧ v ≤ p.seatThreshold
    let residual := if u.bound (.chan c .anchorLoad) = true then u.chanValue c .anchorLoad else none
    let loss := ∃ l x, w.load = some l ∧ residual = some x ∧ x + p.allowedLoss < l
    let taken : Record := { rec with peakLoad := max rec.peakLoad v, residualLoad := residual }
    let left (index : Nat) (record : Record) (t : State) : Prop := StepLeft index c u t ∧
      (t.chan c).record = some record ∧ (t.chan c).wedge = false ∧ (t.chan c).jack.integral = 0
    ch.state = .running → ch.phase = .active → u.currentStep c = some st → st.body = .lockoff p →
    ch.work = .lockoff w → ch.record = some rec → NoOverload ch v →
    ∃ t, exec (.sampleSlot pos slot) s = .next t ∧
      (released → ¬ loss → left (min 256 (ch.index + 1)) taken t) ∧
      (released → loss → st.onFail = .divert → left st.divert taken t) ∧
      (released → loss → st.onFail = .cont →
        left (min 256 (ch.index + 1)) { taken with failedChecks := min 255 (rec.failedChecks + 1) } t) ∧
      (released → loss → st.onFail = .halt → (t.chan c).state = .faulted ∧ (t.chan c).fault = some .lockoffLoss ∧
        (t.chan c).record = some { taken with fault := some .lockoffLoss } ∧ (t.chan c).work = .lockoff w ∧
        (t.chan c).phase = .active ∧ (t.chan c).index = ch.index ∧ (t.chan c).wedge = ch.wedge ∧
        t.mgmt.latched = { u.mgmt.latched with channelFault := true }) ∧
      (¬ released → (t.chan c).work = .lockoff w ∧ (t.chan c).state = .running ∧ (t.chan c).phase = .active ∧
        (t.chan c).record = some { rec with peakLoad := max rec.peakLoad v })

/-- R60, R67: the load samples of a HOLD and of a LOCKOFF. -/
def Obligations.LoadSamplesDecideHoldAndLockoff : Prop :=
  LoadSampleTestsDrift ∧ LoadSampleEndsLockoff

/-- R71, R72, R76: an accepted GROUT_FLOW sample of a RUNNING channel with an ACTIVE INJECT, whatever its claim
standing. Its increment is added to the step volume, saturating. At the target volume the step completes with end
reason VOLUME, which its leaving writes into the record with the volume. Below it the refusal count follows the refusal
test of a GRANTED holder, the step's refusal count not yet reached. -/
def Sys2Proof.Machine.FlowSampleFillsInject : Prop :=
  ∀ (pos : Nat) (slot : Slot) (c : Chan) (v : Nat) (st : Step) (p : InjectStep) (w : InjectWork) (r : InputRecord)
    (s : State), Accepts (settle s) pos slot (.chan c .groutFlow) r → r.value = v →
    let u := settle s
    let ch := u.chan c
    let volume := min 16777215 (w.volume + v)
    let met := ∃ pressure, u.chanValue c .groutPressure = some pressure ∧ p.refusalPressure ≤ pressure ∧ v ≤ p.refusalFlow
    ch.state = .running → ch.phase = .active → u.currentStep c = some st → st.body = .inject p → ch.work = .inject w →
    ∃ t, exec (.sampleSlot pos slot) s = .next t ∧ t.input (.chan c .groutFlow) = some r ∧ t.sent = [slot] ∧
      (p.targetVolume ≤ volume → StepLeft (min 256 (ch.index + 1)) c u t ∧
        (t.chan c).record = (ch.record.map fun (x : Record) => { x with
          groutEnd := some .volume
          groutVolume := some (match x.groutVolume with
            | none => volume
            | some g => min 16777215 (g + volume)) })) ∧
      (volume < p.targetVolume → w.standing ≠ .granted →
        (t.chan c).work = .inject { w with volume := volume } ∧ (t.chan c).phase = .active ∧
        (t.chan c).record = ch.record) ∧
      (volume < p.targetVolume → w.standing = .granted → ¬ met → 0 < p.refusalCount →
        (t.chan c).work = .inject { w with volume := volume, refusals := 0 } ∧ (t.chan c).phase = .active) ∧
      (volume < p.targetVolume → w.standing = .granted → met → min 255 (w.refusals + 1) < p.refusalCount →
        (t.chan c).work = .inject { w with volume := volume, refusals := min 255 (w.refusals + 1) } ∧
        (t.chan c).phase = .active)

/-- R94, R99: an accepted WINCH_PAYOUT sample of a RUNNING channel in an ACTIVE PAYOUT with its start length present.
The progress is the sample less the start length, 0 if that is negative. At the target length the step completes and
its leaving writes the progress into the record; below it the step goes on. (That steps remaining and next segment are
kept at the leaving is the model's, log entries 35 and 27.) -/
def Sys2Proof.Machine.PayoutSampleMeasuresProgress : Prop :=
  ∀ (pos : Nat) (slot : Slot) (c : Chan) (v start : Nat) (st : Step) (p : PayoutStep) (w : PayoutWork) (r : InputRecord)
    (s : State), Accepts (settle s) pos slot (.chan c .winchPayout) r → r.value = v →
    let u := settle s
    let ch := u.chan c
    ch.state = .running → ch.phase = .active → u.currentStep c = some st → st.body = .payout p → ch.work = .payout w →
    w.startLength = some start →
    ∃ t, exec (.sampleSlot pos slot) s = .next t ∧ t.input (.chan c .winchPayout) = some r ∧ t.sent = [slot] ∧
      (p.target ≤ v - start → StepLeft (min 256 (ch.index + 1)) c u t ∧
        (t.chan c).record = (ch.record.map fun (x : Record) => { x with payoutLength := some (v - start) }) ∧
        (t.chan c).profile = { ch.profile with
          status := .inactive, working := none, reload := none, staged := none, segsLeft := 0 }) ∧
      (v - start < p.target → (t.chan c).work = .payout { w with progress := v - start } ∧ (t.chan c).phase = .active ∧
        (t.chan c).record = ch.record ∧ (t.chan c).profile = ch.profile)

/-- R71, R72, R73, R76: the flow sample that brings the refusal count of a GRANTED INJECT to the step's refusal count.
The sample's volume is counted first and has not completed the step. Under accept refusal the step completes; otherwise
it fails with REFUSAL by its on-fail course. Leaving writes the end reason REFUSAL and the volume into the record; under
HALT the suspended step keeps the volume and the end reason, its claim withdrawn (R75). -/
def Sys2Proof.Machine.RefusalEndsInject : Prop :=
  ∀ (pos : Nat) (slot : Slot) (c : Chan) (v pressure : Nat) (st : Step) (p : InjectStep) (w : InjectWork) (rec : Record)
    (r : InputRecord) (s : State),
    Accepts (settle s) pos slot (.chan c .groutFlow) r → r.value = v →
    let u := settle s
    let ch := u.chan c
    ch.state = .running → ch.phase = .active → u.currentStep c = some st → st.body = .inject p → ch.work = .inject w →
    w.standing = .granted → ch.record = some rec → u.chanValue c .groutPressure = some pressure →
    min 16777215 (w.volume + v) < p.targetVolume → p.refusalPressure ≤ pressure → v ≤ p.refusalFlow →
    p.refusalCount ≤ min 255 (w.refusals + 1) →
    let left : Record := { rec with
      groutVolume := some (match rec.groutVolume with
        | none => min 16777215 (w.volume + v)
        | some g => min 16777215 (g + min 16777215 (w.volume + v)))
      groutEnd := some .refusal }
    ∃ t, exec (.refusal pos slot) s = .next t ∧ t.input (.chan c .groutFlow) = some r ∧ t.sent = [slot] ∧
      (p.acceptRefusal = true → StepLeft (min 256 (ch.index + 1)) c u t ∧ (t.chan c).record = some left) ∧
      (p.acceptRefusal = false → st.onFail = .divert → StepLeft st.divert c u t ∧ (t.chan c).record = some left) ∧
      (p.acceptRefusal = false → st.onFail = .cont → StepLeft (min 256 (ch.index + 1)) c u t ∧
        (t.chan c).record = some { left with failedChecks := min 255 (rec.failedChecks + 1) }) ∧
      (p.acceptRefusal = false → st.onFail = .halt → (t.chan c).state = .faulted ∧ (t.chan c).fault = some .refusal ∧
        (t.chan c).record = some { rec with fault := some .refusal } ∧ (t.chan c).phase = .active ∧
        (t.chan c).index = ch.index ∧ t.mgmt.latched.channelFault = true ∧
        (t.chan c).work = .inject { w with
          standing := .none, volume := min 16777215 (w.volume + v), refusals := 0, endReason := some .refusal })

/-- R71 to R73, R75, R76, R94, R99: the flow and payout samples that measure a step's own quantity, completing it at its
target, and the refusal that ends an INJECT. -/
def Obligations.FlowAndPayoutSamplesAreCounted : Prop :=
  FlowSampleFillsInject ∧ PayoutSampleMeasuresProgress ∧ RefusalEndsInject

/-- R74: the pressure sample above pressure ceiling + over margin that brings the over count of a RUNNING or FROZEN
ACTIVE INJECT to the persistence faults the channel with OVERPRESSURE; the suspended step keeps the count, its claim
withdrawn (R16). -/
def Sys2Proof.Machine.OverpressureFaultsChannel : Prop :=
  ∀ (pos : Nat) (slot : Slot) (c : Chan) (v : Nat) (st : Step) (p : InjectStep) (w : InjectWork) (r : InputRecord)
    (s : State), Accepts (settle s) pos slot (.chan c .groutPressure) r → r.value = v →
    let u := settle s
    let ch := u.chan c
    ch.state = .running ∨ ch.state = .frozen → ch.phase = .active → u.currentStep c = some st → st.body = .inject p →
    ch.work = .inject w → p.pressureCeiling + ch.config.overMargin < v →
    ch.config.overPersistence ≤ min 255 (w.overs + 1) →
    ∃ t, exec (.overpressure pos slot) s = .next t ∧ (t.chan c).state = .faulted ∧
      (t.chan c).fault = some .overpressure ∧
      (t.chan c).record = (ch.record.map fun (x : Record) => { x with fault := some .overpressure }) ∧
      (t.chan c).work = .inject { w with standing := .none, refusals := 0, overs := min 255 (w.overs + 1) } ∧
      (t.chan c).phase = .active ∧ (t.chan c).index = ch.index ∧ (t.chan c).profile = ch.profile ∧
      t.mgmt.latched = { u.mgmt.latched with channelFault := true } ∧ OthersKept c u t ∧
      t.input (.chan c .groutPressure) = some r ∧ t.sent = [slot]

/-- R96, R97: the tension sample above the tension limit that brings the tension count of a RUNNING or FROZEN ACTIVE
PAYOUT to the persistence faults the channel with TENSION_LIMIT; the tension hold is set. -/
def Sys2Proof.Machine.TensionLimitFaultsChannel : Prop :=
  ∀ (pos : Nat) (slot : Slot) (c : Chan) (v : Nat) (w : PayoutWork) (r : InputRecord) (s : State),
    Accepts (settle s) pos slot (.chan c .winchTension) r → r.value = v →
    let u := settle s
    let ch := u.chan c
    ch.state = .running ∨ ch.state = .frozen → ch.phase = .active → ch.work = .payout w → ch.config.tensionLimit < v →
    ch.config.tensionPersistence ≤ min 255 (w.tension + 1) →
    ∃ t, exec (.tensionLimit pos slot) s = .next t ∧ (t.chan c).state = .faulted ∧
      (t.chan c).fault = some .tensionLimit ∧
      (t.chan c).record = (ch.record.map fun (x : Record) => { x with fault := some .tensionLimit }) ∧
      (t.chan c).work = .payout { w with hold := true, tension := min 255 (w.tension + 1) } ∧
      (t.chan c).phase = .active ∧ (t.chan c).index = ch.index ∧ (t.chan c).profile = ch.profile ∧
      t.mgmt.latched = { u.mgmt.latched with channelFault := true } ∧ OthersKept c u t ∧
      t.input (.chan c .winchTension) = some r ∧ t.sent = [slot]

/-- R52, R74, R96, R97: the three counts of excess at a sample. Above its limit a sample counts, saturating at 255, and at
or below it the count is 0; below its persistence the count raises no fault. The overload count is kept in every state
but IDLE, the others by the ACTIVE step of a RUNNING or FROZEN channel. A tension sample sets or clears the tension
hold. -/
def Sys2Proof.Machine.ExcessesAreCounted : Prop :=
  ∀ (pos : Nat) (slot : Slot) (c : Chan) (m : Measurand) (v : Nat) (r : InputRecord) (s : State),
    Accepts (settle s) pos slot (.chan c m) r → r.value = v →
    let u := settle s
    let ch := u.chan c
    let live := ch.state = .running ∨ ch.state = .frozen
    ∃ t, exec (.sampleSlot pos slot) s = .next t ∧
      (m = .jackLoad → ch.state ≠ .idle →
        (t.chan c).jack.overloads = (if ch.config.overloadLimit < v then min 255 (ch.jack.overloads + 1) else 0) ∧
        (NoOverload ch v → (t.chan c).fault = some .overload → ch.fault = some .overload)) ∧
      (m = .jackLoad → ch.state = .idle → (t.chan c).jack = ch.jack) ∧
      (∀ st p w, m = .groutPressure → live → ch.phase = .active → u.currentStep c = some st → st.body = .inject p →
        ch.work = .inject w →
        let limit := p.pressureCeiling + ch.config.overMargin
        (limit < v → min 255 (w.overs + 1) < ch.config.overPersistence →
          ClaimMoved (.inject { w with overs := min 255 (w.overs + 1) }) (t.chan c).work ∧ (t.chan c).fault = ch.fault) ∧
        (v ≤ limit → ClaimMoved (.inject { w with overs := 0 }) (t.chan c).work ∧ (t.chan c).fault = ch.fault)) ∧
      (∀ w, m = .winchTension → live → ch.phase = .active → ch.work = .payout w →
        (ch.config.tensionLimit < v → min 255 (w.tension + 1) < ch.config.tensionPersistence →
          (t.chan c).work = .payout { w with hold := true, tension := min 255 (w.tension + 1) } ∧
          (t.chan c).fault = ch.fault) ∧
        (v ≤ ch.config.tensionLimit → (t.chan c).work = .payout { w with hold := false, tension := 0 } ∧
          (t.chan c).fault = ch.fault))

/-- R52, R74, R96, R97: the three sample checks, which count and clear and fault a channel once their count reaches its
persistence. -/
def Obligations.ExcessesFaultChannel : Prop :=
  OverloadFaultsChannel ∧ OverpressureFaultsChannel ∧ TensionLimitFaultsChannel ∧ ExcessesAreCounted

/-! ### Command slots -/

/-- R47, R48: the valve demand and the integral of one jack computation at error `e` = setpoint − load: 0 within the
deadband; I moves by e × Ki within Imax unless the output would leave ±1000 in the error's direction; the demand is
e × Kp + I shifted right by 12 and limited to ±1000. -/
def Sys2Proof.Machine.JackComputes (k : ChannelConfig) (setpoint load : Nat) (i i' u : Int) : Prop :=
  let e : Int := if ((setpoint : Int) - load).natAbs ≤ k.deadband then 0 else (setpoint : Int) - load
  let candidate := max (-(k.imax : Int)) (min k.imax (i + e * k.ki))
  let raw := (e * k.kp + candidate) / 4096
  let winds := (1000 < raw ∧ 0 < e) ∨ (raw < -1000 ∧ e < 0)
  (winds → i' = i ∧ u = max (-1000) (min 1000 ((e * k.kp + i) / 4096))) ∧
  (¬ winds → i' = candidate ∧ u = max (-1000) (min 1000 raw))

/-- R46 to R49, R159: the jack command slot of channel `c` passes. The loop computes while the channel is RUNNING in an
ACTIVE RAMP, HOLD or RELEASING LOCKOFF with its JACK_LOAD available; otherwise the demand is 0 and I is kept. The slot
carries the demand, the wedge flag and the tag; nothing else changes. -/
def Obligations.JackCommandWritesDemand : Prop :=
  ∀ (pos : Nat) (x : Slot) (c : Chan) (s : State), SlotAt (settle s) pos (.command (.jack c)) →
    let u := settle s
    let ch := u.chan c
    let drives := (∃ w, ch.work = .ramp w) ∨ (∃ w, ch.work = .hold w) ∨ ∃ w, ch.work = .lockoff w ∧ w.phase = .releasing
    let written (i valve : Int) : State :=
      { u.setChan c { ch with jack := { ch.jack with integral := i, lastValve := valve } } with
        line := { u.line with slotPos := pos }, sent := [jackSlot valve ch.wedge (u.line.count % 256)] }
    (∀ load, ch.state = .running → ch.phase = .active → drives → u.chanValue c .jackLoad = some load →
      ∃ i valve, JackComputes ch.config (u.setpoint c) load ch.jack.integral i valve ∧
        exec (.jackCommand pos x) s = .next (written i valve)) ∧
    (ch.state ≠ .running ∨ ch.phase ≠ .active ∨ ¬ drives ∨ u.chanValue c .jackLoad = none →
      exec (.jackCommand pos x) s = .next (written ch.jack.integral 0))

/-- R92, R93, R159: the winch command slot of channel `c` passes. A RUNNING channel in an ACTIVE PAYOUT with its start
length present, its tension hold clear and its WINCH_TENSION available drives at the setpoint with the brake off; every
other gives demand 0 with the brake on. What is written is held as the last demand and brake; nothing else changes. -/
def Sys2Proof.Machine.WinchCommandDrivesOrBrakes : Prop :=
  ∀ (pos : Nat) (x : Slot) (c : Chan) (s : State), SlotAt (settle s) pos (.command (.winch c)) →
    let u := settle s
    let ch := u.chan c
    let drives := ch.state = .running ∧ ch.phase = .active ∧
      (∃ w, ch.work = .payout w ∧ w.startLength ≠ none ∧ w.hold = false) ∧ u.available (.chan c .winchTension) = true
    let written (demand : Nat) (brake : Bool) : State :=
      { u.setChan c { ch with lastWinch := demand, lastBrake := brake } with
        line := { u.line with slotPos := pos }, sent := [winchSlot demand brake (u.line.count % 256)] }
    (drives → exec (.winchCommand pos x) s = .next (written (u.setpoint c) false)) ∧
    (¬ drives → exec (.winchCommand pos x) s = .next (written 0 true))

/-- R85, R86, R159: the command slot of pump `p` passes. A GRANTED holder in an INJECT with its GROUT_PRESSURE available
is given (ceiling − pressure) × pgain shifted right by 8, at most the step's demand ceiling; every other case gives 0.
The manifold field is the holder, or the manifold position in FREE. Nothing else changes. -/
def Sys2Proof.Machine.PumpCommandWritesDemand : Prop :=
  ∀ (pos : Nat) (x : Slot) (p : Pump) (s : State), SlotAt (settle s) pos (.command (.pump p)) →
    let u := settle s
    let a := u.arb p
    let written (demand : Nat) (manifold : Option Chan) : State :=
      { u.setArb p { a with lastDemand := demand } with
        line := { u.line with slotPos := pos }, sent := [pumpSlot demand manifold (u.line.count % 256)] }
    (a.state = .free → exec (.pumpCommand pos x) s = .next (written 0 a.manifold)) ∧
    (∀ c, a.state = .switching c → exec (.pumpCommand pos x) s = .next (written 0 (some c))) ∧
    ∀ c, a.state = .granted c →
      (∀ st k pressure, u.currentStep c = some st → st.body = .inject k → u.chanValue c .groutPressure = some pressure →
        exec (.pumpCommand pos x) s = .next
          (written (min k.demandCeiling ((k.pressureCeiling - pressure) * (u.chan c).config.pgain / 256)) (some c))) ∧
      (u.chanValue c .groutPressure = none → exec (.pumpCommand pos x) s = .next (written 0 (some c)))

/-- R85, R86, R92, R93: the winch and pump command slots. -/
def Obligations.WinchAndPumpCommandsAreWritten : Prop :=
  WinchCommandDrivesOrBrakes ∧ PumpCommandWritesDemand

/-! ### Requests: taking and refusing -/

/-- R165: what makes a request window one that the part ignores: slot 1 with a bad check, a reset pending, destination
63 with a kind other than FREEZE (7) and RESUME (8), and any other destination that is not the address of an addressed
part. -/
def Sys2Proof.Machine.Ignored (w : Window) (s : State) : Prop :=
  slotGood w.s1 = false ∨ s.mgmt.resetPending = true ∨
  (requestDestination w = 63 ∧ requestKind w ≠ 7 ∧ requestKind w ≠ 8) ∨
  (requestDestination w ≠ 63 ∧
    (requestDestination w ≠ s.mgmt.address ∨ s.mgmt.address = 0 ∨ 63 ≤ s.mgmt.address))

/-- The rows of the requests, each with its kind and, for a row that is one of several of its kind, what the payload says
where the window is that row's: the table of a LOAD_ENTRY, the selector of a SWAP_BANKS, the timing of a RETARGET. -/
def Sys2Proof.Machine.RequestRows (w : Window) : List (Instr × Nat × Option (Nat × Byte)) :=
  [(.loadEntryHeader w, 1, some (0, 0#8)), (.loadEntryStep w, 1, some (0, 1#8)), (.loadEntrySegment w, 1, some (0, 2#8)),
    (.loadEntryMarkset w, 1, some (0, 3#8)), (.loadEntryScale w, 1, some (0, 4#8)),
    (.loadEntryChannelConfig w, 1, some (0, 5#8)), (.loadEntryWallPoint w, 1, some (0, 6#8)),
    (.loadEntrySlotMap w, 1, some (0, 7#8)), (.loadEntryReportList w, 1, some (0, 8#8)),
    (.loadEntryPartConfig w, 1, some (0, 9#8)), (.readEntry w, 2, none), (.swapBanksSlotMap w, 3, some (0, 0#8)),
    (.swapBanksReportList w, 3, some (0, 1#8)), (.swapBanksBoth w, 3, some (0, 2#8)), (.startProgram w, 4, none),
    (.abortProgram w, 5, none), (.skipStep w, 6, none), (.freeze w, 7, none), (.resume w, 8, none), (.release w, 9, none),
    (.retargetAtEnd w, 10, some (1, 0#8)), (.retargetNow w, 10, some (1, 1#8)), (.setPace w, 11, none),
    (.readChannel w, 12, none), (.readPump w, 13, none), (.readRecord w, 14, none), (.takeRecord w, 15, none),
    (.setBaseline w, 16, none), (.clearWallStop w, 17, none), (.readStatus w, 18, none), (.clearNotices w, 19, none),
    (.resetPart w, 20, none)]

/-- Every row that carries a request window. -/
def Sys2Proof.Machine.WindowRows (w : Window) : List Instr :=
  [.ignoredRequest w, .unknownRequest w] ++ (RequestRows w).map Prod.fst

/-- R147, R156, R165, R180: whatever request row the window is given to, a worked part lets an ignored request pass and is
otherwise as it was. A part that is not worked takes no request: held in reset or in HUNT the window passes, and in
CONFIRM it is counted. -/
def Sys2Proof.Machine.IgnoredRequestChangesNothing : Prop :=
  ∀ (w : Window) (i : Instr) (s : State), i ∈ WindowRows w →
    let u := settle s
    (u.worked = true → u.line.slotPos = 0 → Ignored w u →
      exec i s = .next { u with line := { u.line with slotPos := 8 }, sent := w.slots }) ∧
    WindowPassesUnworked i w s

/-- R156, R165, R167: the eight slots of a worked cycle's request window pass and the Management Unit takes the request
they carry, whichever request row delivers them: every row does with a window what every other does, at the request
window and elsewhere (log entry 2). -/
def Sys2Proof.Machine.WindowIsTakenByItsRequest : Prop :=
  ∀ (w : Window) (i : Instr) (s : State), i ∈ WindowRows w →
    let u := settle s
    exec i s = exec (.ignoredRequest w) s ∧
    (u.worked = true → u.line.slotPos = 0 →
      exec i s = .next (takeWindow w { u with line := { u.line with slotPos := 8 }, sent := w.slots }))

/-- R147, R156, R165, R167, R180: a request window is handed to the Management Unit, which takes its request or ignores
it. -/
def Obligations.RequestWindowIsHandedOver : Prop :=
  IgnoredRequestChangesNothing ∧ WindowIsTakenByItsRequest

/-- R197: the payload length called for by a kind other than LOAD_ENTRY. -/
def Sys2Proof.Machine.KindCalls : Nat → Option Nat
  | 2 => some 4
  | 3 | 5 | 6 | 7 | 8 | 9 | 13 | 14 | 16 | 17 | 18 => some 1
  | 4 | 12 | 19 => some 2
  | 10 => some 10
  | 11 => some 3
  | 15 | 20 => some 0
  | _ => none

/-- R197: the length of an entry of the table of code `t`, by the entry's first byte for a step and for a slot map
entry. -/
def Sys2Proof.Machine.EntryCalls (t : Nat) (kind : Option Byte) : Option Nat :=
  match t with
  | 0 | 6 => some 9
  | 1 => (kind.map BitVec.toNat).bind ([7, 16, 10, 15, 12, 12, 8, 4, 3][·]?)
  | 2 => some 8
  | 3 => some 19
  | 4 => some 5
  | 5 => some 25
  | 7 => (kind.map BitVec.toNat).bind ([1, 4, 2, 1][·]?)
  | 8 => some 3
  | 9 => some 10
  | _ => none

/-- R166, R168, R171, R197: the first three checks of an addressed request, on every request row. A bad check in a used payload
slot gives GARBLED and latches MGMT_GARBLED, for a known kind and an unknown one; a kind outside 1 to 20 gives
UNKNOWN_REQUEST; a payload length that is not the kind's, and for a LOAD_ENTRY neither 3 nor 3 and the entry's length,
gives BAD_VALUE, and so does a LOAD_ENTRY whose selector, 10 to 255, names no table (R171). Nothing else changes. (Which of
several rows of a kind a garbled window, or one whose selection byte is missing or names nothing, belongs to is the
model's, log entry 26: each of them answers it alike.) -/
def Obligations.GarbledAndUnknownAreRefused : Prop :=
  ∀ (w : Window) (s : State),
    let u := settle s
    u.worked = true → u.line.slotPos = 0 → u.mgmt.resetPending = false → 1 ≤ u.mgmt.address → u.mgmt.address ≤ 62 →
    slotGood w.s1 = true → requestDestination w = u.mgmt.address →
    let noticed := { u with mgmt := { u.mgmt with latched := { u.mgmt.latched with mgmtGarbled := true } } }
    let clean := ∀ x ∈ usedSlots w, slotGood x = true
    let garbled := ∃ x ∈ usedSlots w, slotGood x = false
    let bad (i : Instr) : Prop := exec i s = .next (answered w .badValue [] u)
    (¬ (1 ≤ requestKind w ∧ requestKind w ≤ 20) → clean →
      exec (.unknownRequest w) s = .next (answered w .unknownRequest [] u)) ∧
    (¬ (1 ≤ requestKind w ∧ requestKind w ≤ 20) → garbled →
      exec (.unknownRequest w) s = .next (answered w .garbled [] noticed)) ∧
    ∀ (i : Instr) (k : Nat) (chosen : Option (Nat × Byte)), (i, k, chosen) ∈ RequestRows w → requestKind w = k →
      (garbled → exec i s = .next (answered w .garbled [] noticed)) ∧
      (clean →
        (∀ n, KindCalls k = some n → requestLength w ≠ n →
          (∀ at_ b, chosen = some (at_, b) → (requestPayload w)[at_]? = some b ∨ (requestPayload w)[at_]? = none) →
          bad i) ∧
        (k = 1 → requestLength w = 0 → bad i) ∧
        (∀ b, k = 1 → (requestPayload w)[0]? = some b → 9 < b.toNat → bad i) ∧
        ∀ b, chosen = some (0, b) → k = 1 → (requestPayload w)[0]? = some b →
          (requestLength w < 3 → bad i) ∧
          (∀ n, EntryCalls b.toNat (requestPayload w)[3]? = some n → requestLength w ≠ 3 → requestLength w ≠ 3 + n →
            bad i))

/-! ### Requests: tables -/

/-- R6: an entry of a Program Store table loaded: BAD_INDEX beyond the table, BAD_VALUE for an entry that fails its load
checks, IN_USE while the lock count is above 0; otherwise the entry is replaced, and EMPTY clears it. `v` is the entry
read: none where it fails. -/
def Sys2Proof.Machine.StoreLoads {α : Type} (i : Instr) (w : Window) (s : State) (table : Table) (size index : Nat)
    (v : Option (Option α)) (write : Option α → ProgramStore) : Prop :=
  let u := settle s
  (size ≤ index → exec i s = .next (answered w .badIndex [] u)) ∧
  (index < size → v = none → exec i s = .next (answered w .badValue [] u)) ∧
  (∀ e, index < size → v = some e → 0 < u.store.locks table index → exec i s = .next (answered w .inUse [] u)) ∧
  ∀ e, index < size → v = some e → u.store.locks table index = 0 →
    exec i s = .next (answered w .ok [] { u with store := write e })

/-- The entry of a load of `n` bytes whose bytes follow the index, EMPTY where none do; none where the load checks
fail. -/
def Sys2Proof.Machine.EntryRead {α : Type} (decode : List Byte → Option α) (ok : α → Bool) (entry : List Byte) : Option (Option α) :=
  if entry = [] then some none
  else match decode entry with
    | none => none
    | some e => if ok e = true then some (some e) else none

/-- R1 to R3, R5, R6, R28, R166, R171: LOAD_ENTRY of a header, a step, a segment and a mark set: EMPTY, or an entry of
the length its table and kind give; any other length gives BAD_VALUE before the index is looked at,
and a step kind that is not defined gives BAD_VALUE for an index of the table. -/
def Obligations.StoreLoadsCheckIndexValueLock : Prop :=
  ∀ (hi lo : Byte) (entry : List Byte) (w : Window) (s : State),
    let index := 256 * hi.toNat + lo.toNat
    let st := (settle s).store
    (Addressed 1 (0#8 :: hi :: lo :: entry) w (settle s) → entry = [] ∨ entry.length = 9 →
      StoreLoads (.loadEntryHeader w) w s .header 32 index (EntryRead decodeHeader Header.ok entry)
        fun e => { st with headers := Sparse.set none st.headers index e }) ∧
    (Addressed 1 (1#8 :: hi :: lo :: entry) w (settle s) →
        entry = [] ∨ stepLength (natAt entry 0 1) = some entry.length →
      StoreLoads (.loadEntryStep w) w s .step 1024 index (EntryRead decodeStep Step.ok entry)
        fun e => { st with steps := Sparse.set none st.steps index e }) ∧
    (Addressed 1 (2#8 :: hi :: lo :: entry) w (settle s) → entry = [] ∨ entry.length = 8 →
      StoreLoads (.loadEntrySegment w) w s .segment 512 index (EntryRead decodeSegment Segment.ok entry)
        fun e => { st with segments := Sparse.set none st.segments index e }) ∧
    (Addressed 1 (3#8 :: hi :: lo :: entry) w (settle s) → entry = [] ∨ entry.length = 19 →
      StoreLoads (.loadEntryMarkset w) w s .markset 32 index (EntryRead decodeMarkSet markSetOk entry)
        fun e => { st with markSets := Sparse.set none st.markSets index e }) ∧
    let short (i : Instr) : Prop := exec i s = .next (answered w .badValue [] (settle s))
    (Addressed 1 (0#8 :: hi :: lo :: entry) w (settle s) → entry ≠ [] → entry.length ≠ 9 → short (.loadEntryHeader w)) ∧
    (∀ n, Addressed 1 (1#8 :: hi :: lo :: entry) w (settle s) → entry ≠ [] → stepLength (natAt entry 0 1) = some n →
      entry.length ≠ n → short (.loadEntryStep w)) ∧
    (Addressed 1 (1#8 :: hi :: lo :: entry) w (settle s) → entry ≠ [] → stepLength (natAt entry 0 1) = none →
      index < 1024 → short (.loadEntryStep w)) ∧
    (Addressed 1 (2#8 :: hi :: lo :: entry) w (settle s) → entry ≠ [] → entry.length ≠ 8 → short (.loadEntrySegment w)) ∧
    (Addressed 1 (3#8 :: hi :: lo :: entry) w (settle s) → entry ≠ [] → entry.length ≠ 19 → short (.loadEntryMarkset w))

/-- R133, R160, R171: LOAD_ENTRY of the scale table and of the slot map's shadow bank. A scale entry carries no lock. A
COMMAND that stands in the shadow bank at another position gives BAD_VALUE, and EMPTY loads PASS. -/
def Sys2Proof.Machine.ScaleAndSlotMapLoads : Prop :=
  ∀ (hi lo : Byte) (entry : List Byte) (w : Window) (s : State),
    let index := 256 * hi.toNat + lo.toNat
    let u := settle s
    let done (i : Instr) (status : Status) (t : State) : Prop := exec i s = .next (answered w status [] t)
    (Addressed 1 (4#8 :: hi :: lo :: entry) w u → entry = [] ∨ entry.length = 5 →
      let v := EntryRead decodeScale ScaleEntry.ok entry
      (48 ≤ index → done (.loadEntryScale w) .badIndex u) ∧
      (index < 48 → v = none → done (.loadEntryScale w) .badValue u) ∧
      ∀ e, index < 48 → v = some e →
        done (.loadEntryScale w) .ok { u with scales := Sparse.set none u.scales index e }) ∧
    (Addressed 1 (7#8 :: hi :: lo :: entry) w u → entry = [] ∨ slotEntryLength (natAt entry 0 1) = some entry.length →
      let v := EntryRead decodeSlotEntry SlotEntry.ok entry
      let stands (e : SlotEntry) : Prop := ∃ k pos, e = .command k ∧ pos ≠ index ∧ (pos, SlotEntry.command k) ∈ u.line.shadow
      (index < 17 ∨ 239 < index → done (.loadEntrySlotMap w) .badIndex u) ∧
      (17 ≤ index → index ≤ 239 → v = none → done (.loadEntrySlotMap w) .badValue u) ∧
      (∀ e, 17 ≤ index → index ≤ 239 → v = some (some e) → stands e → done (.loadEntrySlotMap w) .badValue u) ∧
      ∀ e, 17 ≤ index → index ≤ 239 → v = some e → ¬ stands (e.getD .pass) →
        done (.loadEntrySlotMap w) .ok
          { u with line := { u.line with shadow := Sparse.set .pass u.line.shadow index (e.getD .pass) } })

/-- R190: LOAD_ENTRY of the shadow report list replaces below its length, appends at it, refuses a gap above it with
WRONG_STATE, and truncates for EMPTY. -/
def Sys2Proof.Machine.ReportListLoads : Prop :=
  ∀ (hi lo : Byte) (entry : List Byte) (w : Window) (s : State),
    let index := 256 * hi.toNat + lo.toNat
    let u := settle s
    let l := u.reports.shadow
    let done (status : Status) (t : State) : Prop := exec (.loadEntryReportList w) s = .next (answered w status [] t)
    Addressed 1 (8#8 :: hi :: lo :: entry) w u → entry = [] ∨ entry.length = 3 →
    (63 < index → done .badIndex u) ∧
    (index ≤ 63 → entry ≠ [] → decodeReportEntry entry = none → done .badValue u) ∧
    (∀ e, index ≤ 63 → entry ≠ [] → decodeReportEntry entry = some e →
      (l.length < index → done .wrongState u) ∧
      (index < l.length → done .ok { u with reports := { u.reports with shadow := l.set index e } }) ∧
      (index = l.length → done .ok { u with reports := { u.reports with shadow := l ++ [e] } })) ∧
    (index ≤ 63 → entry = [] → done .ok { u with reports := { u.reports with shadow := l.take index } })

/-- R24, R179: LOAD_ENTRY of a channel configuration, refused with IN_USE before its value is looked at unless the
channel is IDLE, and of the part configuration, refused with IN_USE for a tenure or switch time that differs from the
one held while a pump is SWITCHING or GRANTED. EMPTY restores the defaults. -/
def Sys2Proof.Machine.ConfigurationLoads : Prop :=
  ∀ (hi lo : Byte) (entry : List Byte) (w : Window) (s : State),
    let index := 256 * hi.toNat + lo.toNat
    let u := settle s
    let done (i : Instr) (status : Status) (t : State) : Prop := exec i s = .next (answered w status [] t)
    (Addressed 1 (5#8 :: hi :: lo :: entry) w u → entry = [] ∨ entry.length = 25 →
      let v := EntryRead decodeChannelConfig ChannelConfig.ok entry
      (7 < index → done (.loadEntryChannelConfig w) .badIndex u) ∧
      ∀ c : Chan, c.val = index →
        ((u.chan c).state ≠ .idle → done (.loadEntryChannelConfig w) .inUse u) ∧
        ((u.chan c).state = .idle → v = none → done (.loadEntryChannelConfig w) .badValue u) ∧
        ∀ e, (u.chan c).state = .idle → v = some e →
          done (.loadEntryChannelConfig w) .ok
            (u.setChan c { u.chan c with config := e.getD ChannelConfig.defaults })) ∧
    (Addressed 1 (9#8 :: hi :: lo :: entry) w u → entry = [] ∨ entry.length = 10 →
      let v := EntryRead decodePartConfig PartConfig.ok entry
      let moves (k : PartConfig) : Prop := k.tenure ≠ u.mgmt.config.tenure ∨ k.switchTime ≠ u.mgmt.config.switchTime
      let inUse : Prop := u.pumpA.state ≠ .free ∨ u.pumpB.state ≠ .free
      (index ≠ 0 → done (.loadEntryPartConfig w) .badIndex u) ∧
      (index = 0 → v = none → done (.loadEntryPartConfig w) .badValue u) ∧
      (∀ e, index = 0 → v = some e → moves (e.getD PartConfig.defaults) → inUse →
        done (.loadEntryPartConfig w) .inUse u) ∧
      ∀ e, index = 0 → v = some e → ¬ (moves (e.getD PartConfig.defaults) ∧ inUse) →
        done (.loadEntryPartConfig w) .ok { u with mgmt := { u.mgmt with config := e.getD PartConfig.defaults } })

/-- R24, R133, R160, R171, R179, R190: loads of the tables that carry no lock count. -/
def Obligations.LoadsOfUnlockedTables : Prop :=
  ScaleAndSlotMapLoads ∧ ReportListLoads ∧ ConfigurationLoads

/-- R114, R118, R119, R122: LOAD_ENTRY of a wall point: BAD_INDEX, BAD_VALUE, IN_USE while the STOP latch is set, in
this order. An accepted one replaces the configuration and classifies the point afresh: disabled NORMAL, enabled
without an available input STALE, and otherwise by the displacement of its current value; a wall state that becomes
STOP reaches the channels. -/
def Obligations.WallPointLoadClassifiesAfresh : Prop :=
  ∀ (hi lo : Byte) (entry : List Byte) (w : Window) (s : State),
    let index := 256 * hi.toNat + lo.toNat
    let u := settle s
    let v := EntryRead decodeWallConfig WallConfig.ok entry
    Addressed 1 (6#8 :: hi :: lo :: entry) w u → entry = [] ∨ entry.length = 9 →
    (15 < index → exec (.loadEntryWallPoint w) s = .next (answered w .badIndex [] u)) ∧
    (index ≤ 15 → v = none → exec (.loadEntryWallPoint w) s = .next (answered w .badValue [] u)) ∧
    ∀ (p : Point) (e : Option WallConfig), p.val = index → v = some e →
      ((u.wall p).latch = true → exec (.loadEntryWallPoint w) s = .next (answered w .inUse [] u)) ∧
      ((u.wall p).latch = false →
        let k := e.getD WallConfig.defaults
        ∃ t, exec (.loadEntryWallPoint w) s = .next (answered w .ok [] t) ∧ (t.wall p).config = k ∧
          (∀ q, q ≠ p → t.wall q = u.wall q) ∧
          (k.enable = false → (t.wall p).state = .normal ∧ (t.wall p).latch = false) ∧
          (k.enable = true → u.availableValue (.wallMove p) = none →
            (t.wall p).state = .stale ∧ (t.wall p).latch = false) ∧
          (∀ x, k.enable = true → u.availableValue (.wallMove p) = some x →
            let d := (x - k.baseline).natAbs
            (k.stop ≤ d → (t.wall p).state = .stop ∧ (t.wall p).latch = true) ∧
            (d < k.stop → k.warn ≤ d → (t.wall p).state = .warn ∧ (t.wall p).latch = false) ∧
            (d < k.stop → d < k.warn → (t.wall p).state = .normal ∧ (t.wall p).latch = false)) ∧
          (u.wallState ≠ .stop → t.wallState = .stop → CauseReaches .wallStop (fun _ => True) u t) ∧
          (u.wallState = .stop ∨ t.wallState ≠ .stop → ∀ c, t.chan c = u.chan c) ∧
          t.store = u.store ∧ t.inputs = u.inputs ∧ t.records = u.records ∧ t.mgmt = u.mgmt)

/-- R172, R197: READ_ENTRY: BAD_VALUE for a selector that names no table, BAD_INDEX outside the table, BAD_VALUE for a
bank other than ACTIVE (0) and SHADOW (1) of the slot map or report list. Otherwise OK with the entry as it stands: a
Program Store entry with its lock count, a wall point with its state, latch, displacement and input record. Nothing
changes. (The bytes of an EMPTY entry are free, log entry 7, and no clause names them. A wall point without an input
record has its five record fields all ones, log entry 16. That a bad index is answered before a bad bank is the model's
choice, log entry 39.) -/
def Obligations.ReadEntryReturnsEntry : Prop :=
  ∀ (table hi lo bank : Byte) (w : Window) (s : State),
    let u := settle s
    let i := 256 * hi.toNat + lo.toNat
    let done (status : Status) (fs : List Field) : Prop := exec (.readEntry w) s = .next (answered w status fs u)
    Addressed 2 [table, hi, lo, bank] w u →
    (9 < table.toNat → done .badValue []) ∧
    (table = 0#8 ∧ 31 < i ∨ table = 1#8 ∧ 1023 < i ∨ table = 2#8 ∧ 511 < i ∨ table = 3#8 ∧ 31 < i ∨
      table = 4#8 ∧ 47 < i ∨ table = 5#8 ∧ 7 < i ∨ table = 6#8 ∧ 15 < i ∨ table = 7#8 ∧ (i < 17 ∨ 239 < i) ∨
      table = 8#8 ∧ 63 < i ∨ table = 9#8 ∧ i ≠ 0 → done .badIndex []) ∧
    (table = 7#8 ∧ 17 ≤ i ∧ i ≤ 239 ∨ table = 8#8 ∧ i ≤ 63 → 1 < bank.toNat → done .badValue []) ∧
    (∀ h, table = 0#8 → i ≤ 31 → u.store.header i = some h → done .ok (h.fields ++ [fNat 1 (u.store.locks .header i)])) ∧
    (∀ x, table = 1#8 → i ≤ 1023 → u.store.step i = some x → done .ok (x.fields ++ [fNat 1 (u.store.locks .step i)])) ∧
    (∀ g, table = 2#8 → i ≤ 511 → u.store.segment i = some g →
      done .ok (g.fields ++ [fNat 1 (u.store.locks .segment i)])) ∧
    (∀ m, table = 3#8 → i ≤ 31 → u.store.markSet i = some m →
      done .ok (markSetFields m ++ [fNat 1 (u.store.locks .markset i)])) ∧
    (∀ e, table = 4#8 → i ≤ 47 → Sparse.get none u.scales i = some e → done .ok e.fields) ∧
    (∀ c : Chan, table = 5#8 → c.val = i → done .ok (u.chan c).config.fields) ∧
    (∀ p : Point, table = 6#8 → p.val = i → done .ok ((u.wall p).config.fields ++
      [fNat 1 (u.wall p).state.code, fFlag (u.wall p).latch,
        fOpt 2 ((u.availableValue (.wallMove p)).map fun v => (v - (u.wall p).config.baseline).natAbs)] ++
      recordFields 2 (u.input (.wallMove p)))) ∧
    (table = 7#8 → 17 ≤ i → i ≤ 239 → bank = 0#8 → done .ok (bankEntry u.line.active i).fields) ∧
    (table = 7#8 → 17 ≤ i → i ≤ 239 → bank = 1#8 → done .ok (bankEntry u.line.shadow i).fields) ∧
    (∀ e, table = 8#8 → i ≤ 63 → bank = 0#8 → u.reports.active[i]? = some e →
      done .ok (e.fields ++ [fNat 1 u.reports.active.length])) ∧
    (∀ e, table = 8#8 → i ≤ 63 → bank = 1#8 → u.reports.shadow[i]? = some e →
      done .ok (e.fields ++ [fNat 1 u.reports.shadow.length])) ∧
    (table = 9#8 → i = 0 → done .ok u.mgmt.config.fields)

/-- R161, R173, R193, R197: SWAP_BANKS sets the swap-pending flag of each bank pair named, and a selector above 2 gives
BAD_VALUE on every row (that it does so on every row is the model's, log entry 26). -/
def Sys2Proof.Machine.SwapBanksSetsFlags : Prop :=
  ∀ (sel : Byte) (w : Window) (s : State),
    let u := settle s
    let map := { u.line with swapPending := true }
    let list := { u.reports with swapPending := true }
    Addressed 3 [sel] w u →
    (sel = 0#8 → exec (.swapBanksSlotMap w) s = .next (answered w .ok [] { u with line := map })) ∧
    (sel = 1#8 → exec (.swapBanksReportList w) s = .next (answered w .ok [] { u with reports := list })) ∧
    (sel = 2#8 → exec (.swapBanksBoth w) s = .next (answered w .ok [] { u with line := map, reports := list })) ∧
    (2 < sel.toNat → exec (.swapBanksSlotMap w) s = .next (answered w .badValue [] u) ∧
      exec (.swapBanksReportList w) s = .next (answered w .badValue [] u) ∧
      exec (.swapBanksBoth w) s = .next (answered w .badValue [] u))

/-! ### Requests: programs -/

/-- R4, R5: counting a program's lock set raises the lock count of its header, of each entry of its step and segment
windows and of each mark set a HOLD of its step window names by one, and of no other entry; the store's entries stay.
Letting it go lowers the same counts by one. -/
def Sys2Proof.Machine.LockSetIsCounted : Prop :=
  ∀ (i : Nat) (h : Header) (s : State), s.store.header i = some h →
    let inSet (t : Table) (k : Nat) : Prop :=
      (t = .header ∧ k = i) ∨ (t = .step ∧ h.stepFirst ≤ k ∧ k < h.stepFirst + h.stepCount) ∨
      (t = .segment ∧ h.segFirst ≤ k ∧ k < h.segFirst + h.segCount) ∨
      (t = .markset ∧ k < 32 ∧ ∃ n st p, n < h.stepCount ∧ s.store.step (h.stepFirst + n) = some st ∧
        st.body = .hold p ∧ p.markSet = k)
    (∀ t k, inSet t k → (s.lockProgram i).store.locks t k = s.store.locks t k + 1 ∧
      (s.unlockProgram i).store.locks t k = s.store.locks t k - 1) ∧
    (∀ t k, ¬ inSet t k → (s.lockProgram i).store.locks t k = s.store.locks t k ∧
      (s.unlockProgram i).store.locks t k = s.store.locks t k) ∧
    (s.lockProgram i).store.headers = s.store.headers ∧ (s.lockProgram i).store.steps = s.store.steps ∧
    (s.lockProgram i).store.segments = s.store.segments ∧ (s.lockProgram i).store.markSets = s.store.markSets

/-- R9, R23, R39, R50, R52, R101: channel `c` as the program of header `i` starts on it: index 0 in phase TAKE_UP, a
record opened with the tag and the site cycle count, the generator cleared with its pace kept, the integral 0. A wall
at STOP and an asserted panel add their causes, and a set that is not empty makes it FROZEN instead of RUNNING. -/
def Sys2Proof.Machine.Started (i tag : Nat) (c : Chan) (u : State) : Channel :=
  let ch := u.chan c
  let f := { ch.freeze with
    wallStop := ch.freeze.wallStop || decide (u.wallState = .stop), panel := ch.freeze.panel || u.pins.panel }
  { ch with
    state := if f.isEmpty = true then .running else .frozen
    freeze := f, fault := none, program := some i, index := 0, phase := .takeUp, work := .none
    record := some { channel := c, tag := tag, outcome := none, fault := none, startCount := u.line.count
                     endCount := none, peakLoad := 0, lockoffLoad := none, residualLoad := none, groutVolume := none
                     groutEnd := none, payoutLength := none, holdCount := 0, holds := [], failedChecks := 0
                     overrides := 0, lastIndex := 0 }
    filed := none, lastCreep := none
    profile := { ch.profile with
      acc := 0, ceiling := 0, phase := 0, status := .inactive, working := none, reload := none, staged := none
      remaining := 0, segsLeft := 0, limited := false }
    jack := { ch.jack with integral := 0, overloads := 0 } }

/-- R8 to R10: START_PROGRAM's checks in order, and its two ways: a program started at once on an IDLE channel, or
placed in the pending slot of any other. Either counts the program's lock set. -/
def Sys2Proof.Machine.StartProgramStartsOrWaits : Prop :=
  ∀ (b₁ b₂ : Byte) (w : Window) (s : State),
    let u := settle s
    let i := b₂.toNat
    let done (status : Status) (fs : List Field) (t : State) : Prop :=
      exec (.startProgram w) s = .next (answered w status fs t)
    Addressed 4 [b₁, b₂] w u →
    (7 < b₁.toNat ∨ 31 < i → done .badIndex [] u) ∧
    ∀ c : Chan, c.val = b₁.toNat → i ≤ 31 →
      ((u.chan c).state ≠ .idle → (u.chan c).pendingProgram ≠ none → done .pendingFull [] u) ∧
      ((u.chan c).state = .idle ∨ (u.chan c).pendingProgram = none →
        (u.store.header i = none → done .empty [] u) ∧
        ∀ h, u.store.header i = some h →
          (u.store.step h.stepFirst = none → done .empty [] u) ∧
          (u.store.step h.stepFirst ≠ none → (u.chan c).state = .idle →
            done .ok [fNat 1 0, fNat 1 (Started i h.tag c u).state.code]
              ((u.lockProgram i).setChan c (Started i h.tag c u))) ∧
          (u.store.step h.stepFirst ≠ none → (u.chan c).state ≠ .idle →
            done .ok [fNat 1 1, fNat 1 (u.chan c).state.code]
              ((u.lockProgram i).setChan c { u.chan c with pendingProgram := some i })))

/-- R4, R5, R8 to R10: a program is started or placed, and its lock set counted. (That next segment is kept when a program
starts is the model's, log entry 27.) -/
def Obligations.StartProgramLocksAndStarts : Prop :=
  LockSetIsCounted ∧ StartProgramStartsOrWaits

/-- R10, R21: the part with channel `c`'s pending program discarded and its lock set counted down. -/
def Sys2Proof.Machine.PendingDiscarded (c : Chan) (u : State) : State :=
  match (u.chan c).pendingProgram with
  | some j => (u.unlockProgram j).setChan c { u.chan c with pendingProgram := none }
  | none => u

/-- R76, R99: the record of a program whose ACTIVE step, of working fields `work`, is left without its verdict (R13): an
INJECT adds its volume and gives its end reason, a PAYOUT with a start length its progress, and every other kind writes
nothing. -/
def Sys2Proof.Machine.RecordLeft (work : StepWork) (rec : Record) : Record :=
  match work with
  | .inject x => { rec with
      groutVolume := some (match rec.groutVolume with
        | none => x.volume
        | some v => min 16777215 (v + x.volume))
      groutEnd := x.endReason }
  | .payout x => if x.startLength = none then rec else { rec with payoutLength := some x.progress }
  | _ => rec

/-- R38: the generator once the step of working fields `work` is left: INACTIVE with nothing staged or left to load where
the step engaged it, and as it stood otherwise. Its setpoint, bound, phase and pace stand. (Steps remaining and next
segment are not named: log entries 35 and 27.) -/
def Sys2Proof.Machine.GeneratorLeft (work : StepWork) (p q : Profile) : Prop :=
  let engaged := (∃ x, work = .ramp x) ∨ (∃ x, work = .hold x) ∨ (∃ x, work = .lockoff x) ∨ ∃ x, work = .payout x
  q.acc = p.acc ∧ q.ceiling = p.ceiling ∧ q.phase = p.phase ∧ q.limited = p.limited ∧ q.pace = p.pace ∧
  q.stagedPace = p.stagedPace ∧
  (engaged → q.status = .inactive ∧ q.working = none ∧ q.reload = none ∧ q.staged = none ∧ q.segsLeft = 0) ∧
  (¬ engaged → q = p)

/-- R38, R50, R68: what leaving the step of channel `a` without its verdict clears: a LOCKOFF's wedge flag and integral, and
the generator. The last-creep value stands, since no result is appended (R63, R101). -/
def Sys2Proof.Machine.LeavingClears (a b : Channel) : Prop :=
  b.lastCreep = a.lastCreep ∧ GeneratorLeft a.work a.profile b.profile ∧
  (∀ x, a.work = .lockoff x → b.wedge = false ∧ b.jack = { a.jack with integral := 0 }) ∧
  ((∀ x, a.work ≠ .lockoff x) → b.wedge = a.wedge ∧ b.jack = a.jack)

/-- R76, R82: channel `c`, whose INJECT has a claim standing at pump `p`, has left its step: a waiting channel leaves the
queue; from the holder the pump passes on, to FREE when no channel waits, and otherwise to the head of the queue, as a
claim on a FREE pump is granted (R79). -/
def Sys2Proof.Machine.ClaimLeft (p : Pump) (c : Chan) (u t : State) : Prop :=
  let a := u.arb p
  (∀ q, q ≠ p → t.arb q = u.arb q) ∧
  (a.state ≠ .switching c → a.state ≠ .granted c → t.arb p = { a with queue := a.queue.filter (· ≠ c) }) ∧
  (a.state = .switching c ∨ a.state = .granted c →
    (a.queue = [] → (t.arb p).state = .free ∧ (t.arb p).queue = [] ∧ (t.arb p).manifold = a.manifold ∧
      (t.arb p).switchCount = 0 ∧ (t.arb p).tenureCount = 0) ∧
    ∀ (d : Chan) (rest : List Chan), a.queue = d :: rest →
      let direct := a.manifold = some d ∨ u.mgmt.config.switchTime = 0
      (t.arb p).queue = rest ∧ (t.arb p).tenureHeld = u.mgmt.config.tenure ∧
      (t.arb p).switchHeld = u.mgmt.config.switchTime ∧
      (direct → (t.arb p).state = .granted d ∧ (t.arb p).manifold = some d ∧ (t.arb p).tenureCount = 0) ∧
      (¬ direct → (t.arb p).state = .switching d ∧ (t.arb p).manifold = a.manifold ∧ (t.arb p).switchCount = 0))

/-- R76: the pumps once the step of channel `c` is left: its claim is withdrawn, and without one they stay as they are. -/
def Sys2Proof.Machine.PumpsLeft (c : Chan) (u t : State) : Prop :=
  (∀ p x, (u.chan c).config.pump = some p → (u.chan c).work = .inject x → x.standing ≠ .none → ClaimLeft p c u t) ∧
  ((∀ x, (u.chan c).work = .inject x → x.standing = .none) → ∀ p, t.arb p = u.arb p)

/-- R5, R10, R13, R19 to R21, R185: ABORT_PROGRAM. In IDLE it is refused; on a FILING channel the pending program alone is
discarded. Otherwise the pending program is discarded and the program ends, ABORTED from RUNNING or FROZEN and ABANDONED
from FAULTED: the lock set of each is counted down; the ACTIVE step, if there is one, is left with its accounting, R38, R68,
R76 and R99, and no verdict; the record is closed with the site cycle count and the step index and offered; with room in
the queue it is pushed and the channel is IDLE, its integral 0 (R50), and without, the channel is FILING with the record
held, at the tail of the filing list. -/
def Obligations.AbortEndsProgram : Prop :=
  ∀ (b : Byte) (w : Window) (s : State),
    let u := settle s
    let done (status : Status) (fs : List Field) (t : State) : Prop :=
      exec (.abortProgram w) s = .next (answered w status fs t)
    Addressed 5 [b] w u →
    (7 < b.toNat → done .badIndex [] u) ∧
    ∀ c : Chan, c.val = b.toNat →
      ((u.chan c).state = .idle → done .wrongState [] u) ∧
      ((u.chan c).state = .filing → done .ok [fNat 1 4] (PendingDiscarded c u)) ∧
      ∀ rec, (u.chan c).record = some rec →
        (u.chan c).state = .running ∨ (u.chan c).state = .frozen ∨ (u.chan c).state = .faulted →
        let outcome : RunOutcome := if (u.chan c).state = .faulted then .abandoned else .aborted
        let ch := u.chan c
        let left := if ch.phase = .active then RecordLeft ch.work rec else rec
        let r : Record := { left with
          outcome := some outcome, endCount := some u.line.count, lastIndex := ch.index }
        ∃ t : State, ProgramEnds outcome r c (PendingDiscarded c u) t ∧
          (ch.phase = .active → GeneratorLeft ch.work ch.profile (t.chan c).profile ∧ PumpsLeft c u t) ∧
          (ch.phase ≠ .active → (t.chan c).profile = ch.profile ∧ ∀ p, t.arb p = u.arb p) ∧
          (∀ x, ch.phase = .active → ch.work = .lockoff x →
            (t.chan c).wedge = false ∧ (t.chan c).jack.integral = 0) ∧
          (ch.phase ≠ .active ∨ (∀ x, ch.work ≠ .lockoff x) → (t.chan c).wedge = ch.wedge ∧
            (16 ≤ u.records.queue.length → (t.chan c).jack.integral = ch.jack.integral)) ∧
          (u.records.queue.length < 16 → (t.chan c).jack.integral = 0) ∧
          (u.records.queue.length < 16 → done .ok [fNat 1 0] t) ∧ (16 ≤ u.records.queue.length → done .ok [fNat 1 4] t)

/-- R13, R14, R22: SKIP_STEP. Refused in IDLE and FILING. In RUNNING or FROZEN the ACTIVE step is left without its
verdict, or in phase TAKE_UP the index passed over. In FAULTED the suspended step, if there is one, is left, the fault
is cleared, the override counted, and the channel goes RUNNING or FROZEN by its set. The reply names the state and the
index. A step that is left appends no hold result and counts no failed check; the accounting of an INJECT (R76), of a
PAYOUT (R99), of a LOCKOFF (R68) and of the generator (R38) is done. -/
def Obligations.SkipNamesNextIndex : Prop :=
  ∀ (b : Byte) (w : Window) (s : State),
    let u := settle s
    let done (status : Status) (fs : List Field) (t : State) : Prop :=
      exec (.skipStep w) s = .next (answered w status fs t)
    Addressed 6 [b] w u →
    (7 < b.toNat → done .badIndex [] u) ∧
    ∀ c : Chan, c.val = b.toNat →
      let ch := u.chan c
      let next := min 256 (ch.index + 1)
      (ch.state = .idle ∨ ch.state = .filing → done .wrongState [] u) ∧
      (ch.state = .running ∨ ch.state = .frozen → ch.phase = .active →
        ∃ t, done .ok [fNat 1 (t.chan c).state.code, fNat 2 next] t ∧ StepLeft next c u t ∧
          (t.chan c).record = ch.record.map (RecordLeft ch.work) ∧
          (∀ rec, ch.record = some rec → ∃ r, (t.chan c).record = some r ∧ r.holds = rec.holds ∧
            r.holdCount = rec.holdCount ∧ r.failedChecks = rec.failedChecks ∧ r.overrides = rec.overrides ∧
            r.fault = rec.fault) ∧
          LeavingClears ch (t.chan c) ∧ PumpsLeft c u t) ∧
      (ch.state = .running ∨ ch.state = .frozen → ch.phase ≠ .active →
        done .ok [fNat 1 ch.state.code, fNat 2 next] (u.setChan c { ch with index := next })) ∧
      (ch.state = .faulted → ∃ t, done .ok [fNat 1 (t.chan c).state.code, fNat 2 next] t ∧
        (t.chan c).fault = none ∧ (t.chan c).index = next ∧ (t.chan c).phase = .takeUp ∧
        (t.chan c).state = (if (t.chan c).freeze.isEmpty = true then .running else .frozen) ∧
        (ch.phase = .active → (t.chan c).work = .none ∧
          (t.chan c).freeze = { ch.freeze with sampleStale := false } ∧
          (t.chan c).record = ch.record.map (fun rec =>
            { RecordLeft ch.work rec with overrides := min 255 (rec.overrides + 1) }) ∧
          LeavingClears ch (t.chan c) ∧ PumpsLeft c u t) ∧
        (ch.phase ≠ .active → (t.chan c).freeze = ch.freeze ∧ (t.chan c).work = ch.work ∧
          (t.chan c).record = ch.record.map (fun rec => { rec with overrides := min 255 (rec.overrides + 1) }) ∧
          (t.chan c).profile = ch.profile ∧ (t.chan c).jack = ch.jack ∧ (t.chan c).wedge = ch.wedge ∧
          ∀ p, t.arb p = u.arb p) ∧
        (t.chan c).lastCreep = ch.lastCreep ∧
        (∀ rec, ch.record = some rec → ∃ r, (t.chan c).record = some r ∧ r.fault = rec.fault ∧
          r.overrides = min 255 (rec.overrides + 1) ∧ r.failedChecks = rec.failedChecks ∧ r.holds = rec.holds ∧
          r.holdCount = rec.holdCount) ∧
        (t.chan c).program = ch.program ∧ (t.chan c).pendingProgram = ch.pendingProgram ∧
        OthersKept c u t ∧ t.line = u.line ∧ t.store = u.store ∧ t.walls = u.walls ∧ t.records = u.records ∧
        t.mgmt = u.mgmt)

/-- R124, R165: FREEZE adds SUPERVISOR to each named channel that is not IDLE. The addressed one is answered OK with the
named channels that hold it; the broadcast one acts alike and prepares no reply. -/
def Obligations.FreezeAddsSupervisor : Prop :=
  ∀ (b : Byte) (w : Window) (s : State),
    let u := settle s
    let named (c : Chan) : Prop := b.toNat.testBit c.val = true
    (Addressed 7 [b] w u → ∃ (mask : Nat) (t : State), exec (.freeze w) s = .next (answered w .ok [fNat 1 mask] t) ∧
      CauseReaches .supervisor named u t ∧ mask < 256 ∧
      (∀ c : Chan, mask.testBit c.val = true ↔ named c ∧ (t.chan c).freeze.supervisor = true) ∧
      t.line = u.line ∧ t.store = u.store ∧ t.walls = u.walls ∧ t.records = u.records ∧ t.mgmt = u.mgmt ∧
      t.inputs = u.inputs ∧ t.reports = u.reports) ∧
    (u.worked = true → u.line.slotPos = 0 → u.mgmt.resetPending = false → slotGood w.s1 = true →
      requestDestination w = 63 → requestKind w = 7 → requestLength w = 1 → slotGood w.s2 = true → w.s2.b0 = b →
      ∃ t, exec (.freeze w) s = .next t ∧ CauseReaches .supervisor named u t ∧ t.mgmt = u.mgmt ∧ t.sent = w.slots)

/-- R17, R125, R126: RESUME removes from each named channel that is not IDLE the causes whose tests are met: SUPERVISOR
always, PANEL while PANEL_HOLD_IN is released, WALL_STOP while no point is STOP, LINE_LOST while LOCKED. A FROZEN
channel whose set that empties goes RUNNING. The reply carries the named channels still holding a cause, with
WRONG_STATE unless there is none. The broadcast RESUME acts alike and prepares no reply (R165). -/
def Obligations.ResumeRemovesMetCauses : Prop :=
  ∀ (b : Byte) (w : Window) (s : State),
    let u := settle s
    let resumed (t : State) : Prop :=
      (∀ c : Chan, b.toNat.testBit c.val = true → (u.chan c).state ≠ .idle →
        (t.chan c).freeze =
          { supervisor := false
            panel := (u.chan c).freeze.panel && u.pins.panel
            wallStop := (u.chan c).freeze.wallStop && decide (∃ p, (u.wall p).state = .stop)
            lineLost := (u.chan c).freeze.lineLost && decide (u.line.alignment ≠ .locked)
            sampleStale := (u.chan c).freeze.sampleStale } ∧
        (t.chan c).state = (if (u.chan c).state = .frozen ∧ (t.chan c).freeze.isEmpty = true then .running
          else (u.chan c).state) ∧
        (∀ x, (u.chan c).work = .hold x → (u.chan c).state = .frozen → (t.chan c).freeze.isEmpty = true →
          (t.chan c).work = .hold { elapsed := 0, marks := x.marks.map fun _ => none, drift := false
                                    interrupted := min 255 (x.interrupted + 1) })) ∧
      (∀ c : Chan, b.toNat.testBit c.val = false ∨ (u.chan c).state = .idle → KeptAs (u.chan c) (t.chan c)) ∧
      t.store = u.store ∧ t.walls = u.walls ∧ t.records = u.records ∧ t.mgmt = u.mgmt ∧ t.inputs = u.inputs ∧
      t.reports = u.reports
    (Addressed 8 [b] w u → ∃ (mask : Nat) (t : State),
      exec (.resume w) s = .next (answered w (if mask = 0 then .ok else .wrongState) [fNat 1 mask] t) ∧ mask < 256 ∧
      (∀ c : Chan, mask.testBit c.val = true ↔
        b.toNat.testBit c.val = true ∧ (t.chan c).freeze.isEmpty = false) ∧
      resumed t ∧ t.line = u.line) ∧
    (u.worked = true → u.line.slotPos = 0 → u.mgmt.resetPending = false → slotGood w.s1 = true →
      requestDestination w = 63 → requestKind w = 8 → requestLength w = 1 → slotGood w.s2 = true → w.s2.b0 = b →
      ∃ t, exec (.resume w) s = .next t ∧ resumed t ∧ t.line = { u.line with slotPos := 8 } ∧ t.sent = w.slots)

/-- R30, R108: RELEASE sets the release latch of a RUNNING or FROZEN channel's ACTIVE AWAIT whose release set holds
RELEASE, and is refused in every other case; SET_PACE places a pace of 0 to 256 in the staged pace in every channel
state. Nothing else changes. (That a bad channel is answered before a bad pace is the model's choice, log entry 42.) -/
def Obligations.ReleaseAndPaceRequests : Prop :=
  (∀ (b : Byte) (w : Window) (s : State),
    let u := settle s
    Addressed 9 [b] w u →
    (7 < b.toNat → exec (.release w) s = .next (answered w .badIndex [] u)) ∧
    ∀ c : Chan, c.val = b.toNat →
      let met (x : AwaitWork) : Prop := ((u.chan c).state = .running ∨ (u.chan c).state = .frozen) ∧
        (u.chan c).work = .await x ∧
        ∃ st p, u.currentStep c = some st ∧ st.body = .await p ∧ p.releaseSet.release = true
      (∀ x, met x → exec (.release w) s = .next (answered w .ok [] (u.setWork c (.await { x with latch := true })))) ∧
      ((∀ x, ¬ met x) → exec (.release w) s = .next (answered w .wrongState [] u))) ∧
  ∀ (b hi lo : Byte) (w : Window) (s : State),
    let u := settle s
    let pace := 256 * hi.toNat + lo.toNat
    Addressed 11 [b, hi, lo] w u →
    (7 < b.toNat → exec (.setPace w) s = .next (answered w .badIndex [] u)) ∧
    ∀ c : Chan, c.val = b.toNat →
      (256 < pace → exec (.setPace w) s = .next (answered w .badValue [] u)) ∧
      (pace ≤ 256 → exec (.setPace w) s = .next (answered w .ok []
        (u.setChan c { u.chan c with profile := { (u.chan c).profile with stagedPace := some pace } })))

/-- R40 to R43, R54: RETARGET of both timings. A channel above 7 gives BAD_INDEX, a timing other than 0 and 1 or a bad
segment BAD_VALUE, and a channel that is not RUNNING or FROZEN in an ACTIVE RAMP or PAYOUT WRONG_STATE. On an ACTIVE
profile AT_END fills the reload and drops the rest of the run, and NOW fills the staged segment and empties the reload;
on a FINISHED one either restarts the profile, and a RAMP is PROFILING again. (That a timing other than 0 and 1 is
answered BAD_VALUE on both rows is the model's, log entry 26.) -/
def Obligations.RetargetChangesProfile : Prop :=
  ∀ (b timing : Byte) (entry : List Byte) (w : Window) (s : State),
    let u := settle s
    let done (i : Instr) (status : Status) (t : State) : Prop := exec i s = .next (answered w status [] t)
    Addressed 10 (b :: timing :: entry) w u → entry.length = 8 →
    (7 < b.toNat → timing = 0#8 → done (.retargetAtEnd w) .badIndex u) ∧
    (7 < b.toNat → timing = 1#8 → done (.retargetNow w) .badIndex u) ∧
    ∀ c : Chan, c.val = b.toNat →
      let good := ∃ g, decodeSegment entry = some g ∧ g.ok = true
      let ch := u.chan c
      let live := (ch.state = .running ∨ ch.state = .frozen) ∧ ∃ st, u.currentStep c = some st ∧
        ((∃ p, st.body = .ramp p) ∨ ∃ p, st.body = .payout p)
      (1 < timing.toNat → done (.retargetAtEnd w) .badValue u ∧ done (.retargetNow w) .badValue u) ∧
      (timing = 0#8 → ¬ good → done (.retargetAtEnd w) .badValue u) ∧
      (timing = 1#8 → ¬ good → done (.retargetNow w) .badValue u) ∧
      (timing = 0#8 → good → ¬ live → done (.retargetAtEnd w) .wrongState u) ∧
      (timing = 1#8 → good → ¬ live → done (.retargetNow w) .wrongState u) ∧
      ∀ g, decodeSegment entry = some g → g.ok = true → live →
        (ch.profile.status = .active → timing = 0#8 →
          done (.retargetAtEnd w) .ok (u.setChan c { ch with
            profile := { ch.profile with reload := some g, segsLeft := 0 } })) ∧
        (ch.profile.status = .active → timing = 1#8 →
          done (.retargetNow w) .ok (u.setChan c { ch with
            profile := { ch.profile with staged := some g, reload := none, segsLeft := 0 } })) ∧
        (ch.profile.status = .finished →
          let restarted (work : StepWork) : State := u.setChan c { ch with
            work := work
            profile := { ch.profile with staged := some g, reload := none, segsLeft := 0, phase := 0, status := .active } }
          let settling : StepWork := .ramp { phase := .profiling, settle := 0, unsettled := 0 }
          ((∃ x, ch.work = .ramp x) → timing = 0#8 → done (.retargetAtEnd w) .ok (restarted settling)) ∧
          ((∃ x, ch.work = .ramp x) → timing = 1#8 → done (.retargetNow w) .ok (restarted settling)) ∧
          ((∀ x, ch.work ≠ .ramp x) → timing = 0#8 → done (.retargetAtEnd w) .ok (restarted ch.work)) ∧
          ((∀ x, ch.work ≠ .ramp x) → timing = 1#8 → done (.retargetNow w) .ok (restarted ch.work)))

/-! ### Requests: reading -/

/-- R175: what is reported of an input: whether it is bound, whether a record exists, and the record's value (a byte of an
echo, two of any other), valid flag, age, saturated flag and aux, each all ones without a record. -/
def Sys2Proof.Machine.InputReported (u : State) (valueBytes : Nat) (x : Target) : List Field :=
  let r := u.input x
  let flag (b : Bool) : Nat := if b = true then 1 else 0
  [fFlag (u.bound x), fFlag r.isSome, { width := valueBytes, value := r.map fun r => r.value },
    fOpt 1 (r.map fun r => flag r.valid), fOpt 1 (r.map fun r => r.age), fOpt 1 (r.map fun r => flag r.saturated),
    fOpt 1 (r.map fun r => r.aux)]

/-- R53, R58, R64, R69, R89, R102, R105, R175: the working fields that READ_CHANNEL part 2 reports of a step, by its kind. -/
def Sys2Proof.Machine.WorkReported : StepWork → List Field
  | .ramp x => [fNat 1 x.phase.code, fNat 1 x.settle, fNat 2 x.unsettled]
  | .hold x => [fNat 3 x.elapsed] ++ x.marks.map (fOpt 2) ++ [fFlag x.drift, fNat 1 x.interrupted]
  | .lockoff x => [fNat 1 x.phase.code, fNat 2 x.settle, fOpt 2 x.load]
  | .inject x =>
    [fNat 1 x.standing.code, fNat 3 x.volume, fNat 1 x.refusals, fNat 1 x.overs, fOpt 1 (x.endReason.map EndReason.code)]
  | .payout x => [fOpt 2 x.startLength, fNat 2 x.progress, fNat 1 x.tension, fFlag x.hold]
  | .check x => [{ width := 4, value := x.captured }]
  | .await x => [fNat 3 x.elapsed, fFlag x.latch]
  | .none | .signal | .finish => []

/-- R77, R175: what READ_PUMP reports: the pump state, the holder and the manifold position; the wait queue in order, seven
places, and its length; the switch and tenure count, the switch time and tenure held, the last demand; and the pump's
PUMP_ECHO. -/
def Sys2Proof.Machine.PumpReported (u : State) (p : Pump) : List Field :=
  let a := u.arb p
  [fNat 1 a.state.code, fChan a.state.holder, fChan a.manifold, fChan a.queue[0]?, fChan a.queue[1]?, fChan a.queue[2]?,
    fChan a.queue[3]?, fChan a.queue[4]?, fChan a.queue[5]?, fChan a.queue[6]?, fNat 1 a.queue.length,
    fNat 2 a.switchCount, fNat 2 a.tenureCount, fNat 2 a.switchHeld, fNat 2 a.tenureHeld, fNat 2 a.lastDemand] ++
  InputReported u 1 (.pumpEcho p)

/-- R170, R175, R197: READ_CHANNEL and READ_PUMP: BAD_INDEX for a channel above 7, a part above 5 or a pump above 1;
otherwise OK with what the rule lists, and nothing changes. (Widths and absent fields are log entries 13 to 16; the step
kind absent outside ACTIVE is log entry 11, the codes of an INJECT's end reason log entry 17, the steps remaining of a
step that is left log entry 35, and CLOSED in READ_PUMP log entry 37.) -/
def Sys2Proof.Machine.ReadChannelAndPump : Prop :=
  (∀ (b part : Byte) (w : Window) (s : State),
    let u := settle s
    let done (status : Status) (fs : List Field) : Prop := exec (.readChannel w) s = .next (answered w status fs u)
    Addressed 12 [b, part] w u →
    (7 < b.toNat ∨ 5 < part.toNat → done .badIndex []) ∧
    ∀ c : Chan, c.val = b.toNat →
      let ch := u.chan c
      let input (valueBytes : Nat) (m : Measurand) := InputReported u valueBytes (.chan c m)
      (part = 0#8 → done .ok
        [fNat 4 u.line.count, fNat 1 ch.state.code, fNat 1 ch.freeze.mask, fOpt 1 (ch.fault.map FaultCause.code),
          fOpt 1 ch.program, fNat 1 ch.phase.code, fNat 2 ch.index,
          fOpt 1 ((u.currentStep c).map fun st => st.body.kind), fOpt 1 ch.pendingProgram, fFlag ch.peer,
          fInt 2 ch.jack.lastValve, fFlag ch.wedge, fNat 2 ch.lastWinch, fFlag ch.lastBrake]) ∧
      (part = 1#8 → done .ok
        [fNat 1 ch.profile.status.code, fNat 2 (ch.profile.acc / 256), fFlag ch.profile.limited, fNat 2 ch.profile.pace,
          fOpt 2 ch.profile.stagedPace, fNat 2 ch.profile.remaining, fNat 1 ch.profile.segsLeft,
          fFlag ch.profile.staged.isSome]) ∧
      (part = 2#8 → done .ok (WorkReported ch.work)) ∧
      (part = 3#8 → done .ok (input 2 .jackLoad ++ input 2 .anchorLoad ++ input 2 .jackStroke)) ∧
      (part = 4#8 → done .ok (input 2 .groutPressure ++ input 2 .groutFlow ++ input 2 .winchPayout)) ∧
      (part = 5#8 → done .ok (input 2 .winchTension ++ input 1 .jackEcho ++ input 1 .winchEcho))) ∧
  ∀ (b : Byte) (w : Window) (s : State),
    let u := settle s
    Addressed 13 [b] w u →
    (1 < b.toNat → exec (.readPump w) s = .next (answered w .badIndex [] u)) ∧
    (b = 0#8 → exec (.readPump w) s = .next (answered w .ok (PumpReported u .a) u)) ∧
    (b = 1#8 → exec (.readPump w) s = .next (answered w .ok (PumpReported u .b) u))

/-- R176, R177, R184, R186: READ_STATUS and READ_RECORD change nothing; a part beyond the last gives BAD_INDEX, an empty
queue EMPTY. (The digest NONE is sent as FF hex in READ_STATUS, log entry 37.) -/
def Sys2Proof.Machine.ReadStatusAndRecord : Prop :=
  (∀ (part : Byte) (w : Window) (s : State),
    let u := settle s
    let done (status : Status) (fs : List Field) : Prop := exec (.readStatus w) s = .next (answered w status fs u)
    Addressed 18 [part] w u →
    (1 < part.toNat → done .badIndex []) ∧
    (part = 0#8 → done .ok
      [fNat 4 u.line.count, fNat 2 u.line.lastLine, fNat 1 u.line.alignment.code, fOpt 1 u.line.heldN,
        fNat 1 u.line.misses, fFlag u.line.swapPending, fFlag u.reports.swapPending, fNat 1 u.wallState.code,
        fFlag u.pins.panel, fNat 1 u.mgmt.address, fNat 1 u.mgmt.resetCause.code, fNat 1 u.records.queue.length]) ∧
    (part = 1#8 → done .ok
      ([fOpt 1 (u.digest.map NoticeKind.priority), fNat 2 u.pendingNotices, fNat 2 u.mgmt.config.mask.toNat] ++
        [0, 1, 2, 3, 4, 5, 6, 7].map (fun c => fNat 1 (u.chan c).state.code) ++
        [fNat 1 u.pumpA.state.code, fChan u.pumpA.state.holder, fNat 1 u.pumpB.state.code, fChan u.pumpB.state.holder]))) ∧
  ∀ (k : Byte) (w : Window) (s : State),
    let u := settle s
    let done (status : Status) (fs : List Field) : Prop := exec (.readRecord w) s = .next (answered w status fs u)
    Addressed 14 [k] w u →
    (u.records.queue = [] → done .empty []) ∧
    ∀ r rest, u.records.queue = r :: rest →
      (k = 0#8 → done .ok (r.partHeader 0 ++ r.part0)) ∧
      (∀ h, k ≠ 0#8 → r.holds[k.toNat - 1]? = some h → done .ok (r.partHeader k.toNat ++ h.fields)) ∧
      (1 + r.holds.length ≤ k.toNat → done .badIndex [])

/-- R170, R175 to R177, R184: the reading requests. -/
def Obligations.ReadRequestsReturnState : Prop :=
  ReadChannelAndPump ∧ ReadStatusAndRecord

/-- R20, R177, R185, R186: TAKE_RECORD removes the oldest record and is answered with its channel, tag and start count.
With a channel FILING, the place goes to the head of the filing list, whose record is pushed; that channel starts its
pending program or goes IDLE. (Next segment is kept at the start, log entry 27.) -/
def Obligations.TakeRecordFreesPlace : Prop :=
  ∀ (w : Window) (s : State),
    let u := settle s
    Addressed 15 [] w u →
    (u.records.queue = [] → exec (.takeRecord w) s = .next (answered w .empty [] u)) ∧
    ∀ r rest, u.records.queue = r :: rest →
      let done (t : State) : Prop := exec (.takeRecord w) s = .next
        (answered w .ok [fNat 1 r.channel.val, fNat 2 r.tag, fNat 4 r.startCount] t)
      (u.records.filing = [] → done { u with records := { queue := rest, filing := [] } }) ∧
      ∀ c waiting x, u.records.filing = c :: waiting → (u.chan c).filed = some x →
        let pushed := { u with records := { queue := rest ++ [x], filing := waiting } }
        ((u.chan c).pendingProgram = none → done (pushed.setChan c { u.chan c with
          state := .idle, filed := none, freeze := FreezeSet.empty
          jack := { (u.chan c).jack with integral := 0, overloads := 0 } })) ∧
        ∀ i h, (u.chan c).pendingProgram = some i → u.store.header i = some h →
          done (pushed.setChan c { Started i h.tag c u with pendingProgram := none })

/-! ### Requests: wall, notices, reset -/

/-- R115, R116, R120: SET_BASELINE: BAD_INDEX, IN_USE while the latch is set, NO_DATA without an available input. It
takes the input's value as the baseline; an enabled point is then classified at displacement 0, with its state before
as it stood, and a disabled one stays NORMAL. -/
def Sys2Proof.Machine.SetBaselineTakesValue : Prop :=
  ∀ (b : Byte) (w : Window) (s : State),
    let u := settle s
    Addressed 16 [b] w u →
    (15 < b.toNat → exec (.setBaseline w) s = .next (answered w .badIndex [] u)) ∧
    ∀ p : Point, p.val = b.toNat →
      let x := u.wall p
      (x.latch = true → exec (.setBaseline w) s = .next (answered w .inUse [] u)) ∧
      (x.latch = false → u.availableValue (.wallMove p) = none →
        exec (.setBaseline w) s = .next (answered w .noData [] u)) ∧
      ∀ v, x.latch = false → u.availableValue (.wallMove p) = some v →
        let k := { x.config with baseline := v }
        (x.config.enable = false →
          exec (.setBaseline w) s = .next (answered w .ok [fInt 2 v] (u.setWall p { x with config := k }))) ∧
        (x.config.enable = true → 0 < k.stop →
          exec (.setBaseline w) s = .next (answered w .ok [fInt 2 v] (u.setWall p
            { x with
              config := k
              state := if k.warn = 0 ∨ ((x.state = .warn ∨ x.state = .stale) ∧ k.warn ≤ k.hysteresis) then .warn
                else .normal })))

/-- R121, R125: CLEAR_WALL_STOP: BAD_INDEX, WRONG_STATE with the latch clear, NO_DATA without an available input,
WRONG_STATE while the displacement is not below stop threshold − hysteresis. It clears the latch and sets WARN or
NORMAL; no channel loses a cause by it. -/
def Sys2Proof.Machine.ClearWallStopComesDown : Prop :=
  ∀ (b : Byte) (w : Window) (s : State),
    let u := settle s
    Addressed 17 [b] w u →
    (15 < b.toNat → exec (.clearWallStop w) s = .next (answered w .badIndex [] u)) ∧
    ∀ p : Point, p.val = b.toNat →
      let x := u.wall p
      (x.latch = false → exec (.clearWallStop w) s = .next (answered w .wrongState [] u)) ∧
      (x.latch = true → u.availableValue (.wallMove p) = none →
        exec (.clearWallStop w) s = .next (answered w .noData [] u)) ∧
      ∀ v, x.latch = true → u.availableValue (.wallMove p) = some v →
        let d := (v - x.config.baseline).natAbs
        (x.config.stop ≤ d + x.config.hysteresis →
          exec (.clearWallStop w) s = .next (answered w .wrongState [] u)) ∧
        (d + x.config.hysteresis < x.config.stop →
          (x.config.warn ≤ d + x.config.hysteresis → exec (.clearWallStop w) s = .next
            (answered w .ok [fNat 1 1] (u.setWall p { x with state := .warn, latch := false }))) ∧
          (d + x.config.hysteresis < x.config.warn → exec (.clearWallStop w) s = .next
            (answered w .ok [fNat 1 0] (u.setWall p { x with state := .normal, latch := false }))))

/-- R115, R116, R120, R121: the two requests on a wall point. -/
def Obligations.BaselineAndClearWallStop : Prop :=
  SetBaselineTakesValue ∧ ClearWallStopComesDown

/-- R178, R180, R188: CLEAR_NOTICES clears the named latched kinds and answers with the pending set after it (a mask
with a bit beyond the ten kinds is refused, log entry 18). RESET_PART is answered OK and sets reset-pending. -/
def Sys2Proof.Machine.ClearNoticesAndResetPart : Prop :=
  (∀ (hi lo : Byte) (w : Window) (s : State),
    let u := settle s
    let named := 256 * hi.toNat + lo.toNat
    Addressed 19 [hi, lo] w u →
    (1024 ≤ named → exec (.clearNotices w) s = .next (answered w .badValue [] u)) ∧
    (named < 1024 →
      let l := u.mgmt.latched
      let t := { u with mgmt := { u.mgmt with latched :=
        { lineLost := l.lineLost && !named.testBit 1, channelFault := l.channelFault && !named.testBit 2
          sampleStale := l.sampleStale && !named.testBit 6, pumpTenure := l.pumpTenure && !named.testBit 7
          mgmtGarbled := l.mgmtGarbled && !named.testBit 8, reset := l.reset && !named.testBit 9 } } }
      exec (.clearNotices w) s = .next (answered w .ok [fNat 2 t.pendingNotices] t))) ∧
  ∀ (w : Window) (s : State), Addressed 20 [] w (settle s) →
    exec (.resetPart w) s = .next (answered w .ok []
      { settle s with mgmt := { (settle s).mgmt with resetPending := true } })

/-- R161, R173, R178, R180, R188, R193: the requests that set or clear flags of the part itself. -/
def Obligations.SwapNoticeAndResetRequests : Prop :=
  SwapBanksSetsFlags ∧ ClearNoticesAndResetPart

/-! ### Notices -/

/-- R188, R189, R194: a level kind is pending exactly while its condition holds and a latched kind while its latch is
set; the digest is the pending kind of highest priority that the mask does not hide, none when there is none. -/
def Obligations.DigestIsHighestPendingNotice : Prop :=
  ∀ s : State,
    (s.pendingNotice .wallStop = true ↔ s.wallState = .stop) ∧ (s.pendingNotice .wallWarn = true ↔ s.wallState = .warn) ∧
    (s.pendingNotice .recordReady = true ↔ s.records.queue ≠ []) ∧
    (s.pendingNotice .queueFull = true ↔ s.records.filing ≠ []) ∧
    (s.pendingNotice .lineLost = s.mgmt.latched.lineLost) ∧
    (s.pendingNotice .channelFault = s.mgmt.latched.channelFault) ∧
    (s.pendingNotice .sampleStale = s.mgmt.latched.sampleStale) ∧
    (s.pendingNotice .pumpTenure = s.mgmt.latched.pumpTenure) ∧
    (s.pendingNotice .mgmtGarbled = s.mgmt.latched.mgmtGarbled) ∧ (s.pendingNotice .reset = s.mgmt.latched.reset) ∧
    let shown (k : NoticeKind) : Prop :=
      s.pendingNotice k = true ∧ s.mgmt.config.mask.getLsbD k.priority = false
    (∀ k, s.digest = some k ↔ shown k ∧ ∀ j, j.priority < k.priority → ¬ shown j) ∧
    (s.digest = none ↔ ∀ k, ¬ shown k)

/-! ### Encodings -/

/-- R196, R197: every entry that passes its table's load checks is read back whole from the bytes of its fields, and
fills exactly the length its table and kind give. -/
def Sys2Proof.Machine.EntriesReadBackFromTheirBytes : Prop :=
  (∀ h : Header, h.ok = true → decodeHeader (fieldsBytes h.fields) = some h ∧ (fieldsBytes h.fields).length = 9) ∧
  (∀ x : Step, x.ok = true → decodeStep (fieldsBytes x.fields) = some x ∧
    stepLength x.body.kind = some (fieldsBytes x.fields).length ∧ natAt (fieldsBytes x.fields) 0 1 = x.body.kind) ∧
  (∀ g : Segment, g.ok = true → decodeSegment (fieldsBytes g.fields) = some g ∧ (fieldsBytes g.fields).length = 8) ∧
  (∀ m : MarkSet, markSetOk m = true →
    decodeMarkSet (fieldsBytes (markSetFields m)) = some m ∧ (fieldsBytes (markSetFields m)).length = 19) ∧
  (∀ e : ScaleEntry, e.ok = true → decodeScale (fieldsBytes e.fields) = some e ∧ (fieldsBytes e.fields).length = 5) ∧
  (∀ k : ChannelConfig, k.ok = true →
    decodeChannelConfig (fieldsBytes k.fields) = some k ∧ (fieldsBytes k.fields).length = 25) ∧
  (∀ k : WallConfig, k.ok = true →
    decodeWallConfig (fieldsBytes k.fields) = some k ∧ (fieldsBytes k.fields).length = 9) ∧
  (∀ e : SlotEntry, e.ok = true → decodeSlotEntry (fieldsBytes e.fields) = some e ∧
    slotEntryLength (natAt (fieldsBytes e.fields) 0 1) = some (fieldsBytes e.fields).length) ∧
  (∀ e : ReportEntry, decodeReportEntry (fieldsBytes e.fields) = some e ∧ (fieldsBytes e.fields).length = 3) ∧
  ∀ k : PartConfig, k.ok = true →
    decodePartConfig (fieldsBytes k.fields) = some k ∧ (fieldsBytes k.fields).length = 10

/-- R146, R149, R165, R196: the window a supervisor builds for a request is read back whole: destination, kind, tag,
length and payload, with every slot's check good. A sync slot is read back as its N and number, and a sample's raw
value is the signed number of its bytes 1 and 2. -/
def Sys2Proof.Machine.SlotsReadBackWhole : Prop :=
  (∀ (d k : Nat) (tag : Byte) (p : List Byte), d < 256 → k < 256 → p.length ≤ 28 →
    let w := requestWindow d k tag p
    requestDestination w = d ∧ requestKind w = k ∧ requestTag w = tag ∧ requestLength w = p.length ∧
    requestPayload w = p ∧ garbledPayload w = false ∧ slotGood w.s1 = true) ∧
  (∀ n c : Nat, 32 ≤ n → n ≤ 240 → c < 65536 →
    goodSync (makeSlot 0xB5#8 (BitVec.ofNat 8 n) (BitVec.ofNat 8 (c / 256)) (BitVec.ofNat 8 c)) = some (n, c)) ∧
  ∀ (st aux : Byte) (raw : BitVec 16),
    rawValue (makeSlot st (raw.extractLsb' 8 8) (raw.extractLsb' 0 8) aux) = raw.toInt

/-- R147, R199: slots on a line port. A character is ten bits: a low start bit, the data bits most significant first and
the stop bit, which is low in the first of a slot's five characters alone. A receiver delimits consecutive slots from
their bits, and so those sent from the bits at the downstream port. The model's choices (log entry 41): the line rests
high, for any time, between slots; and the characters of a slot whose first ones, or last ones, are missing are dropped,
and the slots after them delimited. -/
def Sys2Proof.Machine.SlotsAreDelimitedOnTheLine : Prop :=
  (∀ x : Character, x.bits.length = 10 ∧ x.bits[0]? = some false ∧ x.bits[9]? = some x.stop ∧
    ∀ i < 8, x.bits[1 + i]? = some (x.data.getMsbD i)) ∧
  (∀ x : Slot, (slotCharacters x).map Character.data = slotData x ++ [x.check] ∧
    (slotCharacters x).map Character.stop = [false, true, true, true, true]) ∧
  (∀ xs : List Slot, (slotsBits xs).length = 50 * xs.length ∧ receivedSlots (slotsBits xs) = xs) ∧
  (∀ s : State, receivedSlots s.sentBits = s.sent) ∧
  (∀ (xs ys : List Slot) (n : Nat),
    receivedSlots (slotsBits xs ++ List.replicate n true ++ slotsBits ys) = xs ++ ys) ∧
  ∀ (xs : List Slot) (x : Slot) (ys : List Slot) (k : Nat), 1 ≤ k → k ≤ 4 →
    receivedSlots (slotsBits xs ++ charactersBits ((slotCharacters x).drop k) ++ slotsBits ys) = xs ++ ys ∧
    receivedSlots (slotsBits xs ++ charactersBits ((slotCharacters x).take k) ++ slotsBits ys) = xs ++ ys

/-- R146, R149, R165, R196, R197, R199: entries, requests, sync slots and samples are read back whole, and slots are
delimited whole from their bits on the line (line at rest and slots cut short: log entry 41). -/
def Obligations.EncodingsReadBackWhole : Prop :=
  EntriesReadBackFromTheirBytes ∧ SlotsReadBackWhole ∧ SlotsAreDelimitedOnTheLine

/-! ### Layouts -/

/-- R49, R86, R93, R159, R191, R196: the slots the part writes. A command slot carries the demand in bytes 0 and 1, most
significant first, the wedge flag, brake or manifold field (FF hex for CLOSED) in byte 2 and the tag in byte 3. A sent
report carries the entry index in bits 5 to 0 and the marker in bits 7 and 6 of byte 0, and the value in bytes 1 to 3;
the IDLE report is FF hex and zeros, and is no report with a marker below 3. Every check is good. -/
def Sys2Proof.Machine.WrittenSlotLayouts : Prop :=
  (∀ (v : Int) (flag : Bool) (tag : Nat), -32768 ≤ v → v ≤ 32767 → tag < 256 →
    let x := jackSlot v flag tag
    (x.b0 ++ x.b1).toInt = v ∧ x.b2 = (if flag then 1#8 else 0#8) ∧ x.b3.toNat = tag ∧ slotGood x = true) ∧
  (∀ (n : Nat) (flag : Bool) (tag : Nat), n < 65536 → tag < 256 →
    let x := winchSlot n flag tag
    (x.b0 ++ x.b1).toNat = n ∧ x.b2 = (if flag then 1#8 else 0#8) ∧ x.b3.toNat = tag ∧ slotGood x = true) ∧
  (∀ (n : Nat) (manifold : Option Chan) (tag : Nat), n < 65536 → tag < 256 →
    let x := pumpSlot n manifold tag
    (x.b0 ++ x.b1).toNat = n ∧ x.b3.toNat = tag ∧ slotGood x = true ∧
    (∀ c, manifold = some c → x.b2.toNat = c.val) ∧ (manifold = none → x.b2 = 0xFF#8)) ∧
  (∀ (i : Nat) (v : ReportValue), i ≤ 63 →
    let x := sentReport i v
    (x.b0.extractLsb' 0 6).toNat = i ∧ x.b0.extractLsb' 6 2 = v.marker ∧ x.b1 ++ x.b2 ++ x.b3 = v.bits ∧
    slotGood x = true ∧ (v.marker ≠ 3#2 → x ≠ idleReport)) ∧
  idleReport.b0 = 0xFF#8 ∧ idleReport.b1 = 0#8 ∧ idleReport.b2 = 0#8 ∧ idleReport.b3 = 0#8 ∧ slotGood idleReport = true

/-- A report value with a marker and 24 value bits. -/
def Sys2Proof.Machine.ReportIs (v : ReportValue) (marker : Nat) (bits : Int) : Prop :=
  v.marker = BitVec.ofNat 2 marker ∧ v.bits = BitVec.ofInt 24 bits

/-- R77, R191, R194, R196: the value of every report item. An availability item carries its record's value, 0 without a
record, and the marker 1 when the input is available; GROUT_VOLUME the step's volume (1), the record's (2) or 0 (0);
PAYOUT the progress (1) or 0; the others marker 0, and the packed items their fields at their bits. (The step kind 15
outside ACTIVE is log entry 11; the 0 of a MOVE without a record is the model's choice, log entry 40.) -/
def Sys2Proof.Machine.ReportItemLayouts : Prop :=
  ∀ (s : State) (c : Chan) (p : Pump) (w : Point),
    let ch := s.chan c
    let from_ (item : ReportItem) (x : Target) : Prop :=
      ReportIs (reportValue s item) (if s.available x = true then 1 else 0)
        (match s.input x with
        | some r => r.value
        | none => 0)
    from_ (.chan c .jackLoad) (.chan c .jackLoad) ∧ from_ (.chan c .jackStroke) (.chan c .jackStroke) ∧
    from_ (.chan c .groutPressure) (.chan c .groutPressure) ∧ from_ (.chan c .tension) (.chan c .winchTension) ∧
    from_ (.point w .move) (.wallMove w) ∧
    ReportIs (reportValue s (.chan c .setpoint)) 0 (ch.profile.acc / 256) ∧
    ReportIs (reportValue s (.chan c .valveDemand)) 0 ch.jack.lastValve ∧
    ReportIs (reportValue s (.pump p .demand)) 0 (s.arb p).lastDemand ∧
    ReportIs (reportValue s (.part .cycle)) 0 (s.line.count % 16777216 : Nat) ∧
    (∀ x, ch.phase = .active → ch.work = .inject x → ReportIs (reportValue s (.chan c .groutVolume)) 1 x.volume) ∧
    (ch.phase ≠ .active ∨ (∀ x, ch.work ≠ .inject x) →
      (∀ n, ch.record.bind Record.groutVolume = some n → ReportIs (reportValue s (.chan c .groutVolume)) 2 n) ∧
      (ch.record.bind Record.groutVolume = none → ReportIs (reportValue s (.chan c .groutVolume)) 0 0)) ∧
    (∀ x, ch.phase = .active → ch.work = .payout x → ReportIs (reportValue s (.chan c .payout)) 1 x.progress) ∧
    (ch.phase ≠ .active ∨ (∀ x, ch.work ≠ .payout x) → ReportIs (reportValue s (.chan c .payout)) 0 0) ∧
    (let v := reportValue s (.chan c .state);
      ch.index ≤ 256 → v.marker = 0#2 ∧ (v.bits.extractLsb' 0 3).toNat = ch.state.code ∧
        (v.bits.extractLsb' 3 2).toNat = ch.phase.code ∧
        (v.bits.extractLsb' 5 4).toNat = (match s.currentStep c with
          | some st => st.body.kind
          | none => 15) ∧
        (v.bits.extractLsb' 9 9).toNat = ch.index ∧ (v.bits.getLsbD 18 = true ↔ ch.fault ≠ none)) ∧
    (let v := reportValue s (.pump p .state);
      (s.arb p).queue.length ≤ 15 → v.marker = 0#2 ∧ (v.bits.extractLsb' 0 2).toNat = (s.arb p).state.code ∧
        (v.bits.extractLsb' 2 4).toNat = (match (s.arb p).state.holder with
          | some d => d.val
          | none => 15) ∧
        (v.bits.extractLsb' 6 4).toNat = (s.arb p).queue.length) ∧
    (let v := reportValue s (.point w .state);
      v.marker = 0#2 ∧ (v.bits.extractLsb' 0 2).toNat = (s.wall w).state.code ∧
        (v.bits.getLsbD 2 = true ↔ (s.wall w).latch = true)) ∧
    let v := reportValue s (.part .status)
    v.marker = 0#2 ∧
      (v.bits.extractLsb' 0 4).toNat = (match s.digest with
        | some k => k.priority
        | none => 15) ∧
      (v.bits.extractLsb' 4 2).toNat = s.wallState.code ∧ (v.bits.getLsbD 6 = true ↔ s.line.alignment = .flywheel) ∧
      (v.bits.getLsbD (7 + c.val) = true ↔ ch.state = .running) ∧
      (v.bits.getLsbD (15 + c.val) = true ↔ ch.state = .faulted)

/-- R196: an enumeration is coded by the place of its values in the list that first defines it. -/
def Sys2Proof.Machine.EnumerationCodes : Prop :=
  [ChanState.idle, .running, .frozen, .faulted, .filing].map ChanState.code = [0, 1, 2, 3, 4] ∧
  [StepPhase.none, .takeUp, .active].map StepPhase.code = [0, 1, 2] ∧
  [FaultCause.overload, .overpressure, .tensionLimit, .nodeSilent, .badStep, .badBinding, .checkFailed, .noData,
    .rampUnsettled, .loadDrift, .creepExceeded, .lockoffLoss, .refusal].map FaultCause.code = List.range 13 ∧
  [ProfileStatus.inactive, .active, .finished].map ProfileStatus.code = [0, 1, 2] ∧
  [Standing.none, .queued, .switching, .granted].map Standing.code = [0, 1, 2, 3] ∧
  [RunOutcome.completed, .aborted, .abandoned].map RunOutcome.code = [0, 1, 2] ∧
  [Verdict.pass, .fail, .incomplete].map Verdict.code = [0, 1, 2] ∧
  [PointState.normal, .warn, .stop, .stale].map PointState.code = [0, 1, 2, 3] ∧
  [WallState.normal, .warn, .stop].map WallState.code = [0, 1, 2] ∧
  [Machine.Alignment.hunt, .confirm, .locked, .flywheel].map Alignment.code = [0, 1, 2, 3] ∧
  [ResetCause.powerOn, .pin, .request].map ResetCause.code = [0, 1, 2] ∧
  [Status.ok, .inUse, .badIndex, .badValue, .wrongState, .pendingFull, .empty, .noData, .unknownRequest,
    .garbled].map Status.code = List.range 10 ∧
  ∀ c : Chan, PumpState.code .free = 0 ∧ PumpState.code (.switching c) = 1 ∧ PumpState.code (.granted c) = 2

/-- R157, R168, R196, R197: the eight slots of a reply. The header at position 9 carries address, kind, tag and status,
the payload stands at positions 10 to 16 four bytes to a slot with 0 beyond its end, and every check is good. A field is
sent most significant byte first in its width, a negative one in two's complement and an absent one all ones. -/
def Sys2Proof.Machine.ReplyLayout : Prop :=
  (∀ r : Reply, r.address ≤ 62 →
    let x := r.window
    x.s1.b0.toNat = r.address ∧ x.s1.b1 = r.kind ∧ x.s1.b2 = r.tag ∧ x.s1.b3.toNat = r.status.code ∧
    (∀ y ∈ x.slots, slotGood y = true) ∧
    ∀ k, k < 28 → ([x.s2, x.s3, x.s4, x.s5, x.s6, x.s7, x.s8].flatMap fun y => [y.b0, y.b1, y.b2, y.b3])[k]? =
      some ((fieldsBytes r.payload).getD k 0#8)) ∧
  (∀ (f : Field) (fs : List Field), fieldsBytes (f :: fs) = f.bytes ++ fieldsBytes fs ∧ f.bytes.length = f.width) ∧
  (∀ (n k : Nat), k < n → (Field.bytes { width := n, value := none })[k]? = some 0xFF#8) ∧
  (∀ (n : Nat) (v : Int), 0 ≤ v → v < 256 ^ n → (natAt (fieldsBytes [{ width := n, value := some v }]) 0 n : Int) = v) ∧
  ∀ (n : Nat) (v : Int), v < 0 → -(256 ^ n : Int) ≤ 2 * v →
    (natAt (fieldsBytes [{ width := n, value := some v }]) 0 n : Int) = v + 256 ^ n

/-- R184, R198: the 28 bytes of a part of a closed record: the four header bytes, then those of part 0 or of a hold
result. (`natAt` reads a number most significant byte first.) -/
def Sys2Proof.Machine.RecordPartLayout : Prop :=
  ∀ (r : Record) (k : Nat), k ≤ 3 → r.holds.length ≤ 3 → r.lastIndex ≤ 256 → r.holdCount ≤ 255 →
    let headed (bs : List Byte) : Prop := bs.length = 28 ∧ natAt bs 0 1 = k ∧
      ((bs.getD 1 0#8).extractLsb' 0 3).toNat = 1 + r.holds.length ∧
      ((bs.getD 1 0#8).extractLsb' 3 3).toNat = r.channel.val ∧
      ((bs.getD 1 0#8).getLsbD 6 = true ↔ r.lastIndex = 256) ∧
      ((bs.getD 1 0#8).getLsbD 7 = true ↔ r.payoutLength ≠ none) ∧
      natAt bs 2 1 = r.lastIndex % 256 ∧ natAt bs 3 1 = r.holdCount
    (∀ o n, r.outcome = some o → r.endCount = some n → r.tag ≤ 65535 → r.startCount < 4294967296 → n < 4294967296 →
      r.peakLoad ≤ 40000 → r.lockoffLoad.getD 0 ≤ 40000 → r.residualLoad.getD 0 ≤ 40000 →
      r.groutVolume.getD 0 ≤ 16777215 → r.payoutLength.getD 0 ≤ 65535 → r.failedChecks ≤ 255 → r.overrides ≤ 255 →
      let bs := fieldsBytes (r.partHeader k ++ r.part0)
      let b := bs.getD 4 0#8
      headed bs ∧ (b.extractLsb' 0 2).toNat = o.code ∧
      (b.extractLsb' 2 4).toNat = (match r.fault with
        | some f => f.code
        | none => 15) ∧
      (b.extractLsb' 6 2).toNat = (match r.groutVolume, r.groutEnd with
        | none, _ => 0
        | some _, none => 1
        | some _, some .volume => 2
        | some _, some .refusal => 3) ∧
      natAt bs 5 2 = r.tag ∧ natAt bs 7 4 = r.startCount ∧ natAt bs 11 4 = n ∧ natAt bs 15 2 = r.peakLoad ∧
      natAt bs 17 2 = r.lockoffLoad.getD 65535 ∧ natAt bs 19 2 = r.residualLoad.getD 65535 ∧
      natAt bs 21 3 = r.groutVolume.getD 0 ∧ natAt bs 24 2 = r.payoutLength.getD 0 ∧
      natAt bs 26 1 = r.failedChecks ∧ natAt bs 27 1 = r.overrides) ∧
    ∀ h : HoldResult, h.marks.length ≤ 6 → h.interrupted ≤ 255 → -1920000 ≤ h.ks.getD 0 → h.ks.getD 0 ≤ 1920000 →
      (∀ m ∈ h.marks, m.getD 0 ≤ 65535) →
      let bs := fieldsBytes (r.partHeader k ++ h.fields)
      let b := bs.getD 4 0#8
      headed bs ∧ (b.extractLsb' 0 2).toNat = h.verdict.code ∧ (b.getLsbD 2 = true ↔ h.ks ≠ none) ∧
      (b.getLsbD 3 = true ↔ h.drift = true) ∧ (b.extractLsb' 4 3).toNat = h.marks.length ∧
      (∀ i, i < 8 → ((bs.getD 5 0#8).getLsbD i = true ↔ ∃ x, h.marks[i]? = some (some x))) ∧
      natAt bs 6 1 = h.interrupted ∧ intAt bs 7 3 = h.ks.getD 0 ∧
      (∀ i, i < 6 → natAt bs (10 + 2 * i) 2 = (match h.marks[i]? with
        | some (some x) => x
        | _ => 0)) ∧
      ∀ i, 22 ≤ i → i < 28 → bs[i]? = some 0#8

/-- R49, R86, R93, R157, R191, R194, R196 to R198: where the fields stand in the slots, report items, replies and record
parts that the part sends. -/
def Obligations.LayoutsPlaceEveryField : Prop :=
  WrittenSlotLayouts ∧ ReportItemLayouts ∧ EnumerationCodes ∧ ReplyLayout ∧ RecordPartLayout

/-! ### Invariants -/

/-- The part's tables keep their canonical form at every step, so that equal contents are equal data. -/
def Obligations.StepKeepsTablesCanonical : Prop :=
  ∀ s t : State, s.tablesCanonical → step s = .next t → t.tablesCanonical

/-- R19, R20, R185, R186: at every step the Record Queue holds at most 16 records, the filing list holds exactly the
FILING channels, each once and with its record, and while it is not empty the queue is full. -/
def Obligations.StepKeepsRecordQueue : Prop := ∀ s t : State, s.recordsOk → step s = .next t → t.recordsOk

/-- R27, R35: at every step no channel's accumulator lies above its profile ceiling, so its setpoint does not either. -/
def Sys2Proof.Machine.StepKeepsSetpointsUnderCeiling : Prop :=
  ∀ s t : State, s.setpointsOk → step s = .next t →
    t.setpointsOk ∧ ∀ c, t.setpoint c ≤ (t.chan c).profile.ceiling

/-- R45, R47, R48, R50: at every step each integral lies within its channel's Imax and is 0 in IDLE, and each valve
demand lies within ±1000. -/
def Sys2Proof.Machine.StepKeepsLoopsBounded : Prop := ∀ s t : State, s.loopsOk → step s = .next t → t.loopsOk

/-- R35, R45, R47, R48, R50: no step carries a setpoint beyond its ceiling or a jack loop beyond its bounds. -/
def Obligations.StepKeepsSetpointsAndLoopsBounded : Prop :=
  StepKeepsSetpointsUnderCeiling ∧ StepKeepsLoopsBounded

/-- R116, R117, R118, R121, R130: at every step a wall point is STOP exactly while its latch is set, and a disabled
point is NORMAL. -/
def Obligations.StepKeepsStopLatched : Prop := ∀ s t : State, s.pointsOk → step s = .next t → t.pointsOk

/-- R9, R17, R122, R125: at every step a RUNNING channel's freeze-cause set is empty and a FROZEN one's is not, and
while any enabled wall point is in STOP no channel is RUNNING. -/
def Obligations.NoChannelRunsWhileWallStops : Prop :=
  ∀ s t : State, s.freezeOk → s.stopHeld → step s = .next t →
    t.freezeOk ∧ t.stopHeld ∧ (t.wallState = .stop → ∀ c, (t.chan c).state ≠ .running)

/-- R70, R78 to R83: at every step each channel's claim standing is its place at its pump's Arbiter: queued there
exactly once, switching or granted as its one holder, with no claim outside RUNNING; a FREE pump's queue is empty and a
GRANTED pump's manifold is at its holder. -/
def Obligations.StepKeepsClaimsAtArbiters : Prop := ∀ s t : State, s.pumpsOk → step s = .next t → t.pumpsOk

/-- R149 to R152, R154, R156: at every step a part outside HUNT holds a sync interval from 32 to 240 and counts a position
below it, work of a cycle start is due in LOCKED or FLYWHEEL alone, the Management Unit holds a slot for each position of
the request window passed so far (log entry 43), and a part held in reset is in HUNT. -/
def Obligations.StepKeepsLinePosition : Prop := ∀ s t : State, s.lineOk → step s = .next t → t.lineOk

/-- R117, R127, R150, R154: while no cycle is worked nothing ages or counts. In HUNT, and in CONFIRM more than a window
before the sync position, no command but a reset moves a record, a wall point, a generator, the site cycle count, a
table, or the fields of a step beyond an INJECT's claim. (A part that reaches HUNT or CONFIRM has no work due but a
device reset, by the invariant of the line.) -/
def Obligations.NothingCountsWithoutAlignment : Prop :=
  ∀ (i : Instr) (s t : State), s.due = [] →
    s.line.alignment = .hunt ∨ (s.line.alignment = .confirm ∧ ∃ n, s.line.heldN = some n ∧ s.line.slotPos + 8 < n) →
    (∀ strap panel, i ≠ .powerOn strap panel) → i ≠ .resetInAssert → exec i s = .next t →
    t.inputs = s.inputs ∧ t.walls = s.walls ∧ t.line.count = s.line.count ∧ t.line.active = s.line.active ∧
    t.line.shadow = s.line.shadow ∧ t.store = s.store ∧ t.scales = s.scales ∧ t.records = s.records ∧
    t.reports = s.reports ∧ t.mgmt.config = s.mgmt.config ∧ t.due = [] ∧
    ∀ c, (t.chan c).profile = (s.chan c).profile ∧ (t.chan c).record = (s.chan c).record ∧
      (t.chan c).jack = (s.chan c).jack ∧ ClaimMoved (s.chan c).work (t.chan c).work

/-- The part as it is after power-on meets every invariant. -/
def Obligations.ResetMeetsInvariants : Prop :=
  State.reset.tablesCanonical ∧ State.reset.recordsOk ∧ State.reset.setpointsOk ∧ State.reset.loopsOk ∧
  State.reset.pointsOk ∧ State.reset.freezeOk ∧ State.reset.stopHeld ∧ State.reset.pumpsOk ∧ State.reset.lineOk
end

