-- ==== Sys2Proof/Laws/State.lean ====
section
/-! SUPPORT. One lemma per field per update of the state, so that no proof unfolds a record update; the updates built on
others are rewritten into them. -/

namespace Sys2Proof.Machine.Laws

/-! ### setChan -/

@[simp] theorem setChan_line (s : State) (c : Chan) (ch : Channel) : (s.setChan c ch).line = s.line := rfl
@[simp] theorem setChan_store (s : State) (c : Chan) (ch : Channel) : (s.setChan c ch).store = s.store := rfl
@[simp] theorem setChan_scales (s : State) (c : Chan) (ch : Channel) : (s.setChan c ch).scales = s.scales := rfl
@[simp] theorem setChan_inputs (s : State) (c : Chan) (ch : Channel) : (s.setChan c ch).inputs = s.inputs := rfl
@[simp] theorem setChan_chans (s : State) (c : Chan) (ch : Channel) : (s.setChan c ch).chans = s.chans.set c ch := rfl
@[simp] theorem setChan_pumpA (s : State) (c : Chan) (ch : Channel) : (s.setChan c ch).pumpA = s.pumpA := rfl
@[simp] theorem setChan_pumpB (s : State) (c : Chan) (ch : Channel) : (s.setChan c ch).pumpB = s.pumpB := rfl
@[simp] theorem setChan_walls (s : State) (c : Chan) (ch : Channel) : (s.setChan c ch).walls = s.walls := rfl
@[simp] theorem setChan_records (s : State) (c : Chan) (ch : Channel) : (s.setChan c ch).records = s.records := rfl
@[simp] theorem setChan_reports (s : State) (c : Chan) (ch : Channel) : (s.setChan c ch).reports = s.reports := rfl
@[simp] theorem setChan_mgmt (s : State) (c : Chan) (ch : Channel) : (s.setChan c ch).mgmt = s.mgmt := rfl
@[simp] theorem setChan_pins (s : State) (c : Chan) (ch : Channel) : (s.setChan c ch).pins = s.pins := rfl
@[simp] theorem setChan_due (s : State) (c : Chan) (ch : Channel) : (s.setChan c ch).due = s.due := rfl
@[simp] theorem setChan_freezeOrders (s : State) (c : Chan) (ch : Channel) : (s.setChan c ch).freezeOrders = s.freezeOrders := rfl
@[simp] theorem setChan_sent (s : State) (c : Chan) (ch : Channel) : (s.setChan c ch).sent = s.sent := rfl
@[simp] theorem setChan_pending (s : State) (c : Chan) (ch : Channel) : (s.setChan c ch).pending = s.pending := rfl

/-! ### setWall -/

@[simp] theorem setWall_line (s : State) (w : Point) (x : WallPoint) : (s.setWall w x).line = s.line := rfl
@[simp] theorem setWall_store (s : State) (w : Point) (x : WallPoint) : (s.setWall w x).store = s.store := rfl
@[simp] theorem setWall_scales (s : State) (w : Point) (x : WallPoint) : (s.setWall w x).scales = s.scales := rfl
@[simp] theorem setWall_inputs (s : State) (w : Point) (x : WallPoint) : (s.setWall w x).inputs = s.inputs := rfl
@[simp] theorem setWall_chans (s : State) (w : Point) (x : WallPoint) : (s.setWall w x).chans = s.chans := rfl
@[simp] theorem setWall_pumpA (s : State) (w : Point) (x : WallPoint) : (s.setWall w x).pumpA = s.pumpA := rfl
@[simp] theorem setWall_pumpB (s : State) (w : Point) (x : WallPoint) : (s.setWall w x).pumpB = s.pumpB := rfl
@[simp] theorem setWall_walls (s : State) (w : Point) (x : WallPoint) : (s.setWall w x).walls = s.walls.set w x := rfl
@[simp] theorem setWall_records (s : State) (w : Point) (x : WallPoint) : (s.setWall w x).records = s.records := rfl
@[simp] theorem setWall_reports (s : State) (w : Point) (x : WallPoint) : (s.setWall w x).reports = s.reports := rfl
@[simp] theorem setWall_mgmt (s : State) (w : Point) (x : WallPoint) : (s.setWall w x).mgmt = s.mgmt := rfl
@[simp] theorem setWall_pins (s : State) (w : Point) (x : WallPoint) : (s.setWall w x).pins = s.pins := rfl
@[simp] theorem setWall_due (s : State) (w : Point) (x : WallPoint) : (s.setWall w x).due = s.due := rfl
@[simp] theorem setWall_freezeOrders (s : State) (w : Point) (x : WallPoint) : (s.setWall w x).freezeOrders = s.freezeOrders := rfl
@[simp] theorem setWall_sent (s : State) (w : Point) (x : WallPoint) : (s.setWall w x).sent = s.sent := rfl
@[simp] theorem setWall_pending (s : State) (w : Point) (x : WallPoint) : (s.setWall w x).pending = s.pending := rfl

/-! ### updLine -/

@[simp] theorem updLine_line (s : State) (f : LinePort → LinePort) : (s.updLine f).line = f s.line := rfl
@[simp] theorem updLine_store (s : State) (f : LinePort → LinePort) : (s.updLine f).store = s.store := rfl
@[simp] theorem updLine_scales (s : State) (f : LinePort → LinePort) : (s.updLine f).scales = s.scales := rfl
@[simp] theorem updLine_inputs (s : State) (f : LinePort → LinePort) : (s.updLine f).inputs = s.inputs := rfl
@[simp] theorem updLine_chans (s : State) (f : LinePort → LinePort) : (s.updLine f).chans = s.chans := rfl
@[simp] theorem updLine_pumpA (s : State) (f : LinePort → LinePort) : (s.updLine f).pumpA = s.pumpA := rfl
@[simp] theorem updLine_pumpB (s : State) (f : LinePort → LinePort) : (s.updLine f).pumpB = s.pumpB := rfl
@[simp] theorem updLine_walls (s : State) (f : LinePort → LinePort) : (s.updLine f).walls = s.walls := rfl
@[simp] theorem updLine_records (s : State) (f : LinePort → LinePort) : (s.updLine f).records = s.records := rfl
@[simp] theorem updLine_reports (s : State) (f : LinePort → LinePort) : (s.updLine f).reports = s.reports := rfl
@[simp] theorem updLine_mgmt (s : State) (f : LinePort → LinePort) : (s.updLine f).mgmt = s.mgmt := rfl
@[simp] theorem updLine_pins (s : State) (f : LinePort → LinePort) : (s.updLine f).pins = s.pins := rfl
@[simp] theorem updLine_due (s : State) (f : LinePort → LinePort) : (s.updLine f).due = s.due := rfl
@[simp] theorem updLine_freezeOrders (s : State) (f : LinePort → LinePort) : (s.updLine f).freezeOrders = s.freezeOrders := rfl
@[simp] theorem updLine_sent (s : State) (f : LinePort → LinePort) : (s.updLine f).sent = s.sent := rfl
@[simp] theorem updLine_pending (s : State) (f : LinePort → LinePort) : (s.updLine f).pending = s.pending := rfl

/-! ### updStore -/

@[simp] theorem updStore_line (s : State) (f : ProgramStore → ProgramStore) : (s.updStore f).line = s.line := rfl
@[simp] theorem updStore_store (s : State) (f : ProgramStore → ProgramStore) : (s.updStore f).store = f s.store := rfl
@[simp] theorem updStore_scales (s : State) (f : ProgramStore → ProgramStore) : (s.updStore f).scales = s.scales := rfl
@[simp] theorem updStore_inputs (s : State) (f : ProgramStore → ProgramStore) : (s.updStore f).inputs = s.inputs := rfl
@[simp] theorem updStore_chans (s : State) (f : ProgramStore → ProgramStore) : (s.updStore f).chans = s.chans := rfl
@[simp] theorem updStore_pumpA (s : State) (f : ProgramStore → ProgramStore) : (s.updStore f).pumpA = s.pumpA := rfl
@[simp] theorem updStore_pumpB (s : State) (f : ProgramStore → ProgramStore) : (s.updStore f).pumpB = s.pumpB := rfl
@[simp] theorem updStore_walls (s : State) (f : ProgramStore → ProgramStore) : (s.updStore f).walls = s.walls := rfl
@[simp] theorem updStore_records (s : State) (f : ProgramStore → ProgramStore) : (s.updStore f).records = s.records := rfl
@[simp] theorem updStore_reports (s : State) (f : ProgramStore → ProgramStore) : (s.updStore f).reports = s.reports := rfl
@[simp] theorem updStore_mgmt (s : State) (f : ProgramStore → ProgramStore) : (s.updStore f).mgmt = s.mgmt := rfl
@[simp] theorem updStore_pins (s : State) (f : ProgramStore → ProgramStore) : (s.updStore f).pins = s.pins := rfl
@[simp] theorem updStore_due (s : State) (f : ProgramStore → ProgramStore) : (s.updStore f).due = s.due := rfl
@[simp] theorem updStore_freezeOrders (s : State) (f : ProgramStore → ProgramStore) : (s.updStore f).freezeOrders = s.freezeOrders := rfl
@[simp] theorem updStore_sent (s : State) (f : ProgramStore → ProgramStore) : (s.updStore f).sent = s.sent := rfl
@[simp] theorem updStore_pending (s : State) (f : ProgramStore → ProgramStore) : (s.updStore f).pending = s.pending := rfl

/-! ### updRecords -/

@[simp] theorem updRecords_line (s : State) (f : RecordQueue → RecordQueue) : (s.updRecords f).line = s.line := rfl
@[simp] theorem updRecords_store (s : State) (f : RecordQueue → RecordQueue) : (s.updRecords f).store = s.store := rfl
@[simp] theorem updRecords_scales (s : State) (f : RecordQueue → RecordQueue) : (s.updRecords f).scales = s.scales := rfl
@[simp] theorem updRecords_inputs (s : State) (f : RecordQueue → RecordQueue) : (s.updRecords f).inputs = s.inputs := rfl
@[simp] theorem updRecords_chans (s : State) (f : RecordQueue → RecordQueue) : (s.updRecords f).chans = s.chans := rfl
@[simp] theorem updRecords_pumpA (s : State) (f : RecordQueue → RecordQueue) : (s.updRecords f).pumpA = s.pumpA := rfl
@[simp] theorem updRecords_pumpB (s : State) (f : RecordQueue → RecordQueue) : (s.updRecords f).pumpB = s.pumpB := rfl
@[simp] theorem updRecords_walls (s : State) (f : RecordQueue → RecordQueue) : (s.updRecords f).walls = s.walls := rfl
@[simp] theorem updRecords_records (s : State) (f : RecordQueue → RecordQueue) : (s.updRecords f).records = f s.records := rfl
@[simp] theorem updRecords_reports (s : State) (f : RecordQueue → RecordQueue) : (s.updRecords f).reports = s.reports := rfl
@[simp] theorem updRecords_mgmt (s : State) (f : RecordQueue → RecordQueue) : (s.updRecords f).mgmt = s.mgmt := rfl
@[simp] theorem updRecords_pins (s : State) (f : RecordQueue → RecordQueue) : (s.updRecords f).pins = s.pins := rfl
@[simp] theorem updRecords_due (s : State) (f : RecordQueue → RecordQueue) : (s.updRecords f).due = s.due := rfl
@[simp] theorem updRecords_freezeOrders (s : State) (f : RecordQueue → RecordQueue) : (s.updRecords f).freezeOrders = s.freezeOrders := rfl
@[simp] theorem updRecords_sent (s : State) (f : RecordQueue → RecordQueue) : (s.updRecords f).sent = s.sent := rfl
@[simp] theorem updRecords_pending (s : State) (f : RecordQueue → RecordQueue) : (s.updRecords f).pending = s.pending := rfl

/-! ### updReports -/

@[simp] theorem updReports_line (s : State) (f : Composer → Composer) : (s.updReports f).line = s.line := rfl
@[simp] theorem updReports_store (s : State) (f : Composer → Composer) : (s.updReports f).store = s.store := rfl
@[simp] theorem updReports_scales (s : State) (f : Composer → Composer) : (s.updReports f).scales = s.scales := rfl
@[simp] theorem updReports_inputs (s : State) (f : Composer → Composer) : (s.updReports f).inputs = s.inputs := rfl
@[simp] theorem updReports_chans (s : State) (f : Composer → Composer) : (s.updReports f).chans = s.chans := rfl
@[simp] theorem updReports_pumpA (s : State) (f : Composer → Composer) : (s.updReports f).pumpA = s.pumpA := rfl
@[simp] theorem updReports_pumpB (s : State) (f : Composer → Composer) : (s.updReports f).pumpB = s.pumpB := rfl
@[simp] theorem updReports_walls (s : State) (f : Composer → Composer) : (s.updReports f).walls = s.walls := rfl
@[simp] theorem updReports_records (s : State) (f : Composer → Composer) : (s.updReports f).records = s.records := rfl
@[simp] theorem updReports_reports (s : State) (f : Composer → Composer) : (s.updReports f).reports = f s.reports := rfl
@[simp] theorem updReports_mgmt (s : State) (f : Composer → Composer) : (s.updReports f).mgmt = s.mgmt := rfl
@[simp] theorem updReports_pins (s : State) (f : Composer → Composer) : (s.updReports f).pins = s.pins := rfl
@[simp] theorem updReports_due (s : State) (f : Composer → Composer) : (s.updReports f).due = s.due := rfl
@[simp] theorem updReports_freezeOrders (s : State) (f : Composer → Composer) : (s.updReports f).freezeOrders = s.freezeOrders := rfl
@[simp] theorem updReports_sent (s : State) (f : Composer → Composer) : (s.updReports f).sent = s.sent := rfl
@[simp] theorem updReports_pending (s : State) (f : Composer → Composer) : (s.updReports f).pending = s.pending := rfl

/-! ### updMgmt -/

@[simp] theorem updMgmt_line (s : State) (f : Management → Management) : (s.updMgmt f).line = s.line := rfl
@[simp] theorem updMgmt_store (s : State) (f : Management → Management) : (s.updMgmt f).store = s.store := rfl
@[simp] theorem updMgmt_scales (s : State) (f : Management → Management) : (s.updMgmt f).scales = s.scales := rfl
@[simp] theorem updMgmt_inputs (s : State) (f : Management → Management) : (s.updMgmt f).inputs = s.inputs := rfl
@[simp] theorem updMgmt_chans (s : State) (f : Management → Management) : (s.updMgmt f).chans = s.chans := rfl
@[simp] theorem updMgmt_pumpA (s : State) (f : Management → Management) : (s.updMgmt f).pumpA = s.pumpA := rfl
@[simp] theorem updMgmt_pumpB (s : State) (f : Management → Management) : (s.updMgmt f).pumpB = s.pumpB := rfl
@[simp] theorem updMgmt_walls (s : State) (f : Management → Management) : (s.updMgmt f).walls = s.walls := rfl
@[simp] theorem updMgmt_records (s : State) (f : Management → Management) : (s.updMgmt f).records = s.records := rfl
@[simp] theorem updMgmt_reports (s : State) (f : Management → Management) : (s.updMgmt f).reports = s.reports := rfl
@[simp] theorem updMgmt_mgmt (s : State) (f : Management → Management) : (s.updMgmt f).mgmt = f s.mgmt := rfl
@[simp] theorem updMgmt_pins (s : State) (f : Management → Management) : (s.updMgmt f).pins = s.pins := rfl
@[simp] theorem updMgmt_due (s : State) (f : Management → Management) : (s.updMgmt f).due = s.due := rfl
@[simp] theorem updMgmt_freezeOrders (s : State) (f : Management → Management) : (s.updMgmt f).freezeOrders = s.freezeOrders := rfl
@[simp] theorem updMgmt_sent (s : State) (f : Management → Management) : (s.updMgmt f).sent = s.sent := rfl
@[simp] theorem updMgmt_pending (s : State) (f : Management → Management) : (s.updMgmt f).pending = s.pending := rfl

/-! ### setInput -/

@[simp] theorem setInput_line (s : State) (t : Target) (r : InputRecord) : (s.setInput t r).line = s.line := rfl
@[simp] theorem setInput_store (s : State) (t : Target) (r : InputRecord) : (s.setInput t r).store = s.store := rfl
@[simp] theorem setInput_scales (s : State) (t : Target) (r : InputRecord) : (s.setInput t r).scales = s.scales := rfl
@[simp] theorem setInput_inputs (s : State) (t : Target) (r : InputRecord) : (s.setInput t r).inputs = Sparse.set none s.inputs t.code (some r) := rfl
@[simp] theorem setInput_chans (s : State) (t : Target) (r : InputRecord) : (s.setInput t r).chans = s.chans := rfl
@[simp] theorem setInput_pumpA (s : State) (t : Target) (r : InputRecord) : (s.setInput t r).pumpA = s.pumpA := rfl
@[simp] theorem setInput_pumpB (s : State) (t : Target) (r : InputRecord) : (s.setInput t r).pumpB = s.pumpB := rfl
@[simp] theorem setInput_walls (s : State) (t : Target) (r : InputRecord) : (s.setInput t r).walls = s.walls := rfl
@[simp] theorem setInput_records (s : State) (t : Target) (r : InputRecord) : (s.setInput t r).records = s.records := rfl
@[simp] theorem setInput_reports (s : State) (t : Target) (r : InputRecord) : (s.setInput t r).reports = s.reports := rfl
@[simp] theorem setInput_mgmt (s : State) (t : Target) (r : InputRecord) : (s.setInput t r).mgmt = s.mgmt := rfl
@[simp] theorem setInput_pins (s : State) (t : Target) (r : InputRecord) : (s.setInput t r).pins = s.pins := rfl
@[simp] theorem setInput_due (s : State) (t : Target) (r : InputRecord) : (s.setInput t r).due = s.due := rfl
@[simp] theorem setInput_freezeOrders (s : State) (t : Target) (r : InputRecord) : (s.setInput t r).freezeOrders = s.freezeOrders := rfl
@[simp] theorem setInput_sent (s : State) (t : Target) (r : InputRecord) : (s.setInput t r).sent = s.sent := rfl
@[simp] theorem setInput_pending (s : State) (t : Target) (r : InputRecord) : (s.setInput t r).pending = s.pending := rfl

/-! ### passSlots -/

@[simp] theorem passSlots_line (s : State) (xs : List Slot) : (s.passSlots xs).line = s.line := rfl
@[simp] theorem passSlots_store (s : State) (xs : List Slot) : (s.passSlots xs).store = s.store := rfl
@[simp] theorem passSlots_scales (s : State) (xs : List Slot) : (s.passSlots xs).scales = s.scales := rfl
@[simp] theorem passSlots_inputs (s : State) (xs : List Slot) : (s.passSlots xs).inputs = s.inputs := rfl
@[simp] theorem passSlots_chans (s : State) (xs : List Slot) : (s.passSlots xs).chans = s.chans := rfl
@[simp] theorem passSlots_pumpA (s : State) (xs : List Slot) : (s.passSlots xs).pumpA = s.pumpA := rfl
@[simp] theorem passSlots_pumpB (s : State) (xs : List Slot) : (s.passSlots xs).pumpB = s.pumpB := rfl
@[simp] theorem passSlots_walls (s : State) (xs : List Slot) : (s.passSlots xs).walls = s.walls := rfl
@[simp] theorem passSlots_records (s : State) (xs : List Slot) : (s.passSlots xs).records = s.records := rfl
@[simp] theorem passSlots_reports (s : State) (xs : List Slot) : (s.passSlots xs).reports = s.reports := rfl
@[simp] theorem passSlots_mgmt (s : State) (xs : List Slot) : (s.passSlots xs).mgmt = s.mgmt := rfl
@[simp] theorem passSlots_pins (s : State) (xs : List Slot) : (s.passSlots xs).pins = s.pins := rfl
@[simp] theorem passSlots_due (s : State) (xs : List Slot) : (s.passSlots xs).due = s.due := rfl
@[simp] theorem passSlots_freezeOrders (s : State) (xs : List Slot) : (s.passSlots xs).freezeOrders = s.freezeOrders := rfl
@[simp] theorem passSlots_sent (s : State) (xs : List Slot) : (s.passSlots xs).sent = xs := rfl
@[simp] theorem passSlots_pending (s : State) (xs : List Slot) : (s.passSlots xs).pending = s.pending := rfl

/-! ### emit -/

@[simp] theorem emit_line (s : State) (out : Slot) : (s.emit out).line = s.line := rfl
@[simp] theorem emit_store (s : State) (out : Slot) : (s.emit out).store = s.store := rfl
@[simp] theorem emit_scales (s : State) (out : Slot) : (s.emit out).scales = s.scales := rfl
@[simp] theorem emit_inputs (s : State) (out : Slot) : (s.emit out).inputs = s.inputs := rfl
@[simp] theorem emit_chans (s : State) (out : Slot) : (s.emit out).chans = s.chans := rfl
@[simp] theorem emit_pumpA (s : State) (out : Slot) : (s.emit out).pumpA = s.pumpA := rfl
@[simp] theorem emit_pumpB (s : State) (out : Slot) : (s.emit out).pumpB = s.pumpB := rfl
@[simp] theorem emit_walls (s : State) (out : Slot) : (s.emit out).walls = s.walls := rfl
@[simp] theorem emit_records (s : State) (out : Slot) : (s.emit out).records = s.records := rfl
@[simp] theorem emit_reports (s : State) (out : Slot) : (s.emit out).reports = s.reports := rfl
@[simp] theorem emit_mgmt (s : State) (out : Slot) : (s.emit out).mgmt = s.mgmt := rfl
@[simp] theorem emit_pins (s : State) (out : Slot) : (s.emit out).pins = s.pins := rfl
@[simp] theorem emit_due (s : State) (out : Slot) : (s.emit out).due = s.due := rfl
@[simp] theorem emit_freezeOrders (s : State) (out : Slot) : (s.emit out).freezeOrders = s.freezeOrders := rfl
@[simp] theorem emit_sent (s : State) (out : Slot) : (s.emit out).sent = s.sent ++ [out] := rfl
@[simp] theorem emit_pending (s : State) (out : Slot) : (s.emit out).pending = s.pending := rfl

/-! ### sendNext -/

@[simp] theorem sendNext_line (s : State) (out : Slot) : (s.sendNext out).line = { s.line with slotPos := s.nextPos } := rfl
@[simp] theorem sendNext_store (s : State) (out : Slot) : (s.sendNext out).store = s.store := rfl
@[simp] theorem sendNext_scales (s : State) (out : Slot) : (s.sendNext out).scales = s.scales := rfl
@[simp] theorem sendNext_inputs (s : State) (out : Slot) : (s.sendNext out).inputs = s.inputs := rfl
@[simp] theorem sendNext_chans (s : State) (out : Slot) : (s.sendNext out).chans = s.chans := rfl
@[simp] theorem sendNext_pumpA (s : State) (out : Slot) : (s.sendNext out).pumpA = s.pumpA := rfl
@[simp] theorem sendNext_pumpB (s : State) (out : Slot) : (s.sendNext out).pumpB = s.pumpB := rfl
@[simp] theorem sendNext_walls (s : State) (out : Slot) : (s.sendNext out).walls = s.walls := rfl
@[simp] theorem sendNext_records (s : State) (out : Slot) : (s.sendNext out).records = s.records := rfl
@[simp] theorem sendNext_reports (s : State) (out : Slot) : (s.sendNext out).reports = s.reports := rfl
@[simp] theorem sendNext_mgmt (s : State) (out : Slot) : (s.sendNext out).mgmt = s.mgmt := rfl
@[simp] theorem sendNext_pins (s : State) (out : Slot) : (s.sendNext out).pins = s.pins := rfl
@[simp] theorem sendNext_due (s : State) (out : Slot) : (s.sendNext out).due = s.due := rfl
@[simp] theorem sendNext_freezeOrders (s : State) (out : Slot) : (s.sendNext out).freezeOrders = s.freezeOrders := rfl
@[simp] theorem sendNext_sent (s : State) (out : Slot) : (s.sendNext out).sent = s.sent ++ [out] := rfl
@[simp] theorem sendNext_pending (s : State) (out : Slot) : (s.sendNext out).pending = s.pending := rfl

/-! ### setArb -/

@[simp] theorem setArb_line (s : State) (p : Pump) (a : Arbiter) : (s.setArb p a).line = s.line := by cases p <;> rfl
@[simp] theorem setArb_store (s : State) (p : Pump) (a : Arbiter) : (s.setArb p a).store = s.store := by cases p <;> rfl
@[simp] theorem setArb_scales (s : State) (p : Pump) (a : Arbiter) : (s.setArb p a).scales = s.scales := by cases p <;> rfl
@[simp] theorem setArb_inputs (s : State) (p : Pump) (a : Arbiter) : (s.setArb p a).inputs = s.inputs := by cases p <;> rfl
@[simp] theorem setArb_chans (s : State) (p : Pump) (a : Arbiter) : (s.setArb p a).chans = s.chans := by cases p <;> rfl
@[simp] theorem setArb_walls (s : State) (p : Pump) (a : Arbiter) : (s.setArb p a).walls = s.walls := by cases p <;> rfl
@[simp] theorem setArb_records (s : State) (p : Pump) (a : Arbiter) : (s.setArb p a).records = s.records := by cases p <;> rfl
@[simp] theorem setArb_reports (s : State) (p : Pump) (a : Arbiter) : (s.setArb p a).reports = s.reports := by cases p <;> rfl
@[simp] theorem setArb_mgmt (s : State) (p : Pump) (a : Arbiter) : (s.setArb p a).mgmt = s.mgmt := by cases p <;> rfl
@[simp] theorem setArb_pins (s : State) (p : Pump) (a : Arbiter) : (s.setArb p a).pins = s.pins := by cases p <;> rfl
@[simp] theorem setArb_due (s : State) (p : Pump) (a : Arbiter) : (s.setArb p a).due = s.due := by cases p <;> rfl
@[simp] theorem setArb_freezeOrders (s : State) (p : Pump) (a : Arbiter) : (s.setArb p a).freezeOrders = s.freezeOrders := by cases p <;> rfl
@[simp] theorem setArb_sent (s : State) (p : Pump) (a : Arbiter) : (s.setArb p a).sent = s.sent := by cases p <;> rfl
@[simp] theorem setArb_pending (s : State) (p : Pump) (a : Arbiter) : (s.setArb p a).pending = s.pending := by cases p <;> rfl

/-! ### The other updates, by the ones above -/

@[simp] theorem updChan_eq (s : State) (c : Chan) (f : Channel → Channel) :
    s.updChan c f = s.setChan c (f (s.chan c)) := rfl

@[simp] theorem updArb_eq (s : State) (p : Pump) (f : Arbiter → Arbiter) : s.updArb p f = s.setArb p (f (s.arb p)) := rfl

@[simp] theorem updProfile_eq (s : State) (c : Chan) (f : Profile → Profile) :
    s.updProfile c f = s.setChan c { s.chan c with profile := f (s.chan c).profile } := rfl

@[simp] theorem updJack_eq (s : State) (c : Chan) (f : JackLoop → JackLoop) :
    s.updJack c f = s.setChan c { s.chan c with jack := f (s.chan c).jack } := rfl

@[simp] theorem setWork_eq (s : State) (c : Chan) (w : StepWork) :
    s.setWork c w = s.setChan c { s.chan c with work := w } := rfl

@[simp] theorem updRecord_eq (s : State) (c : Chan) (f : Record → Record) :
    s.updRecord c f = s.setChan c { s.chan c with record := (s.chan c).record.map f } := rfl

@[simp] theorem updLatched_eq (s : State) (f : Latched → Latched) :
    s.updLatched f = s.updMgmt fun m => { m with latched := f m.latched } := rfl

/-! ### Reading a channel, an Arbiter, a point -/

@[simp] theorem chan_setChan (s : State) (c : Chan) (ch : Channel) : (s.setChan c ch).chan c = ch := by
  simp [State.chan, State.setChan]

theorem chan_setChan_ne (s : State) {c d : Chan} (ch : Channel) (h : d ≠ c) :
    (s.setChan c ch).chan d = s.chan d := by
  have : c.val ≠ d.val := fun e => h (Fin.ext e.symm)
  simp [State.chan, State.setChan, Vector.getElem_set_ne, this]

@[simp] theorem setChan_setChan (s : State) (c : Chan) (a b : Channel) : (s.setChan c a).setChan c b = s.setChan c b := by
  simp [State.setChan]

@[simp] theorem setChan_chan (s : State) (c : Chan) : s.setChan c (s.chan c) = s := by
  simp [State.setChan, State.chan]

@[simp] theorem arb_setArb (s : State) (p : Pump) (a : Arbiter) : (s.setArb p a).arb p = a := by cases p <;> rfl

theorem arb_setArb_ne (s : State) {p q : Pump} (a : Arbiter) (h : q ≠ p) : (s.setArb p a).arb q = s.arb q := by
  cases p <;> cases q <;> first | rfl | exact absurd rfl h

@[simp] theorem setArb_setArb (s : State) (p : Pump) (a b : Arbiter) : (s.setArb p a).setArb p b = s.setArb p b := by
  cases p <;> rfl

@[simp] theorem wall_setWall (s : State) (w : Point) (x : WallPoint) : (s.setWall w x).wall w = x := by
  simp [State.wall, State.setWall]

theorem wall_setWall_ne (s : State) {w v : Point} (x : WallPoint) (h : v ≠ w) : (s.setWall w x).wall v = s.wall v := by
  have : w.val ≠ v.val := fun e => h (Fin.ext e.symm)
  simp [State.wall, State.setWall, Vector.getElem_set_ne, this]

/-! ### Accessors that an update does not reach -/

@[simp] theorem setChan_arb (s : State) (c : Chan) (ch : Channel) (q : Pump) : (s.setChan c ch).arb q = s.arb q := by cases q <;> rfl
@[simp] theorem setChan_wall (s : State) (c : Chan) (ch : Channel) (v : Point) : (s.setChan c ch).wall v = s.wall v := rfl
@[simp] theorem setChan_input (s : State) (c : Chan) (ch : Channel) (tg : Target) : (s.setChan c ch).input tg = s.input tg := rfl
@[simp] theorem setWall_chan (s : State) (w : Point) (x : WallPoint) (d : Chan) : (s.setWall w x).chan d = s.chan d := rfl
@[simp] theorem setWall_arb (s : State) (w : Point) (x : WallPoint) (q : Pump) : (s.setWall w x).arb q = s.arb q := by cases q <;> rfl
@[simp] theorem setWall_input (s : State) (w : Point) (x : WallPoint) (tg : Target) : (s.setWall w x).input tg = s.input tg := rfl
@[simp] theorem updLine_chan (s : State) (f : LinePort → LinePort) (d : Chan) : (s.updLine f).chan d = s.chan d := rfl
@[simp] theorem updLine_arb (s : State) (f : LinePort → LinePort) (q : Pump) : (s.updLine f).arb q = s.arb q := by cases q <;> rfl
@[simp] theorem updLine_wall (s : State) (f : LinePort → LinePort) (v : Point) : (s.updLine f).wall v = s.wall v := rfl
@[simp] theorem updLine_input (s : State) (f : LinePort → LinePort) (tg : Target) : (s.updLine f).input tg = s.input tg := rfl
@[simp] theorem updStore_chan (s : State) (f : ProgramStore → ProgramStore) (d : Chan) : (s.updStore f).chan d = s.chan d := rfl
@[simp] theorem updStore_arb (s : State) (f : ProgramStore → ProgramStore) (q : Pump) : (s.updStore f).arb q = s.arb q := by cases q <;> rfl
@[simp] theorem updStore_wall (s : State) (f : ProgramStore → ProgramStore) (v : Point) : (s.updStore f).wall v = s.wall v := rfl
@[simp] theorem updStore_input (s : State) (f : ProgramStore → ProgramStore) (tg : Target) : (s.updStore f).input tg = s.input tg := rfl
@[simp] theorem updRecords_chan (s : State) (f : RecordQueue → RecordQueue) (d : Chan) : (s.updRecords f).chan d = s.chan d := rfl
@[simp] theorem updRecords_arb (s : State) (f : RecordQueue → RecordQueue) (q : Pump) : (s.updRecords f).arb q = s.arb q := by cases q <;> rfl
@[simp] theorem updRecords_wall (s : State) (f : RecordQueue → RecordQueue) (v : Point) : (s.updRecords f).wall v = s.wall v := rfl
@[simp] theorem updRecords_input (s : State) (f : RecordQueue → RecordQueue) (tg : Target) : (s.updRecords f).input tg = s.input tg := rfl
@[simp] theorem updReports_chan (s : State) (f : Composer → Composer) (d : Chan) : (s.updReports f).chan d = s.chan d := rfl
@[simp] theorem updReports_arb (s : State) (f : Composer → Composer) (q : Pump) : (s.updReports f).arb q = s.arb q := by cases q <;> rfl
@[simp] theorem updReports_wall (s : State) (f : Composer → Composer) (v : Point) : (s.updReports f).wall v = s.wall v := rfl
@[simp] theorem updReports_input (s : State) (f : Composer → Composer) (tg : Target) : (s.updReports f).input tg = s.input tg := rfl
@[simp] theorem updMgmt_chan (s : State) (f : Management → Management) (d : Chan) : (s.updMgmt f).chan d = s.chan d := rfl
@[simp] theorem updMgmt_arb (s : State) (f : Management → Management) (q : Pump) : (s.updMgmt f).arb q = s.arb q := by cases q <;> rfl
@[simp] theorem updMgmt_wall (s : State) (f : Management → Management) (v : Point) : (s.updMgmt f).wall v = s.wall v := rfl
@[simp] theorem updMgmt_input (s : State) (f : Management → Management) (tg : Target) : (s.updMgmt f).input tg = s.input tg := rfl
@[simp] theorem setInput_chan (s : State) (t : Target) (r : InputRecord) (d : Chan) : (s.setInput t r).chan d = s.chan d := rfl
@[simp] theorem setInput_arb (s : State) (t : Target) (r : InputRecord) (q : Pump) : (s.setInput t r).arb q = s.arb q := by cases q <;> rfl
@[simp] theorem setInput_wall (s : State) (t : Target) (r : InputRecord) (v : Point) : (s.setInput t r).wall v = s.wall v := rfl
@[simp] theorem passSlots_chan (s : State) (xs : List Slot) (d : Chan) : (s.passSlots xs).chan d = s.chan d := rfl
@[simp] theorem passSlots_arb (s : State) (xs : List Slot) (q : Pump) : (s.passSlots xs).arb q = s.arb q := by cases q <;> rfl
@[simp] theorem passSlots_wall (s : State) (xs : List Slot) (v : Point) : (s.passSlots xs).wall v = s.wall v := rfl
@[simp] theorem passSlots_input (s : State) (xs : List Slot) (tg : Target) : (s.passSlots xs).input tg = s.input tg := rfl
@[simp] theorem emit_chan (s : State) (out : Slot) (d : Chan) : (s.emit out).chan d = s.chan d := rfl
@[simp] theorem emit_arb (s : State) (out : Slot) (q : Pump) : (s.emit out).arb q = s.arb q := by cases q <;> rfl
@[simp] theorem emit_wall (s : State) (out : Slot) (v : Point) : (s.emit out).wall v = s.wall v := rfl
@[simp] theorem emit_input (s : State) (out : Slot) (tg : Target) : (s.emit out).input tg = s.input tg := rfl
@[simp] theorem sendNext_chan (s : State) (out : Slot) (d : Chan) : (s.sendNext out).chan d = s.chan d := rfl
@[simp] theorem sendNext_arb (s : State) (out : Slot) (q : Pump) : (s.sendNext out).arb q = s.arb q := by cases q <;> rfl
@[simp] theorem sendNext_wall (s : State) (out : Slot) (v : Point) : (s.sendNext out).wall v = s.wall v := rfl
@[simp] theorem sendNext_input (s : State) (out : Slot) (tg : Target) : (s.sendNext out).input tg = s.input tg := rfl
@[simp] theorem setArb_chan (s : State) (p : Pump) (a : Arbiter) (d : Chan) : (s.setArb p a).chan d = s.chan d := by cases p <;> rfl
@[simp] theorem setArb_wall (s : State) (p : Pump) (a : Arbiter) (v : Point) : (s.setArb p a).wall v = s.wall v := by cases p <;> rfl
@[simp] theorem setArb_input (s : State) (p : Pump) (a : Arbiter) (tg : Target) : (s.setArb p a).input tg = s.input tg := by cases p <;> rfl

end Sys2Proof.Machine.Laws
end

