-- ==== Sys2Proof/Laws/Claims.lean ====
section
/-! SUPPORT. What the Arbiters' operations can do: they move claims of INJECT steps and the two Arbiters, and nothing
else of the part. -/

namespace Sys2Proof.Machine.Laws

/-- `t` is `s` but for the Arbiters and the claims of INJECT steps. -/
def ClaimsOnly (s t : State) : Prop :=
  (∀ d, KeptAs (s.chan d) (t.chan d)) ∧ t = { s with chans := t.chans, pumpA := t.pumpA, pumpB := t.pumpB }

theorem claimMoved_trans {a b c : StepWork} (h : ClaimMoved a b) (k : ClaimMoved b c) : ClaimMoved a c := by
  rcases h with rfl | ⟨x, st, r, rfl, rfl, hr⟩
  · exact k
  · rcases k with rfl | ⟨y, st', r', hy, rfl, hr'⟩
    · exact .inr ⟨x, st, r, rfl, rfl, hr⟩
    · cases hy
      exact .inr ⟨x, st', r', rfl, rfl, by rcases hr' with rfl | rfl <;> simp [hr]⟩

theorem keptAs_refl (a : Channel) : KeptAs a a := ⟨rfl, .inl rfl⟩

theorem keptAs_trans {a b c : Channel} (h : KeptAs a b) (k : KeptAs b c) : KeptAs a c :=
  ⟨by rw [k.1, h.1], claimMoved_trans h.2 k.2⟩

theorem ClaimsOnly.refl (s : State) : ClaimsOnly s s := ⟨fun _ => keptAs_refl _, rfl⟩

theorem ClaimsOnly.trans {s t u : State} (h : ClaimsOnly s t) (k : ClaimsOnly t u) : ClaimsOnly s u := by
  refine ⟨fun d => keptAs_trans (h.1 d) (k.1 d), ?_⟩
  rw [k.2, h.2]

theorem claimsOnly_updArb (s : State) (p : Pump) (f : Arbiter → Arbiter) : ClaimsOnly s (s.updArb p f) := by
  cases p <;> exact ⟨fun _ => keptAs_refl _, rfl⟩

theorem claimsOnly_setStanding (c : Chan) (st : Standing) (s : State) : ClaimsOnly s (s.setStanding c st) := by
  refine ⟨fun d => ?_, rfl⟩
  by_cases h : d = c
  · subst h
    simp only [State.setStanding, updChan_eq, chan_setChan]
    split
    · rename_i x hw
      exact ⟨rfl, .inr ⟨x, st, _, hw, rfl, by by_cases h : st = .granted <;> simp [h]⟩⟩
    all_goals exact keptAs_refl _
  · simp only [State.setStanding, updChan_eq, chan_setChan_ne _ _ h]; exact keptAs_refl _

/-- R79: a grant. -/
theorem claimsOnly_startGrant (p : Pump) (c : Chan) (s : State) : ClaimsOnly s (startGrant p c s) :=
  (claimsOnly_updArb s p _).trans (claimsOnly_setStanding c _ _)

/-- R78: a claim. -/
theorem claimsOnly_makeClaim (c : Chan) (s : State) : ClaimsOnly s (makeClaim c s) := by
  unfold makeClaim claimPump
  split
  · split
    · exact claimsOnly_startGrant _ _ _
    all_goals exact (claimsOnly_updArb s _ _).trans (claimsOnly_setStanding c _ _)
  · exact ClaimsOnly.refl s

/-- R82: the pump passed on. -/
theorem claimsOnly_passOn (p : Pump) (s : State) : ClaimsOnly s (passOn p s) := by
  unfold passOn
  split
  · exact (claimsOnly_updArb s p _).trans (claimsOnly_startGrant _ _ _)
  · exact claimsOnly_updArb s p _

/-- R82: a withdrawal. -/
theorem claimsOnly_withdrawClaim (c : Chan) (s : State) : ClaimsOnly s (withdrawClaim c s) := by
  unfold withdrawClaim
  split
  · split
    · exact claimsOnly_setStanding c _ s
    · split
      · refine ClaimsOnly.trans ?_ (claimsOnly_setStanding c _ _)
        split
        · split
          · exact (claimsOnly_updArb s _ _).trans (claimsOnly_passOn _ _)
          · exact claimsOnly_updArb s _ _
        · split
          · exact (claimsOnly_updArb s _ _).trans (claimsOnly_passOn _ _)
          · exact claimsOnly_updArb s _ _
        · exact claimsOnly_updArb s _ _
      · exact claimsOnly_setStanding c _ s
  all_goals exact ClaimsOnly.refl s

/-- A channel that works no INJECT is left as it is by a withdrawal of its own. -/
theorem withdrawClaim_of_notInject (c : Chan) (s : State) (h : ∀ x, (s.chan c).work ≠ .inject x) :
    withdrawClaim c s = s := by
  unfold withdrawClaim
  split
  · rename_i w hw; exact absurd hw (h w)
  all_goals rfl

/-- Where the operation leaves a part that differs from `s` in claims alone, every field but those is the field of
`s`. -/
theorem ClaimsOnly.fields {s t : State} (h : ClaimsOnly s t) :
    t.line = s.line ∧ t.store = s.store ∧ t.scales = s.scales ∧ t.inputs = s.inputs ∧ t.walls = s.walls ∧
      t.records = s.records ∧ t.reports = s.reports ∧ t.mgmt = s.mgmt ∧ t.pins = s.pins ∧ t.due = s.due ∧
      t.freezeOrders = s.freezeOrders ∧ t.sent = s.sent ∧ t.pending = s.pending := by
  rw [h.2]; simp

end Sys2Proof.Machine.Laws
end

