-- ==== Sys2Proof/Laws/Freezing.lean ====
section
/-! SUPPORT. What freeze causes do (R17, R18, R122): `addCause` on one channel, and a cause that reaches every channel of
a list, in any order. -/

namespace Sys2Proof.Machine.Laws

@[simp] theorem freezeSet_has_add (f : FreezeSet) (k : FreezeCause) : (f.add k).has k = true := by cases k <;> rfl

@[simp] theorem freezeSet_add_add (f : FreezeSet) (k : FreezeCause) : (f.add k).add k = f.add k := by cases k <;> rfl

theorem freezeSet_add_of_has {f : FreezeSet} {k : FreezeCause} (h : f.has k = true) : f.add k = f := by
  cases f; cases k <;> simp_all [FreezeSet.add, FreezeSet.has]

/-- R17: a channel that is not IDLE as a cause leaves it. -/
def caused (k : FreezeCause) (a : Channel) : Channel :=
  { a with
    freeze := a.freeze.add k
    state := if a.state = .running ∧ a.freeze.has k = false then .frozen else a.state }

theorem caused_idle (k : FreezeCause) (a : Channel) : (caused k a).state = .idle ↔ a.state = .idle := by
  unfold caused
  by_cases h : a.state = .running ∧ a.freeze.has k = false <;> simp [h]

theorem caused_caused (k : FreezeCause) (a : Channel) : caused k (caused k a) = caused k a := by
  simp only [caused, freezeSet_add_add, freezeSet_has_add, Bool.true_eq_false, and_false, if_false]

theorem keptAs_caused {k : FreezeCause} {a b : Channel} (h : KeptAs a b) : KeptAs (caused k a) (caused k b) := by
  refine ⟨?_, h.2⟩
  conv_lhs => rw [h.1]
  rfl

theorem keptAs_state {a b : Channel} (h : KeptAs a b) : b.state = a.state := by rw [h.1]

theorem keptAs_freeze {a b : Channel} (h : KeptAs a b) : b.freeze = a.freeze := by rw [h.1]

/-- The fields that a freezing event leaves as they are: all but the channels, the Arbiters, the notice SAMPLE_STALE and
the orders not yet used. -/
def FreezeKeeps (s t : State) : Prop :=
  t.line = s.line ∧ t.store = s.store ∧ t.scales = s.scales ∧ t.inputs = s.inputs ∧ t.walls = s.walls ∧
  t.records = s.records ∧ t.reports = s.reports ∧ t.pins = s.pins ∧ t.due = s.due ∧ t.sent = s.sent ∧
  t.pending = s.pending

theorem FreezeKeeps.refl (s : State) : FreezeKeeps s s := by simp [FreezeKeeps]

theorem FreezeKeeps.trans {s t u : State} (h : FreezeKeeps s t) (k : FreezeKeeps t u) : FreezeKeeps s u := by
  obtain ⟨h1, h2, h3, h4, h5, h6, h7, h8, h9, h10, h11⟩ := h
  obtain ⟨k1, k2, k3, k4, k5, k6, k7, k8, k9, k10, k11⟩ := k
  exact ⟨k1.trans h1, k2.trans h2, k3.trans h3, k4.trans h4, k5.trans h5, k6.trans h6, k7.trans h7, k8.trans h8,
    k9.trans h9, k10.trans h10, k11.trans h11⟩

/-- R17: everything the addition of one cause to one channel can do to the channels and the blocks beside them. -/
theorem addCause_spec (k : FreezeCause) (c : Chan) (s : State) :
    CauseReaches k (fun d => d = c) s (addCause k c s) ∧ FreezeKeeps s (addCause k c s) ∧
      (k ≠ .sampleStale → (addCause k c s).mgmt = s.mgmt) := by
  unfold addCause
  by_cases hn : (s.chan c).state = .idle ∨ (s.chan c).freeze.has k = true
  · simp only [hn, if_true]
    refine ⟨fun d => ⟨?_, fun _ => keptAs_refl _⟩, FreezeKeeps.refl s, fun _ => trivial⟩
    rintro rfl hi
    rcases hn with hn | hn
    · exact absurd hn hi
    · have : caused k (s.chan d) = s.chan d := by
        simp only [caused, freezeSet_add_of_has hn, hn, Bool.true_eq_false, and_false, if_false]
      show KeptAs (caused k (s.chan d)) _
      rw [this]; exact keptAs_refl _
  · simp only [hn, if_false]
    obtain ⟨hi, hh⟩ := not_or.mp hn
    have hh' : (s.chan c).freeze.has k = false := by simpa using hh
    have hl : ∀ u : State, (latchStale k u).chans = u.chans ∧ FreezeKeeps u (latchStale k u) ∧
        (k ≠ .sampleStale → latchStale k u = u) := by
      intro u; unfold latchStale; split
      · refine ⟨rfl, ?_, fun h => absurd ‹_› h⟩; simp [FreezeKeeps]
      · exact ⟨rfl, FreezeKeeps.refl u, fun _ => rfl⟩
    have hc : ∀ u d, (latchStale k u).chan d = u.chan d := fun u d => by simp only [State.chan, (hl u).1]
    by_cases hr : (s.chan c).state = .running
    · simp only [hr, if_true, freezeEffect]
      generalize hu : latchStale k (s.updChan c fun ch => { ch with freeze := ch.freeze.add k }) = u
      have hk := claimsOnly_withdrawClaim c (u.updChan c fun ch => { ch with state := .frozen })
      have hud : ∀ d, u.chan d = (s.updChan c fun ch => { ch with freeze := ch.freeze.add k }).chan d := fun d => by
        rw [← hu, hc]
      have huk : FreezeKeeps s u := by
        rw [← hu]; exact FreezeKeeps.trans (by simp [FreezeKeeps]) (hl _).2.1
      refine ⟨fun d => ?_, huk.trans ?_, fun h => ?_⟩
      · refine ⟨?_, fun h => ?_⟩
        · rintro rfl -
          have : (u.updChan d fun ch => { ch with state := .frozen }).chan d = caused k (s.chan d) := by
            simp [hud, caused, hr, hh']
          have h := hk.1 d
          rw [this] at h
          exact h
        · have hd : d ≠ c := by
            rintro rfl
            rcases h with h | h
            · exact h rfl
            · exact hi h
          have : (u.updChan c fun ch => { ch with state := .frozen }).chan d = s.chan d := by
            simp [chan_setChan_ne _ _ hd, hud]
          have h := hk.1 d
          rw [this] at h
          exact h
      · obtain ⟨h1, h2, h3, h4, h5, h6, h7, h8, h9, h10, h11, h12, h13⟩ := hk.fields
        simp_all [FreezeKeeps]
      · obtain ⟨h1, h2, h3, h4, h5, h6, h7, h8, h9, h10, h11, h12, h13⟩ := hk.fields
        rw [h8, ← hu, (hl _).2.2 h]; simp
    · simp only [hr, if_false]
      refine ⟨fun d => ⟨?_, fun h => ?_⟩, FreezeKeeps.trans (by simp [FreezeKeeps]) (hl _).2.1, fun h => ?_⟩
      · rintro rfl -
        have : (latchStale k (s.updChan d fun ch => { ch with freeze := ch.freeze.add k })).chan d = caused k (s.chan d) := by
          simp [hc, caused, hr]
        rw [this]
        exact keptAs_refl _
      · have hd : d ≠ c := by
          rintro rfl
          rcases h with h | h
          · exact h rfl
          · exact hi h
        have : (latchStale k (s.updChan c fun ch => { ch with freeze := ch.freeze.add k })).chan d = s.chan d := by
          simp [hc, chan_setChan_ne _ _ hd]
        rw [this]
        exact keptAs_refl _
      · rw [(hl _).2.2 h]; simp

/-- R122, R124: a cause taken by the channels of a list one after another reaches each of them, in whatever order and
however often the list names them. -/
theorem addCauses_spec (k : FreezeCause) : ∀ (l : List Chan) (s : State),
    let t := l.foldl (fun s c => addCause k c s) s
    CauseReaches k (fun d => d ∈ l) s t ∧ FreezeKeeps s t ∧ (k ≠ .sampleStale → t.mgmt = s.mgmt)
  | [], s => ⟨fun d => ⟨fun h => by simp at h, fun _ => keptAs_refl _⟩, FreezeKeeps.refl s, fun _ => rfl⟩
  | c :: l, s => by
    obtain ⟨h1, h2, h3⟩ := addCause_spec k c s
    obtain ⟨k1, k2, k3⟩ := addCauses_spec k l (addCause k c s)
    simp only [List.foldl_cons]
    refine ⟨fun d => ?_, h2.trans k2, fun h => (k3 h).trans (h3 h)⟩
    generalize hu : addCause k c s = u at *
    generalize ht : l.foldl (fun s c => addCause k c s) u = t at *
    have hidle : (u.chan d).state = .idle ↔ (s.chan d).state = .idle := by
      by_cases hd : d = c ∧ (s.chan d).state ≠ .idle
      · have := keptAs_state ((h1 d).1 hd.1 hd.2)
        rw [this]; exact caused_idle k (s.chan d)
      · have := keptAs_state ((h1 d).2 (by tauto))
        rw [this]
    refine ⟨fun hm hi => ?_, fun hm => ?_⟩
    · show KeptAs (caused k (s.chan d)) (t.chan d)
      by_cases hd : d = c
      · have hsu : KeptAs (caused k (s.chan d)) (u.chan d) := (h1 d).1 hd hi
        by_cases hdl : d ∈ l
        · have : KeptAs (caused k (u.chan d)) (t.chan d) := (k1 d).1 hdl (by rwa [ne_eq, hidle])
          have h' := keptAs_caused (k := k) hsu
          rw [caused_caused] at h'
          exact keptAs_trans h' this
        · exact keptAs_trans hsu ((k1 d).2 (Or.inl hdl))
      · have hsu : KeptAs (s.chan d) (u.chan d) := (h1 d).2 (Or.inl hd)
        have hdl : d ∈ l := by simpa [hd] using hm
        exact keptAs_trans (keptAs_caused hsu) ((k1 d).1 hdl (by rwa [ne_eq, hidle]))
    · have hsu : KeptAs (s.chan d) (u.chan d) := (h1 d).2 (by
        rcases hm with hm | hm
        · left; intro hd; exact hm (by simp [hd])
        · exact Or.inr hm)
      refine keptAs_trans hsu ((k1 d).2 ?_)
      rcases hm with hm | hm
      · left; intro hd; exact hm (by simp [hd])
      · exact Or.inr (hidle.mpr hm)

theorem mem_freezeTurn (s : State) (d : Chan) : d ∈ freezeTurn s := by
  have : d ∈ allChans := by revert d; decide
  simp [freezeTurn, this]

/-- R122: a cause that reaches every channel. -/
theorem addCauseToAll_spec (k : FreezeCause) (s : State) :
    CauseReaches k (fun _ => True) s (addCauseToAll k s) ∧ FreezeKeeps s (addCauseToAll k s) ∧
      (k ≠ .sampleStale → (addCauseToAll k s).mgmt = s.mgmt) := by
  obtain ⟨h1, h2, h3⟩ := addCauses_spec k (freezeTurn s) s.freezeTaken
  have hk : FreezeKeeps s s.freezeTaken := by simp [FreezeKeeps, State.freezeTaken]
  refine ⟨fun d => ⟨fun _ hi => (h1 d).1 (mem_freezeTurn s d) hi, fun h => (h1 d).2 ?_⟩, hk.trans h2, h3⟩
  rcases h with h | h
  · exact absurd trivial h
  · exact Or.inr h

end Sys2Proof.Machine.Laws
end

