-- ==== Sys2Proof/Laws/Leaving.lean ====
section
/-! SUPPORT. What faults and the leaving of a step do (R13 to R16, with the accounting of R38, R68, R76 and R99). -/

namespace Sys2Proof.Machine.Laws

theorem claimsOnly_others {s t : State} (h : ClaimsOnly s t) (c : Chan) : OthersKept c s t := fun d _ => h.1 d

/-- R16: everything a fault can do to a RUNNING or FROZEN channel. -/
theorem faultChannel_spec (cause : FaultCause) (c : Chan) (s : State)
    (h : (s.chan c).state = .running ∨ (s.chan c).state = .frozen) :
    FaultsWith cause c s (faultChannel cause c s) ∧ (faultChannel cause c s).line = s.line ∧
      (faultChannel cause c s).due = s.due ∧ (faultChannel cause c s).sent = s.sent ∧
      (faultChannel cause c s).pending = s.pending := by
  unfold faultChannel
  simp only [h, if_true]
  generalize hu : ((s.updChan c fun ch => ({ ch with
      state := .faulted, fault := some cause,
      record := ch.record.map fun r => { r with fault := some cause } } : Channel)).updLatched
        fun l => { l with channelFault := true }) = u
  have hk := claimsOnly_withdrawClaim c u
  have hf := hk.fields
  obtain ⟨h1, h2, h3, h4, h5, h6, h7, h8, h9, h10, h11, h12, h13⟩ := hf
  have huc : u.chan c = { s.chan c with
      state := .faulted, fault := some cause, record := (s.chan c).record.map fun r => { r with fault := some cause } } := by
    rw [← hu]; simp
  have hud : ∀ d, d ≠ c → u.chan d = s.chan d := fun d hd => by rw [← hu]; simp [chan_setChan_ne _ _ hd]
  refine ⟨⟨huc ▸ hk.1 c, fun d hd => ?_, ?_, ?_, ?_, ?_, ?_, ?_, ?_, ?_⟩, ?_, ?_, ?_, ?_⟩
  · have := hk.1 d; rwa [hud d hd] at this
  all_goals simp only [h1, h2, h3, h4, h5, h6, h7, h8, h9, h10, h12, h13]; rw [← hu]; simp; try rfl

/-- R16: in every other state a fault has no effect. -/
theorem faultChannel_ignored (cause : FaultCause) (c : Chan) (s : State)
    (h : ¬ ((s.chan c).state = .running ∨ (s.chan c).state = .frozen)) : faultChannel cause c s = s := by
  unfold faultChannel
  simp only [h, if_false]

/-- R38, R68, R76, R99: a channel once the end-of-step accounting of its step's kind is done, the step's own fields
apart. -/
def accounted (ch : Channel) : Channel :=
  match ch.work with
  | .ramp _ => { ch with profile := ch.profile.disengage }
  | .hold _ => { ch with profile := ch.profile.disengage }
  | .payout w => { ch with profile := ch.profile.disengage, record := ch.record.map (Record.addPayout w) }
  | .lockoff _ => { ch with profile := ch.profile.disengage, wedge := false, jack := { ch.jack with integral := 0 } }
  | .inject w => { ch with record := ch.record.map (Record.addInject w) }
  | .none | .check _ | .await _ | .signal | .finish => ch

/-- R13: the channel that leaves its step with `phase` and `index`. -/
def leftWith (phase : StepPhase) (index : Nat) (ch : Channel) : Channel :=
  { accounted ch with
    phase := phase, index := index, work := .none
    freeze := ch.freeze.without FreezeSet.onlyStale
    state := if ch.state = .frozen ∧ (ch.freeze.without FreezeSet.onlyStale).isEmpty = true then .running else ch.state }

theorem accounted_state (ch : Channel) : (accounted ch).state = ch.state := by unfold accounted; split <;> rfl

theorem accounted_freeze (ch : Channel) : (accounted ch).freeze = ch.freeze := by unfold accounted; split <;> rfl

/-- R38 and the others: the accounting of the current step. -/
theorem stepAccounting_spec (c : Chan) (s : State) :
    { (stepAccounting c s).chan c with work := .none } = { accounted (s.chan c) with work := .none } ∧
      OthersKept c s (stepAccounting c s) ∧ FreezeKeeps s (stepAccounting c s) ∧ (stepAccounting c s).mgmt = s.mgmt ∧
      (stepAccounting c s).freezeOrders = s.freezeOrders := by
  have hr : ∀ (u : State) (f : Channel → Channel), OthersKept c u (u.updChan c f) := fun u f d hd => by
    simp only [updChan_eq, chan_setChan_ne _ _ hd]; exact keptAs_refl _
  unfold stepAccounting
  split <;> rename_i hw
  · exact ⟨by simp [accounted, hw], hr _ _, by simp [FreezeKeeps], rfl, rfl⟩
  · exact ⟨by simp [accounted, hw], hr _ _, by simp [FreezeKeeps], rfl, rfl⟩
  · refine ⟨by simp [accounted, hw], fun d hd => ?_, by simp [FreezeKeeps], rfl, rfl⟩
    simp only [updRecord_eq, updProfile_eq, setChan_setChan, chan_setChan_ne _ _ hd]; exact keptAs_refl _
  · exact ⟨by simp [accounted, hw], hr _ _, by simp [FreezeKeeps], rfl, rfl⟩
  · have hk := claimsOnly_withdrawClaim c s
    obtain ⟨h1, h2, h3, h4, h5, h6, h7, h8, h9, h10, h11, h12, h13⟩ := hk.fields
    refine ⟨?_, fun d hd => ?_, ?_, ?_, ?_⟩
    · simp only [updRecord_eq, chan_setChan, accounted, hw]
      have := (hk.1 c).1
      generalize (withdrawClaim c s).chan c = b at this ⊢
      rw [this]
    · simp only [updRecord_eq, chan_setChan_ne _ _ hd]; exact hk.1 d
    · simp [FreezeKeeps, *]
    · simp [h8]
    · simp [h11]
  all_goals exact ⟨by simp [accounted, hw], fun d _ => keptAs_refl _, FreezeKeeps.refl s, rfl, rfl⟩

/-- R13: everything the leaving of a step can do: the channel itself, and the claims of the others. -/
theorem leaveStep_spec (phase : StepPhase) (index : Nat) (c : Chan) (s : State) :
    (leaveStep phase index c s).chan c = leftWith phase index (s.chan c) ∧
      OthersKept c s (leaveStep phase index c s) ∧ FreezeKeeps s (leaveStep phase index c s) ∧
      (leaveStep phase index c s).mgmt = s.mgmt ∧ (leaveStep phase index c s).freezeOrders = s.freezeOrders := by
  obtain ⟨h1, h2, h3, h4, h5⟩ := stepAccounting_spec c s
  have hst : ((stepAccounting c s).chan c).state = (s.chan c).state := by
    have := congrArg Channel.state h1; simpa [accounted_state] using this
  have hfr : ((stepAccounting c s).chan c).freeze = (s.chan c).freeze := by
    have := congrArg Channel.freeze h1; simpa [accounted_freeze] using this
  generalize hu : stepAccounting c s = u at *
  have key : leaveStep phase index c s = u.setChan c (leftWith phase index (s.chan c)) := by
    unfold leaveStep removeCauses
    rw [hu]
    simp only [updChan_eq, chan_setChan, setChan_setChan, hst, hfr, thawEffect]
    split <;> rename_i hc
    · refine (congrArg (fun x : Channel => u.setChan c { x with
        phase := phase, index := index, freeze := (s.chan c).freeze.without FreezeSet.onlyStale, state := .running }) h1).trans ?_
      simp only [leftWith, hc, and_self, if_true]
    · refine (congrArg (fun x : Channel => u.setChan c { x with
        phase := phase, index := index, freeze := (s.chan c).freeze.without FreezeSet.onlyStale
        state := (s.chan c).state }) h1).trans ?_
      simp only [leftWith, hc, if_false]
  rw [key]
  refine ⟨chan_setChan _ _ _, fun d hd => ?_, h3.trans (by simp [FreezeKeeps]), by simpa using h4, by simpa using h5⟩
  rw [chan_setChan_ne _ _ hd]; exact h2 d hd

end Sys2Proof.Machine.Laws
end

