-- ==== Sys2Proof/Laws/Line.lean ====
section
/-! SUPPORT. What the line does to the part, each said once: the settling of a cycle start (R154), and a slot that
arrives, in each alignment and at each kind of position (R147 to R152, R156 to R159). -/

namespace Sys2Proof.Machine.Laws

/-! ### Settling -/

/-- With nothing due a cycle start is finished. -/
@[simp] theorem finishCycleStart_of_nothing_due (s : State) (h : s.due = []) : finishCycleStart s = s := by
  simp [finishCycleStart, h]

/-- Once a cycle start is finished only a device reset may be due. -/
theorem finishCycleStart_due (s : State) : (finishCycleStart s).due = s.due.filter (· = .deviceReset) := by
  unfold finishCycleStart
  split <;> rename_i h
  · simp [h]
  · rfl

/-- `settle` leaves a part with nothing due as it is. -/
@[simp] theorem settle_of_nothing_due (s : State) (h : s.due = []) : settle s = s := by simp [settle, h]

/-- After `settle` nothing is due. -/
@[simp] theorem settle_due (s : State) : (settle s).due = [] := by
  unfold settle
  split <;> rename_i h
  · rfl
  · rw [finishCycleStart_due]
    exact List.filter_eq_nil_iff.mpr fun a ha => by
      simpa using fun e : a = .deviceReset => h (e ▸ ha)

/-! ### A slot arrives -/

/-- With nothing due the slot meets the part as it is. -/
theorem slotEvent_of_nothing_due (order : List CycleWork) (slot : Slot) (s : State) (h : s.due = []) :
    slotEvent order slot s = slotArrives order slot (s.passSlots []) := by
  simp [slotEvent, State.listening, h]

/-- R147, R164: a part held in reset repeats the slot. -/
theorem slotArrives_reset {order : List CycleWork} {slot : Slot} {s : State} (h : s.pins.resetIn = true) :
    slotArrives order slot s = s.emit slot := by simp [slotArrives, h]

/-- R149: in HUNT every slot is examined. -/
theorem slotArrives_hunt {order : List CycleWork} {slot : Slot} {s : State} (h : s.pins.resetIn = false)
    (ha : s.line.alignment = .hunt) : slotArrives order slot s = huntExamine slot (s.emit slot) := by
  simp [slotArrives, h, ha]

/-- R150: in CONFIRM positions are counted, and the slot after position N − 1 is examined. -/
theorem slotArrives_confirm {order : List CycleWork} {slot : Slot} {s : State} (h : s.pins.resetIn = false)
    (ha : s.line.alignment = .confirm) :
    slotArrives order slot s = if s.atSync then confirmExamine order slot (s.emit slot) else s.sendNext slot := by
  simp [slotArrives, h, ha]

/-- R156 to R159: in a worked cycle a slot before the sync position is handled by its position. -/
theorem slotArrives_work {order : List CycleWork} {slot : Slot} {s : State} (h : s.worked = true)
    (hs : s.atSync = false) : slotArrives order slot s = workSlot slot s := by
  unfold State.worked at h
  simp only [Bool.and_eq_true, Bool.not_eq_true', Bool.or_eq_true, decide_eq_true_eq] at h
  obtain ⟨h1, h2 | h2⟩ := h <;> simp [slotArrives, h1, h2, hs]

/-- R151, R152: in a worked cycle the slot after position N − 1 is the sync position. -/
theorem slotArrives_sync {order : List CycleWork} {slot : Slot} {s : State} (h : s.worked = true)
    (hs : s.atSync = true) :
    slotArrives order slot s =
      if s.line.alignment = .locked then lockedExamine order slot (s.emit slot)
      else flywheelExamine order slot (s.emit slot) := by
  unfold State.worked at h
  simp only [Bool.and_eq_true, Bool.not_eq_true', Bool.or_eq_true, decide_eq_true_eq] at h
  obtain ⟨h1, h2 | h2⟩ := h <;> simp [slotArrives, h1, h2, hs]

/-- R148: a mapped position has an entry only in a worked cycle, before the sync position. -/
theorem nextEntry_some {s : State} {e : SlotEntry} (h : s.nextEntry = some e) :
    s.worked = true ∧ s.atSync = false ∧ 17 ≤ s.nextPos ∧ bankEntry s.line.active s.nextPos = e := by
  unfold State.nextEntry at h
  split at h
  · rename_i hc
    simp only [Bool.and_eq_true, Bool.not_eq_true', decide_eq_true_eq] at hc
    exact ⟨hc.1.1, hc.1.2, hc.2, by simpa using h⟩
  · cases h

/-- R150 to R152: the slot after position N − 1. -/
theorem atSync_of_AtSync {s : State} (h : AtSync s) : s.atSync = true := by
  obtain ⟨n, h1, h2⟩ := h
  simp [State.atSync, State.nextPos, h1, h2]

/-- A slot before the expected sync position. -/
theorem atSync_of_BeforeSync {s : State} (h : BeforeSync s) : s.atSync = false := by
  obtain ⟨n, h1, h2⟩ := h
  simp only [State.atSync, State.nextPos, h1, Option.getD_some, decide_eq_false_iff_not]
  omega

/-- R158: a mapped position of a worked cycle has its entry. -/
theorem nextEntry_of_SlotAt {s : State} {pos : Nat} {e : SlotEntry} (h : SlotAt s pos e) :
    s.nextEntry = some e ∧ pos = s.nextPos := by
  obtain ⟨h1, h2, rfl, h4, h5⟩ := h
  exact ⟨by simp [State.nextEntry, h1, atSync_of_BeforeSync h2, State.nextPos, h4, h5], rfl⟩

/-- R158: the slot at a mapped position is handled by its entry. -/
theorem slotArrives_entry {order : List CycleWork} {slot : Slot} {s : State} {e : SlotEntry}
    (h : s.nextEntry = some e) :
    slotArrives order slot s = entrySlot e slot s := by
  obtain ⟨h1, h2, -, -⟩ := nextEntry_some h
  rw [slotArrives_work h1 h2, workSlot, h]

end Sys2Proof.Machine.Laws
end

