-- ==== Sys2Proof/Laws/LineCoding.lean ====
section
/-! SUPPORT. What the receiver reads of one character, of the line at rest, and of one slot (R199). -/

namespace Sys2Proof.Machine.Laws

/-- The line at rest is passed over. -/
@[simp] theorem readCharacters_rest (bs : List Bool) : readCharacters (true :: bs) = readCharacters bs := rfl

/-- The eight data bits, most significant first, are the byte. -/
theorem ofBoolListBE_getLsbD (d : Byte) :
    (BitVec.ofBoolListBE [d.getLsbD 7, d.getLsbD 6, d.getLsbD 5, d.getLsbD 4, d.getLsbD 3, d.getLsbD 2, d.getLsbD 1,
      d.getLsbD 0] : Byte) = d := by
  revert d; decide +kernel

/-- A character's ten bits are read as that character. -/
@[simp] theorem readCharacters_bits (c : Character) (bs : List Bool) :
    readCharacters (c.bits ++ bs) = c :: readCharacters bs :=
  congrArg (fun d => Character.mk d c.stop :: readCharacters bs) (ofBoolListBE_getLsbD c.data)

/-- A slot's five characters are delimited as that slot. -/
@[simp] theorem delimit_slot (x : Slot) (cs : List Character) : delimit (slotCharacters x ++ cs) = x :: delimit cs := rfl

/-- A character with a high stop bit starts no slot. -/
@[simp] theorem delimit_high (d : Byte) (cs : List Character) : delimit (⟨d, true⟩ :: cs) = delimit cs := by
  match cs with
  | [] | [_] | [_, _] | [_, _, _] | _ :: _ :: _ :: _ :: _ => rfl

end Sys2Proof.Machine.Laws
end

