-- ==== Sys2Proof/Laws/Sparse.lean ====
section
/-! SUPPORT. The sparse tables: what a write leaves at its index and everywhere else, and that it keeps the canonical
form. -/

namespace Sys2Proof.Machine.Laws

variable {α : Type}

theorem sparse_get_insert_self (d : α) (i : Nat) (v : α) :
    ∀ t : SparseTable α, (∀ e ∈ t, e.1 ≠ i) → Sparse.get d (Sparse.insert i v t) i = v
  | [], _ => by simp [Sparse.insert, Sparse.get]
  | (k, w) :: t, h => by
    have hk : i ≠ k := fun e => h (k, w) (by simp) e.symm
    by_cases hlt : i < k
    · simp [Sparse.insert, Sparse.get, hlt]
    · simp only [Sparse.insert, hlt, if_false, Sparse.get, hk]
      exact sparse_get_insert_self d i v t fun e he => h e (by simp [he])

theorem sparse_get_insert_ne (d : α) {i j : Nat} (v : α) (h : j ≠ i) :
    ∀ t : SparseTable α, Sparse.get d (Sparse.insert i v t) j = Sparse.get d t j
  | [] => by simp [Sparse.insert, Sparse.get, h]
  | (k, w) :: t => by
    by_cases hlt : i < k
    · simp [Sparse.insert, Sparse.get, hlt, h]
    · simp only [Sparse.insert, hlt, if_false, Sparse.get, sparse_get_insert_ne d v h t]

theorem sparse_get_filter_ne (d : α) {i j : Nat} (h : j ≠ i) :
    ∀ t : SparseTable α, Sparse.get d (t.filter fun e => e.1 ≠ i) j = Sparse.get d t j
  | [] => rfl
  | (k, w) :: t => by
    by_cases hk : k = i
    · subst hk; simp only [ne_eq, not_true_eq_false, decide_false, Bool.false_eq_true, not_false_eq_true,
        List.filter_cons_of_neg, Sparse.get, h, if_false]; exact sparse_get_filter_ne d h t
    · simp only [ne_eq, hk, not_false_eq_true, decide_true, List.filter_cons_of_pos, Sparse.get]
      rw [← sparse_get_filter_ne d h t]

theorem sparse_get_absent (d : α) (i : Nat) : ∀ t : SparseTable α, (∀ e ∈ t, e.1 ≠ i) → Sparse.get d t i = d
  | [], _ => rfl
  | (k, w) :: t, h => by
    have hk : i ≠ k := fun e => h (k, w) (by simp) e.symm
    simp only [Sparse.get, hk, if_false]
    exact sparse_get_absent d i t fun e he => h e (by simp [he])

theorem sparse_mem_insert {i : Nat} {v : α} {e : Nat × α} :
    ∀ {t : SparseTable α}, e ∈ Sparse.insert i v t ↔ e = (i, v) ∨ e ∈ t
  | [] => by simp [Sparse.insert]
  | (k, w) :: t => by
    by_cases hlt : i < k
    · simp [Sparse.insert, hlt]
    · simp only [Sparse.insert, hlt, if_false, List.mem_cons, sparse_mem_insert (t := t)]; tauto

theorem sparse_insert_rising {i : Nat} {v : α} :
    ∀ {t : SparseTable α}, (t.map Prod.fst).Pairwise (· < ·) → (∀ e ∈ t, e.1 ≠ i) →
      ((Sparse.insert i v t).map Prod.fst).Pairwise (· < ·)
  | [], _, _ => by simp [Sparse.insert]
  | (k, w) :: t, h, hi => by
    rw [List.map_cons, List.pairwise_cons] at h
    by_cases hlt : i < k
    · simp only [Sparse.insert, hlt, if_true, List.map_cons, List.pairwise_cons, List.mem_cons]
      refine ⟨?_, h⟩
      rintro a (rfl | ha)
      · exact hlt
      · exact Nat.lt_trans hlt (h.1 a ha)
    · simp only [Sparse.insert, hlt, if_false, List.map_cons, List.pairwise_cons]
      refine ⟨?_, sparse_insert_rising h.2 fun e he => hi e (by simp [he])⟩
      intro a ha
      obtain ⟨e, he, rfl⟩ := List.mem_map.mp ha
      rcases sparse_mem_insert.mp he with rfl | he
      · have := hi (k, w) (by simp); simp only at this ⊢; omega
      · exact h.1 e.1 (List.mem_map.mpr ⟨e, he, rfl⟩)

/-- A read of a table whose entries have been changed by a function that keeps the default. -/
theorem sparse_get_map (d : α) (f : α → α) (hf : f d = d) :
    ∀ (t : SparseTable α) (i : Nat), Sparse.get d (t.map fun e => (e.1, f e.2)) i = f (Sparse.get d t i)
  | [], _ => hf.symm
  | (k, w) :: t, i => by
    by_cases h : i = k
    · simp [Sparse.get, h]
    · simp only [List.map_cons, Sparse.get, h, if_false]; exact sparse_get_map d f hf t i

variable [DecidableEq α]

/-- A read after a write of the same index gives the value written. -/
@[simp] theorem sparse_get_set_self (d : α) (t : SparseTable α) (i : Nat) (v : α) :
    Sparse.get d (Sparse.set d t i v) i = v := by
  have h : ∀ e ∈ t.filter (fun e => e.1 ≠ i), e.1 ≠ i := fun e he => by simpa using (List.mem_filter.mp he).2
  unfold Sparse.set
  split
  · rename_i hv; rw [hv]; exact sparse_get_absent d i _ h
  · exact sparse_get_insert_self d i v _ h

/-- A write leaves every other index as it was. -/
theorem sparse_get_set_ne (d : α) (t : SparseTable α) {i j : Nat} (v : α) (h : j ≠ i) :
    Sparse.get d (Sparse.set d t i v) j = Sparse.get d t j := by
  unfold Sparse.set
  split
  · exact sparse_get_filter_ne d h t
  · rw [sparse_get_insert_ne d v h]; exact sparse_get_filter_ne d h t

/-- A write keeps the canonical form. -/
theorem sparse_set_wf (d : α) (t : SparseTable α) (i : Nat) (v : α) (h : Sparse.wf d t) :
    Sparse.wf d (Sparse.set d t i v) := by
  have hf : (t.filter fun e => e.1 ≠ i).Sublist t := List.filter_sublist
  have hr : ((t.filter fun e => e.1 ≠ i).map Prod.fst).Pairwise (· < ·) := h.1.sublist (hf.map Prod.fst)
  have hd : ∀ e ∈ t.filter (fun e => e.1 ≠ i), e.2 ≠ d := fun e he => h.2 e (hf.subset he)
  unfold Sparse.set
  split
  · exact ⟨hr, hd⟩
  · rename_i hv
    refine ⟨sparse_insert_rising hr fun e he => by simpa using (List.mem_filter.mp he).2, ?_⟩
    intro e he
    rcases sparse_mem_insert.mp he with rfl | he
    · exact hv
    · exact hd e he

/-- A change of the entries alone, never to the default, keeps the canonical form. -/
theorem sparse_map_wf (d : α) (t : SparseTable α) (f : α → α) (h : Sparse.wf d t) (hf : ∀ v, v ≠ d → f v ≠ d) :
    Sparse.wf d (t.map fun e => (e.1, f e.2)) := by
  refine ⟨by simpa [Function.comp_def] using h.1, ?_⟩
  intro e he
  obtain ⟨x, hx, rfl⟩ := List.mem_map.mp he
  exact hf x.2 (h.2 x hx)

end Sys2Proof.Machine.Laws
end

