-- ==== Sys2Proof/Laws/Operations.lean ====
section
/-! SUPPORT. What the other shared operations do, each said once: input records (R135), causes removed (R125, R142), wall
points changed (R119, R122), the accumulator under its ceiling (R35), programs started and ended (R9, R19, R20, R185). -/

namespace Sys2Proof.Machine.Laws

/-! ### Input records -/

theorem target_code_injective {x y : Target} (h : x.code = y.code) : x = y := by
  have hm : ∀ a b : Measurand, a.code = b.code → a = b := by intro a b; cases a <;> cases b <;> decide
  have hl : ∀ a : Measurand, a.code < 9 := by intro a; cases a <;> decide
  have hp : ∀ p : Pump, pumpCode p < 2 := by intro p; cases p <;> decide
  have hq : ∀ p q : Pump, pumpCode p = pumpCode q → p = q := by intro p q; cases p <;> cases q <;> decide
  cases x with
  | chan c m =>
    cases y with
    | chan d n =>
      have h1 := hl m; have h2 := hl n
      simp only [Target.code] at h
      have hc : c = d := by apply Fin.ext; omega
      subst hc
      rw [hm m n (by omega)]
    | pumpEcho p => have := hl m; have := c.isLt; simp only [Target.code] at h; omega
    | wallMove w => have := hl m; have := c.isLt; simp only [Target.code] at h; omega
  | pumpEcho p =>
    cases y with
    | chan d n => have := hl n; have := d.isLt; simp only [Target.code] at h; omega
    | pumpEcho q => simp only [Target.code] at h; rw [hq p q (by omega)]
    | wallMove w => have := hp p; simp only [Target.code] at h; omega
  | wallMove w =>
    cases y with
    | chan d n => have := hl n; have := d.isLt; simp only [Target.code] at h; omega
    | pumpEcho q => have := hp q; simp only [Target.code] at h; omega
    | wallMove v => simp only [Target.code] at h; rw [show w = v from Fin.ext (by omega)]

/-- R136: a record written is the record read. -/
@[simp] theorem input_setInput (s : State) (x : Target) (r : InputRecord) : (s.setInput x r).input x = some r := by
  simp [State.input, State.setInput]

/-- R136: a record written leaves every other record. -/
theorem input_setInput_ne (s : State) {x y : Target} (r : InputRecord) (h : y ≠ x) :
    (s.setInput x r).input y = s.input y := by
  simp only [State.input, State.setInput]
  exact sparse_get_set_ne none _ _ fun k => h (target_code_injective k)

/-- R135: a record keeps everything of the part but the input records. -/
theorem setInput_keeps (s : State) (x : Target) (r : InputRecord) :
    s.setInput x r = { s with inputs := (s.setInput x r).inputs } := rfl

/-! ### Causes removed -/

/-- R125, R142: everything the removal of causes from one channel can do to the channels and the blocks beside them. -/
theorem removeCauses_spec (g : FreezeSet) (c : Chan) (s : State) :
    OthersKept c s (removeCauses g c s) ∧ FreezeKeeps s (removeCauses g c s) ∧ (removeCauses g c s).mgmt = s.mgmt ∧
      ((removeCauses g c s).chan c).freeze = (s.chan c).freeze.without g ∧
      ((removeCauses g c s).chan c).state =
        (if (s.chan c).state = .frozen ∧ ((s.chan c).freeze.without g).isEmpty = true then .running
          else (s.chan c).state) := by
  have ho : ∀ (u : State) (f : Channel → Channel), OthersKept c u (u.updChan c f) := fun u f d hd => by
    simp only [updChan_eq, chan_setChan_ne _ _ hd]; exact keptAs_refl _
  have hstep : ∀ u : State, OthersKept c u (thawEffect c u) ∧ FreezeKeeps u (thawEffect c u) ∧
      (thawEffect c u).mgmt = u.mgmt ∧ ((thawEffect c u).chan c).freeze = (u.chan c).freeze ∧
      ((thawEffect c u).chan c).state = (u.chan c).state := by
    intro u
    unfold thawEffect
    split
    · exact ⟨ho _ _, by simp [FreezeKeeps], by simp, by simp, by simp⟩
    · have hk := claimsOnly_makeClaim c u
      obtain ⟨h1, h2, h3, h4, h5, h6, h7, h8, h9, h10, h11, h12, h13⟩ := hk.fields
      exact ⟨claimsOnly_others hk c, by simp [FreezeKeeps, *], h8, keptAs_freeze (hk.1 c), keptAs_state (hk.1 c)⟩
    all_goals exact ⟨fun _ _ => keptAs_refl _, FreezeKeeps.refl u, rfl, rfl, rfl⟩
  unfold removeCauses
  simp only [updChan_eq, chan_setChan]
  split <;> rename_i h
  · obtain ⟨k1, k2, k3, k4, k5⟩ := hstep ((s.setChan c { s.chan c with freeze := (s.chan c).freeze.without g }).setChan c
      { s.chan c with freeze := (s.chan c).freeze.without g, state := .running })
    refine ⟨fun d hd => ?_, FreezeKeeps.trans (by simp [FreezeKeeps]) k2, by rw [k3]; simp, by rw [k4]; simp, ?_⟩
    · have := k1 d hd
      simpa only [chan_setChan_ne _ _ hd] using this
    · rw [k5]; simp
  · refine ⟨fun d hd => ?_, by simp [FreezeKeeps], by simp, by simp, by simp⟩
    rw [chan_setChan_ne _ _ hd]; exact keptAs_refl _

/-! ### Wall points -/

/-- R119, R122: everything a change of one wall point can do. -/
theorem changeWall_spec (w : Point) (x : WallPoint) (s : State) :
    (s.changeWall w x).walls = s.walls.set w x ∧ (s.changeWall w x).mgmt = s.mgmt ∧
      FreezeKeeps (s.setWall w x) (s.changeWall w x) ∧
      ((s.setWall w x).wallState = .stop → s.wallState ≠ .stop →
        CauseReaches .wallStop (fun _ => True) s (s.changeWall w x)) ∧
      (¬ ((s.setWall w x).wallState = .stop ∧ s.wallState ≠ .stop) → s.changeWall w x = s.setWall w x) := by
  unfold State.changeWall wallChanged
  split <;> rename_i h
  · obtain ⟨h1, h2, h3⟩ := addCauseToAll_spec .wallStop (s.setWall w x)
    refine ⟨?_, ?_, h2, fun _ _ => h1, fun k => absurd h k⟩
    · rw [h2.2.2.2.2.1]; rfl
    · rw [h3 (by decide)]; rfl
  · exact ⟨rfl, rfl, FreezeKeeps.refl _, fun a b => absurd ⟨a, b⟩ h, fun _ => rfl⟩

/-! ### The accumulator -/

/-- R35: a write of acc leaves it at most at ceiling × 256. -/
theorem writeAcc_le (p : Profile) (x : Int) : (p.writeAcc x).acc ≤ (p.writeAcc x).ceiling * 256 := by
  simp only [Profile.writeAcc, clamp]; omega

/-- R33, R36: a segment that becomes the working segment keeps acc under its ceiling. -/
theorem work_le (p : Profile) (g : Segment) (h : p.acc ≤ p.ceiling * 256) : (p.work g).acc ≤ (p.work g).ceiling * 256 := by
  unfold Profile.work
  dsimp only
  split
  · exact writeAcc_le _ _
  · exact h

/-- R33: a slope step keeps acc under its ceiling. -/
theorem slopeStep_le (p : Profile) (h : p.acc ≤ p.ceiling * 256) : p.slopeStep.acc ≤ p.slopeStep.ceiling * 256 := by
  unfold Profile.slopeStep
  split
  · exact writeAcc_le p _
  · exact h

/-- R34: a segment end keeps acc under its ceiling. -/
theorem segmentEnd_le (store : ProgramStore) (p : Profile) (h : p.acc ≤ p.ceiling * 256) :
    (p.segmentEnd store).acc ≤ (p.segmentEnd store).ceiling * 256 := by
  unfold Profile.segmentEnd
  split
  · dsimp only
    split
    · exact work_le p _ h
    · exact work_le p _ h
  · exact h

/-- R32, R33: a phase advance keeps acc under its ceiling. -/
theorem advance_le (store : ProgramStore) (scale : Nat) (p : Profile) (h : p.acc ≤ p.ceiling * 256) :
    (p.advance store scale).acc ≤ (p.advance store scale).ceiling * 256 := by
  have hs : (p.step store).acc ≤ (p.step store).ceiling * 256 := by
    unfold Profile.step
    split
    · exact work_le _ _ h
    · split
      · exact segmentEnd_le store _ (slopeStep_le p h)
      · exact slopeStep_le p h
  unfold Profile.advance
  split
  · exact hs
  · exact h

/-- R36: a loaded generator holds acc under its ceiling. -/
theorem load_le (store : ProgramStore) (ceiling first count : Nat) (p : Profile) :
    (p.load store ceiling first count).acc ≤ (p.load store ceiling first count).ceiling * 256 := by
  unfold Profile.load
  dsimp only
  split <;> split <;> exact writeAcc_le _ _

/-- R37: a generator engaged without a segment holds acc under its ceiling. -/
theorem engage_le (ceiling : Nat) (p : Profile) : (p.engage ceiling).acc ≤ (p.engage ceiling).ceiling * 256 :=
  writeAcc_le { p with ceiling := ceiling } p.acc

/-! ### Programs -/

/-- R9: a program start changes its channel alone. -/
theorem startProgram_others (i : Nat) (c : Chan) (s : State) :
    startProgram i c s = s.setChan c ((startProgram i c s).chan c) := by
  simp [startProgram, updChan_eq]

/-- R9: the channel a program start leaves. -/
theorem startProgram_chan (i : Nat) (c : Chan) (s : State) :
    ((startProgram i c s).chan c).state =
        (if (startCauses s (s.chan c).freeze).isEmpty = true then .running else .frozen) ∧
      ((startProgram i c s).chan c).freeze = startCauses s (s.chan c).freeze ∧
      ((startProgram i c s).chan c).program = some i ∧ ((startProgram i c s).chan c).phase = .takeUp ∧
      ((startProgram i c s).chan c).work = .none ∧ ((startProgram i c s).chan c).config = (s.chan c).config ∧
      ((startProgram i c s).chan c).profile = (s.chan c).profile.clear ∧
      ((startProgram i c s).chan c).jack.integral = 0 ∧
      ((startProgram i c s).chan c).jack.lastValve = (s.chan c).jack.lastValve := by
  simp [startProgram]

/-- R19, R20: a channel whose record is filed changes alone: it starts its pending program or is IDLE. -/
theorem afterFiling_spec (c : Chan) (s : State) :
    afterFiling c s = s.setChan c ((afterFiling c s).chan c) ∧
      ((s.chan c).pendingProgram = none → ((afterFiling c s).chan c).state = .idle ∧
        ((afterFiling c s).chan c).freeze = FreezeSet.empty) ∧
      ((s.chan c).pendingProgram ≠ none → ((afterFiling c s).chan c).state = .running ∨
        ((afterFiling c s).chan c).state = .frozen) := by
  unfold afterFiling
  split <;> rename_i h
  · refine ⟨?_, fun k => by simp [h] at k, fun _ => ?_⟩
    · rw [startProgram_others]; simp
    · rw [(startProgram_chan _ c _).1]; split <;> simp
  · exact ⟨by simp [goIdle], fun _ => by simp [goIdle], fun k => absurd h k⟩

/-- R185: a closed record offered: pushed with room, held by the FILING channel without. Nothing but the channel and the
Record Queue changes. -/
theorem offerRecord_spec (r : Record) (c : Chan) (s : State) :
    offerRecord r c s = { s.setChan c ((offerRecord r c s).chan c) with records := (offerRecord r c s).records } ∧
      (s.records.queue.length < 16 → (offerRecord r c s).records = { s.records with queue := s.records.queue ++ [r] }) ∧
      (16 ≤ s.records.queue.length → ((offerRecord r c s).chan c).state = .filing ∧
        ((offerRecord r c s).chan c).filed = some r ∧
        (offerRecord r c s).records = { s.records with filing := s.records.filing ++ [c] }) := by
  unfold offerRecord State.queueHasRoom
  split <;> rename_i h
  · have h' : s.records.queue.length < 16 := by simpa using h
    obtain ⟨k1, -, -⟩ := afterFiling_spec c (s.updRecords fun q => { q with queue := q.queue ++ [r] })
    refine ⟨?_, fun _ => ?_, fun k => by omega⟩
    · conv_lhs => rw [k1]
      rw [k1]; simp [State.setChan, State.updRecords, State.chan]
    · rw [k1]; rfl
  · have h' : ¬ s.records.queue.length < 16 := by simpa using h
    refine ⟨?_, fun k => absurd k h', fun _ => ?_⟩
    · simp [State.setChan, State.updRecords, updChan_eq, State.chan]
    · simp [State.updRecords, updChan_eq, State.chan, State.setChan]

end Sys2Proof.Machine.Laws
end

