-- ==== Sys2Proof/Laws/Requests.lean ====
section
/-! SUPPORT. What a request row does once: the window passes, and an addressed request that passes the framing checks is
answered by the block that owns what it names. -/

namespace Sys2Proof.Machine.Laws

/-- The part once a request window has passed, worked. -/
def passed (w : Window) (u : State) : State := { u with line := { u.line with slotPos := 8 }, sent := w.slots }

@[simp] theorem passWindow_eq (w : Window) (u : State) : passWindow w u = passed w u := rfl

/-- R165: an addressed window is taken as addressed. -/
theorem taking_addressed {k : Nat} {p : List Byte} {w : Window} {u : State} (h : Addressed k p w u) :
    (passed w u).taking w = .addressed := by
  obtain ⟨-, h2, h3, h4, h5, h6, -⟩ := h
  have h7 : u.mgmt.address ≠ 63 := by omega
  simp [State.taking, State.addressedPart, passed, h2, h3, h4, h5, h6, h7]

theorem garbled_addressed {k : Nat} {p : List Byte} {w : Window} {u : State} (h : Addressed k p w u) :
    garbledPayload w = false := by
  obtain ⟨-, -, -, -, -, -, -, -, -, -, h⟩ := h
  simpa [garbledPayload] using h

/-- R166, R167: an addressed request of the right length is answered by its owner. -/
theorem requestEvent_addressed {k : Nat} {p : List Byte} {w : Window} {u : State} {mine : Bool}
    {act : List Byte → State → Answer} (hs : settle u = u) (h : Addressed k p w u) (hm : mine = true)
    (hl : lengthRight w = true) : requestEvent mine act w u = State.prepare w (act p (passed w u)) := by
  have hp : requestPayload w = p := h.2.2.2.2.2.2.2.2.2.1
  simp [requestEvent, hs, h.1, hm, takeRequest, taking_addressed h, takeAddressed, garbled_addressed h, hl, hp]

/-- R166: the length of a request of any kind but LOAD_ENTRY. -/
theorem lengthRight_addressed {k : Nat} {p : List Byte} {w : Window} {u : State} (h : Addressed k p w u) (hk : k ≠ 1)
    (hl : kindLength k = some p.length) : lengthRight w = true := by
  obtain ⟨-, -, -, -, -, -, h7, h8, h9, -⟩ := h
  simp [lengthRight, h7, h8, h9, hk, hl]

theorem ofKind_addressed {k : Nat} {p : List Byte} {w : Window} {u : State} (h : Addressed k p w u) :
    ofKind k w = true := by simp [ofKind, h.2.2.2.2.2.2.1]

/-- R166: what an answer of each status leaves. -/
theorem prepare_refuse (w : Window) (u : State) (st : Status) :
    State.prepare w (refuse st (passed w u)) = answered w st [] u := rfl

/-- R156: a request window with another row's request is taken by the kind it carries. -/
theorem requestEvent_other {w : Window} {u : State} {mine : Bool} {act : List Byte → State → Answer}
    (h : (settle u).atRequestWindow = true) (hm : mine = false) :
    requestEvent mine act w u = takeWindow w (passed w (settle u)) := by simp [requestEvent, h, hm]

/-- R156: the window of an IGNORED_REQUEST is judged like every other. -/
theorem ignoredEvent_window {w : Window} {u : State} (h : (settle u).atRequestWindow = true) :
    ignoredEvent w u = takeWindow w (passed w (settle u)) := by simp [ignoredEvent, h]

/-- R165: a window that the part ignores changes nothing. -/
theorem takeWindow_ignored {w : Window} {s : State} (h : s.taking w = .ignored) : takeWindow w s = s := by
  unfold takeWindow takeRequest takeUnknown
  rw [h]; split <;> rfl

/-- R166: a window of a known kind is taken by the owner of that kind. -/
theorem takeWindow_known {w : Window} {s : State} (h : knownKind (requestKind w) = true) :
    takeWindow w s = takeRequest (requestAct (requestKind w)) w s := by simp [takeWindow, h]

/-- R166: a window of an unknown kind is refused. -/
theorem takeWindow_unknown {w : Window} {s : State} (h : knownKind (requestKind w) = false) :
    takeWindow w s = takeUnknown w s := by simp [takeWindow, h]

/-- The eight slots of a window make that window. -/
@[simp] theorem eightSlots_slots (w : Window) : eightSlots w.slots = some w := rfl

/-- R156: a slot of the request window before its last is handed over and passes. -/
theorem requestSlot_before {x : Slot} {s : State} (h : s.nextPos < 8) :
    requestSlot x s = (s.sendNext x).updMgmt fun m => { m with window := s.mgmt.window ++ [x] } := by
  simp [requestSlot, h]

/-- R167: with the last slot of the request window its request is taken. -/
theorem requestSlot_last {w : Window} {x : Slot} {s : State} (h : 8 ≤ s.nextPos) (hw : s.mgmt.window ++ [x] = w.slots) :
    requestSlot x s = takeWindow w ((s.sendNext x).updMgmt fun m => { m with window := [] }) := by
  simp [requestSlot, Nat.not_lt.mpr h, hw]

/-- R147, R156: eight slots that do not arrive at the request window of a worked cycle are handled one by one. -/
theorem requestEvent_elsewhere {w : Window} {u : State} {mine : Bool} {act : List Byte → State → Answer}
    (h : (settle u).atRequestWindow = false) : requestEvent mine act w u = looseSlots w u := by
  simp [requestEvent, h]

end Sys2Proof.Machine.Laws
end

