-- ==== Sys2Proof/Tests/Slice0.lean ====
section
/-! SUPPORT. The model's own tests: ill-formed commands the well-formedness checks refuse, worked examples of the manual,
and for every statement with hypotheses a concrete part and operands that meet them. -/

namespace Sys2Proof.Tests

open Sys2Proof Sys2Proof.Machine

set_option Elab.async false

/-! ### Small parts -/

/-- A part of address 5, LOCKED on a cycle of 240 slots. -/
def part : State :=
  { State.reset with
    line := { State.reset.line with alignment := .locked, heldN := some 240 }
    mgmt := { State.reset.mgmt with address := 5 } }

/-- A program of one header (steps 0 and 1, segments 0 to 2) whose first step is `b`. -/
def stored (f : OnFail) (b : StepBody) : ProgramStore :=
  { part.store with
    headers := [(0, some { tag := 7, stepFirst := 0, stepCount := 2, segFirst := 0, segCount := 3 })]
    steps := [(0, some { onFail := f, divert := 1, body := b })]
    segments := [(0, some { mode := .absolute, start := 500, slope := 640, duration := 2 }),
      (1, some { mode := .cont, start := 0, slope := -10, duration := 1 }),
      (2, some { mode := .absolute, start := 9, slope := 0, duration := 1 })]
    markSets := [(3, some [1, 4])] }

/-- CH0 configured and RUNNING in that step with the working fields `w`. -/
def running (w : StepWork) : Channel :=
  { part.chan 0 with
    state := .running, program := some 0, phase := .active, work := w, record := some (Record.opened 0 7 3)
    config := { ChannelConfig.defaults with pump := some .a, loadCeiling := 12000, tensionLimit := 1500 } }

/-- The part with CH0 in that step. -/
def inStep (f : OnFail) (b : StepBody) (w : StepWork) : State := { part with store := stored f b }.setChan 0 (running w)

/-- CH0 about to take up that step. -/
def atTakeUp (b : StepBody) (bank : SparseTable SlotEntry) : State :=
  { part with
      store := stored .halt b, due := [.sequencer 0], line := { part.line with active := bank } }.setChan 0
    { running .none with phase := .takeUp }

/-- The part with an input record that reads `v`. -/
def reading (x : Target) (v : Int) (s : State) : State :=
  s.setInput x { value := v, valid := true, age := 0, saturated := false, aux := 0 }

def due (l : List CycleWork) (s : State) : State := { s with due := l }

def setState (st : ChanState) (s : State) : State := s.updChan 0 fun ch => { ch with state := st }

/-- The part with the slot of position `pos` to arrive next. -/
def before (pos : Nat) (s : State) : State := { s with line := { s.line with slotPos := pos - 1 } }

/-- The part with position 20 mapped to `e`, and its slot to arrive next. -/
def mapped (e : SlotEntry) (s : State) : State := before 20 { s with line := { s.line with active := [(20, e)] } }

/-- What makes a slot one before the sync position of `part`. -/
theorem beforeSync {s : State} (h : s.line.heldN = some 240 ∧ s.line.slotPos + 1 < 240) : BeforeSync s := ⟨240, h⟩

/-- The slot of `mapped` is at position 20 of a worked cycle. -/
theorem slotAt {s : State} {e : SlotEntry} (h : s.worked = true ∧ s.line.heldN = some 240 ∧ s.line.slotPos = 19 ∧
    bankEntry s.line.active 20 = e) : SlotAt s 20 e := by
  obtain ⟨h1, h2, h3, h4⟩ := h
  exact ⟨h1, ⟨240, h2, by omega⟩, by omega, by omega, h4⟩

/-- The part with a SAMPLE at position 20 under a scale entry of gain 1. -/
def sampled (x : Target) (s : State) : State :=
  mapped (.sample x 0) { s with scales := [(0, some { offset := 0, gain := 1, shift := 0 })] }

/-- A good sample slot of node status OK. -/
def sampleOf (v : Nat) : Slot := makeSlot 0#8 (BitVec.ofNat 8 (v / 256)) (BitVec.ofNat 8 v) 0#8

def accepted (v : Int) : InputRecord := { value := v, valid := true, age := 0, saturated := false, aux := 0 }

/-- An accepted sample of a target that is no echo, under the scale entry of gain 1. -/
theorem accepts_sample {x : Target} {v : Nat} {s : State}
    (h : (s.worked = true ∧ s.line.heldN = some 240 ∧ s.line.slotPos = 19 ∧ bankEntry s.line.active 20 = .sample x 0) ∧
      slotGood (sampleOf v) = true ∧ (sampleOf v).b0 = 0#8 ∧
      (sampleOf v).b3.toNat = 0 ∧ x.isEcho = false ∧
      Sparse.get none s.scales 0 = some { offset := 0, gain := 1, shift := 0 } ∧
      (((sampleOf v).b1 ++ (sampleOf v).b2).toInt - 0) * 1 / 2 ^ 0 = v ∧ x.range.1 ≤ v ∧ (v : Int) ≤ x.range.2) :
    Accepts s 20 (sampleOf v) x (accepted v) := by
  obtain ⟨h1, h2, h3, h4, h5, h6, h7, h8, h9⟩ := h
  refine ⟨0, slotAt h1, h2, .inl h3, rfl, rfl, h4.symm, ?_⟩
  rw [if_neg (by rw [h5]; decide)]
  refine ⟨_, h6, ?_, ?_⟩
  · rw [h7, min_eq_right h9, max_eq_right h8]; rfl
  · rw [h7, h3]; simp [accepted, not_lt.mpr h8, not_lt.mpr h9]

/-- A slot whose check is bad. -/
def badSlot : Slot := { makeSlot 0#8 0#8 0#8 0#8 with check := 1#8 }

/-- A good sync slot. -/
def syncSlot (n number : Nat) : Slot :=
  makeSlot 0xB5#8 (BitVec.ofNat 8 n) (BitVec.ofNat 8 (number / 256)) (BitVec.ofNat 8 number)

/-- A request window addressed to `part`. -/
def ask (k : Nat) (p : List Byte) : Window := requestWindow 5 k 9#8 p

/-- An enabled wall point of the manual's worked example. -/
def point (state : PointState) (latch : Bool) : WallPoint :=
  { config := { enable := true, baseline := 120, warn := 150, stop := 300, hysteresis := 30 }, state := state, latch := latch }

def ramp : RampStep := { segOffset := 0, segCount := 3, settleBand := 50, settleNeed := 2, settleLimit := 10 }

def hold : HoldStep :=
  { duration := 4, markSet := 3, markA := 0, markB := 1, kFactor := 1024, creepLimit := 200, tolerance := 100 }

def lockoff : LockoffStep := { settleCycles := 2, releaseSlope := 100, seatThreshold := 50, allowedLoss := 30 }

def inject : InjectStep :=
  { targetVolume := 1000, demandCeiling := 800, pressureCeiling := 1500, refusalPressure := 1200, refusalFlow := 5
    refusalCount := 2, acceptRefusal := false }

def payout : PayoutStep := { target := 100, segOffset := 0, segCount := 1 }

def holdWork (elapsed : Nat) : HoldWork :=
  { elapsed := elapsed, marks := [some 5012, none], drift := false, interrupted := 0 }

def injectWork (st : Standing) (refusals : Nat) : InjectWork :=
  { standing := st, volume := 0, refusals := refusals, overs := 0, endReason := none }

def payoutWork : PayoutWork := { startLength := some 12000, progress := 0, tension := 0, hold := false }

/-! ### Well-formedness: each check refuses an ill-formed command -/

theorem test_wellFormed_refuses_positions_outside_the_cycle :
    (Instr.sampleSlot 0 badSlot).wellFormed = false ∧ (Instr.sampleSlot 241 badSlot).wellFormed = false ∧
    (Instr.reportListSwap (.reportSlot 0 badSlot)).wellFormed = false ∧
    (Instr.sampleSlot 1 badSlot).wellFormed = true ∧ (Instr.sampleSlot 240 badSlot).wellFormed = true := by decide

theorem test_wellFormed_refuses_orders :
    (Instr.confirmSyncPosition badSlot [.ageing, .ageing]).wellFormed = false ∧
    (Instr.lockedSyncPosition badSlot [.deviceReset]).wellFormed = false ∧
    (Instr.flywheelSyncPosition badSlot [.mapSwap, .ageing]).wellFormed = true := by decide

theorem test_wellFormed_refuses_windows_of_another_request :
    (Instr.unknownRequest (ask 20 [])).wellFormed = false ∧ (Instr.unknownRequest (ask 21 [])).wellFormed = true ∧
    (Instr.loadEntryHeader (ask 1 [1#8, 0#8, 0#8])).wellFormed = false ∧
    (Instr.loadEntryStep (ask 1 [1#8, 0#8, 0#8])).wellFormed = true ∧
    (Instr.swapBanksBoth (ask 3 [1#8])).wellFormed = false ∧
    (Instr.swapBanksReportList (ask 3 [1#8])).wellFormed = true ∧
    (Instr.retargetNow (ask 10 [0#8, 0#8, 0#8, 0#8, 0#8, 0#8, 0#8, 0#8, 0#8, 1#8])).wellFormed = false ∧
    (Instr.startProgram (ask 5 [0#8])).wellFormed = false := by decide +kernel

/-! ### Worked examples of the manual -/

/-- 09_the_site_line.md, "a sync slot's check byte". -/
theorem test_sync_check_byte : crc8 [0xB5#8, 0x3C#8, 0x01#8, 0x02#8] = 0xD6#8 ∧ crc8 [0xB5#8] = 0x02#8 ∧
    goodSync { b0 := 0xB5#8, b1 := 0x3C#8, b2 := 0x01#8, b3 := 0x02#8, check := 0xD6#8 } = some (60, 258) := by
  decide +kernel

/-- 03_jack_loop_and_stressing_steps.md, "the loop at three slots", with the fourth slot that saturates. -/
theorem test_jack_loop :
    let k := { ChannelConfig.defaults with deadband := 20, kp := 1200, ki := 40, imax := 2000000 }
    loopOutput k 9500 9201 150000 = (161960, 127) ∧ loopOutput k 9500 9550 161960 = (159960, 24) ∧
    loopOutput k 9500 9510 159960 = (159960, 39) ∧ loopOutput k 9550 4550 159960 = (159960, 1000) := by decide

/-- 03_jack_loop_and_stressing_steps.md, "creep arithmetic". -/
theorem test_creep : creep 5012 5081 1024 = 69 ∧ creep 5081 5112 2146 = 65 ∧ creep 5115 5112 2146 = -6 := by decide

/-- 02_setpoint_profiles.md, "a single ramp at reduced pace": the profile step at cycle start 70004. -/
theorem test_profile_step_at_pace_64 :
    let p := { Profile.cleared 64 none with
      acc := 128000, ceiling := 12000, working := some { mode := .absolute, start := 500, slope := 640, duration := 3800 }
      remaining := 3800, status := .active, phase := 192 }
    (p.advance part.store 256).acc = 128640 ∧ (p.advance part.store 256).phase = 0 ∧
    (p.advance part.store 256).remaining = 3799 := by decide

/-- 04_grout_injection_and_pump_arbitration.md, "pressure headroom". -/
theorem test_pump_headroom : holderDemand inject 1536 1320 = 800 ∧ holderDemand inject 1536 1400 = 600 ∧
    holderDemand inject 1536 1450 = 300 ∧ holderDemand inject 1536 1510 = 0 := by decide

/-- 07_wall_movement_and_freezing.md, "one point through warning and stop": WARN stays at 130, falls at 115, and a NORMAL
point stays NORMAL at 142. -/
theorem test_wall_point_hysteresis :
    ((point .warn false).classified 250).state = .warn ∧ ((point .warn false).classified 235).state = .normal ∧
    ((point .normal false).classified 262).state = .normal ∧ ((point .normal false).classified (-40)).state = .warn ∧
    (point .normal false).classified 430 = point .stop true ∧ ((point .stop true).cleared 180).state = .warn ∧
    ((point .stale false).classified 250).state = .warn := by decide

/-- 08_measurands_and_calibration.md, "converting a jack load". -/
theorem test_conversion :
    convert { offset := 512, gain := 13107, shift := 15 } Measurand.jackLoad.range false 23517 = (9201, false) ∧
    convert { offset := 512, gain := 13107, shift := 15 } Measurand.jackLoad.range false 410 = (0, true) ∧
    convert { offset := 16, gain := 3277, shift := 12 } (Target.wallMove 2).range false (-1234) = (-1001, false) ∧
    convert { offset := 0, gain := 24000, shift := 14 } Measurand.groutPressure.range false 30000 = (20000, true) := by
  decide

/-! ### Witnesses: resets, pins, alignment -/

theorem witness_StepRunsFrontCommand :
    { part with pending := [Instr.replyLeft, .resetInAssert] }.pending = .replyLeft :: [.resetInAssert] ∧
    part.pending = [] := by decide

theorem witness_CycleStartWorkIsTakenOnce :
    part.due = [] ∧ (∀ w ∈ [CycleWork.ageing, .deviceReset], (due [w] part).due = [w]) ∧
    cycleStartWork = [.mapSwap, .listSwap] ++ .ageing :: cycleStartWork.drop 3 ∧
    (∀ w ∈ [CycleWork.wallStale 0, .inputStale 7],
      let s := due [.ageing, w] part
      CycleWork.ageing ∈ s.due ∧ w ∈ s.due ∧ (∀ v ∈ [CycleWork.mapSwap, .listSwap], v ∉ s.due) ∧
      CycleWork.ageing ∉ (due [w] part).due) := by decide +kernel

theorem witness_DeviceResetSetsEveryBlock :
    part.pins.resetIn = false ∧ { part with pins := { part.pins with resetIn := true } }.pins.resetIn = true ∧
    CycleWork.deviceReset ∈ (due [.deviceReset] part).due := by decide

theorem witness_PanelHoldFreezesEveryChannel :
    part.pins.resetIn = false ∧ part.pins.panel = false ∧
    { part with pins := { part.pins with resetIn := true } }.pins.resetIn = true := by decide

/-- A part in CONFIRM or HUNT that last saw the line cycle number 65535. -/
def aligning (a : Sys2Proof.Machine.Alignment) : State :=
  { part with line := { part.line with alignment := a, lastLine := 65535, heldN := some 32 } }

theorem witness_HuntAndConfirmFindTheCycle :
    (settle (aligning .hunt)).pins.resetIn = false ∧ (settle (aligning .hunt)).line.alignment = .hunt ∧
    (∀ n ∈ [32, 240], (syncSlot n 7).b0 = 0xB5#8 ∧ slotGood (syncSlot n 7) = true ∧ 32 ≤ (syncSlot n 7).b1.toNat ∧
      (syncSlot n 7).b1.toNat ≤ 240) ∧
    badSlot.b0 ≠ 0xB5#8 ∧ slotGood badSlot = false ∧ (syncSlot 31 7).b1.toNat < 32 ∧ 240 < (syncSlot 241 7).b1.toNat ∧
    let u := settle (before 32 (aligning .confirm))
    u.pins.resetIn = false ∧ u.line.alignment = .confirm ∧ AtSync u ∧
    SyncOf u (syncSlot 32 0) ((u.line.lastLine + 1) % 65536) ∧ ¬ SyncOf u (syncSlot 32 1) ((u.line.lastLine + 1) % 65536) := by
  refine ⟨by decide, by decide, by decide +kernel, by decide, by decide +kernel, by decide, by decide, by decide, by decide,
    ⟨32, by decide, by decide⟩, ?_⟩
  unfold SyncOf; decide +kernel

/-- A part in LOCKED or FLYWHEEL with the flywheel limit `limit` and one miss, at the sync position. -/
def flying (a : Sys2Proof.Machine.Alignment) (limit : Nat) : State :=
  { part with
    line := { part.line with alignment := a, misses := 1, slotPos := 239 }
    mgmt := { part.mgmt with config := { part.mgmt.config with flywheel := limit } } }

theorem noSync_badSlot (s : State) (n : Nat) : ¬ SyncOf s badSlot n := by
  rintro ⟨h, -⟩; exact absurd h (by decide)

/-- The part after a command (as it was where the command gives no next state). -/
def after (i : Instr) (s : State) : State :=
  match exec i s with
  | .next t => t
  | .fault _ => s
  | .refused _ => s

/-- R150: the sync that would confirm counts at position N alone, one position earlier it is a slot like any other. -/
theorem test_confirm_counts_positions :
    (after (.confirmSyncPosition (syncSlot 32 0) []) (before 31 (aligning .confirm))).line.alignment = .confirm ∧
    (after (.confirmSyncPosition (syncSlot 32 0) []) (before 31 (aligning .confirm))).line.slotPos = 31 ∧
    (after (.confirmSyncPosition (syncSlot 32 0) []) (before 32 (aligning .confirm))).line.alignment = .locked ∧
    (after (.huntSlot badSlot) (before 32 (aligning .confirm))).line.alignment = .hunt := by decide +kernel

/-- R149, R150: eight slots that come as a window in HUNT are examined one by one: a sync in the third leaves CONFIRM with
five positions counted. -/
theorem test_hunt_examines_windows :
    let w : Window := { s1 := badSlot, s2 := badSlot, s3 := syncSlot 32 7, s4 := badSlot, s5 := badSlot, s6 := badSlot
                        s7 := badSlot, s8 := badSlot }
    let t := after (.ignoredRequest w) (aligning .hunt)
    t.line.alignment = .confirm ∧ t.line.slotPos = 5 ∧ t.line.lastLine = 7 ∧ t.sent = w.slots := by decide +kernel

/-- R117, R127, R153: the loss of signal meets the ageing of its last cycle start done, and nothing ages in HUNT. -/
theorem test_loss_of_signal_leaves_nothing_due :
    let s := due [.ageing] (reading (.chan 0 .jackLoad) 5 part)
    let t := after .lossOfSignal s
    (t.input (.chan 0 .jackLoad)).map (·.age) = some 1 ∧ t.due = [] ∧ t.line.alignment = .hunt := by decide +kernel

theorem witness_SyncPositionsKeepTheCycle :
    (∀ a ∈ [Sys2Proof.Machine.Alignment.locked, .flywheel], ∀ k ∈ [1, 2, 3], (settle (flying a k)).pins.resetIn = false ∧
      (settle (flying a k)).line.alignment = a ∧ (settle (flying a k)).line.heldN = some 240 ∧
      (settle (flying a k)).line.slotPos + 1 = 240) ∧
    AtSync (settle (flying .locked 2)) ∧ SyncOf (settle (flying .locked 2)) (syncSlot 240 65535) 65535 ∧
    (∀ n, ¬ SyncOf (settle (flying .locked 2)) badSlot n) ∧ 1 < (settle (flying .locked 2)).mgmt.config.flywheel ∧
    (settle (flying .locked 1)).mgmt.config.flywheel ≤ 1 ∧
    (settle (flying .flywheel 3)).line.misses + 1 < (settle (flying .flywheel 3)).mgmt.config.flywheel := by
  refine ⟨by decide, ⟨240, by decide, by decide⟩, by unfold SyncOf; decide +kernel, noSync_badSlot _, ?_⟩
  decide

/-- The part with the slot of position 8 to arrive next, the other seven of the window handed over. -/
def handedSeven (w : Window) : State :=
  { before 8 part with mgmt := { part.mgmt with window := w.slots.dropLast } }

theorem witness_SyncPositionsKeepTheCycle_window :
    let w := ask 20 []
    (settle (handedSeven w)).worked = true ∧ BeforeSync (settle (handedSeven w)) ∧
    (settle (handedSeven w)).line.slotPos + 1 = 8 ∧ (settle (handedSeven w)).mgmt.window ++ [w.s8] = w.slots ∧
    (∀ pos ∈ [1, 7], (settle (before pos part)).line.slotPos + 1 = pos ∧ pos < 8) :=
  ⟨by decide, beforeSync (by decide), by decide, by decide +kernel, by decide⟩

theorem witness_SyncPositionsKeepTheCycle_positions :
    Instr.huntSlot badSlot ∈ SlotRows 20 badSlot ∧ Instr.reportSlot 20 badSlot ∈ SlotRows 20 badSlot ∧
    (settle { part with pins := { part.pins with resetIn := true } }).pins.resetIn = true ∧
    (∀ pos ∈ [1, 31], BeforeSync (settle (before pos (aligning .confirm)))) ∧
    (∀ pos ∈ [1, 8, 9, 16, 239], (settle (before pos part)).worked = true ∧ BeforeSync (settle (before pos part)) ∧
      (settle (before pos part)).line.slotPos + 1 = pos ∧ (settle (before pos part)).mgmt.owed = none) ∧
    SlotAt (settle (mapped .pass part)) 20 .pass ∧
    (settle (mapped .pass part)).line.alignment ≠ .hunt ∧ 21 ≠ (settle (mapped .pass part)).line.slotPos + 1 := by
  refine ⟨by decide, by decide, by decide, fun pos h => ?_, fun pos h => ⟨?_, beforeSync ?_, ?_⟩,
    slotAt (by decide +kernel), by decide, by decide⟩
  · refine ⟨32, ?_, ?_⟩ <;> (revert pos; decide)
  all_goals (revert pos; decide)

/-- A worked part that owes the OK of a RESET_PART. -/
def resetting : State :=
  { part with mgmt := { part.mgmt with
      resetPending := true, owed := some { address := 5, kind := 20#8, tag := 0#8, status := .ok, payload := [] } } }

theorem witness_LossOfLineFallsToHunt :
    (∀ s ∈ [resetting, part, due [.ageing] part], CycleWork.deviceReset ∉ s.due ∧ (settle s).worked = true) ∧
    (∀ w ∈ (due [.deviceReset] part).due, w = .deviceReset) ∧ (due [.deviceReset] part).worked = true ∧
    resetting.mgmt.resetPending = true ∧ (∃ r, resetting.mgmt.owed = some r ∧ r.kind = 20#8 ∧ r.status = .ok) ∧
    part.mgmt.resetPending = false ∧ (settle (aligning .hunt)).worked = false ∧
    (settle (flying .locked 1)).worked = true ∧ AtSync (settle (flying .locked 1)) ∧
    (∀ n, ¬ SyncOf (settle (flying .locked 1)) badSlot n) ∧
    ((settle (flying .locked 1)).line.alignment = .locked → (settle (flying .locked 1)).mgmt.config.flywheel ≤ 1) ∧
    (settle (flying .flywheel 2)).worked = true ∧
    ((settle (flying .flywheel 2)).line.alignment = .flywheel →
      (settle (flying .flywheel 2)).mgmt.config.flywheel ≤ (settle (flying .flywheel 2)).line.misses + 1) := by
  refine ⟨by decide +kernel, by decide, by decide, by decide, ⟨_, rfl, by decide, by decide⟩, by decide, by decide, by decide,
    ⟨240, by decide, by decide⟩, noSync_badSlot _, by decide, by decide, by decide⟩

/-! ### Witnesses: profiles and steps -/

/-- CH0 in a RAMP whose working segment has `remaining` steps left. -/
def profiled (remaining : Nat) (staged reload : Option Segment) : State :=
  due [.profile 0] ((inStep .halt (.ramp ramp) (.ramp { phase := .profiling, settle := 0, unsettled := 0 })).updProfile 0
    fun p => { p with
      status := .active, acc := 1000, ceiling := 12000, working := some { mode := .cont, start := 0, slope := 640, duration := 5 }
      remaining := remaining, staged := staged, reload := reload, segsLeft := 1, next := 2 })

def segment (m : SegMode) : Segment := { mode := m, start := 500, slope := 1, duration := 1 }

theorem takes_profiled (n : Nat) (a b : Option Segment) : TakesProfileStep (profiled n a b) 0 256 := by
  unfold TakesProfileStep
  refine ⟨rfl, rfl, rfl, ?_, Nat.le_add_left _ _⟩
  have : (profiled n a b).wallState = .normal := (by decide : (part).wallState = .normal)
  have hp : ((profiled n a b).chan 0).profile.stagedPace.getD ((profiled n a b).chan 0).profile.pace = 256 := rfl
  rw [this, if_neg (by decide), hp]

theorem witness_ProfileStepMovesSetpoint :
    CycleWork.profile 0 ∈ (profiled 2 none none).due ∧ TakesProfileStep (profiled 2 none none) 0 256 ∧
    ((profiled 2 none none).chan 0).profile.staged = none ∧ ((profiled 2 none none).chan 0).profile.remaining = 2 ∧
    ((profiled 2 none none).chan 0).profile.working.isSome = true ∧
    (∀ m, TakesProfileStep (profiled 2 (some (segment m)) none) 0 256 ∧
      ((profiled 2 (some (segment m)) none).chan 0).profile.staged = some (segment m)) :=
  ⟨by decide, takes_profiled _ _ _, rfl, rfl, rfl, fun _ => ⟨takes_profiled _ _ _, rfl⟩⟩

theorem witness_ProfileStepMovesSetpoint_pace :
    let s := (profiled 2 none none).updProfile 0 fun p => { p with stagedPace := some 255 }
    s.due = [CycleWork.profile 0] ∧ (s.chan 0).state = .running ∧ (s.chan 0).profile.status = .active ∧
    (s.chan 0).tookUp = false ∧ s.wallState ≠ .warn ∧ (s.chan 0).profile.phase + 255 * 256 / 256 < 256 ∧
    ((due [.profile 0] part).chan 0).state ≠ .running := by decide +kernel

theorem witness_SegmentEndReloadsOrFinishes : ∀ r ∈ [none, some (segment .absolute), some (segment .cont)],
    CycleWork.profile 0 ∈ (profiled 1 none r).due ∧ TakesProfileStep (profiled 1 none r) 0 256 ∧
    ((profiled 1 none r).chan 0).profile.staged = none ∧ ((profiled 1 none r).chan 0).profile.working.isSome = true ∧
    ((profiled 1 none r).chan 0).profile.remaining ≤ 1 ∧ ((profiled 1 none r).chan 0).profile.reload = r :=
  fun _ _ => ⟨by simp [profiled, due], takes_profiled _ _ _, rfl, rfl, Nat.le_refl 1, rfl⟩

/-- The bank that binds what each step kind of CH0 needs. -/
def fullBank : SparseTable SlotEntry :=
  [(17, .sample (.chan 0 .jackLoad) 0), (18, .sample (.chan 0 .jackStroke) 0), (19, .command (.jack 0)),
    (20, .sample (.chan 0 .groutPressure) 0), (21, .sample (.chan 0 .groutFlow) 0), (22, .command (.pump .a)),
    (23, .sample (.chan 0 .winchPayout) 0), (24, .sample (.chan 0 .winchTension) 0), (25, .command (.winch 0))]

/-- The header of `stored`. -/
def header : Header := { tag := 7, stepFirst := 0, stepCount := 2, segFirst := 0, segCount := 3 }

def await : AwaitStep :=
  { releaseSet := ⟨true, true, false, false⟩, divertSet := ⟨true, false, false, false⟩, timer := 1 }

def check : CheckStep := { quantity := .peakLoad, low := 0, high := 10 }

theorem witness_TakeUpEntersOrFaults :
    (∀ b ∈ [StepBody.ramp ramp, .hold hold, .lockoff lockoff, .inject inject, .payout payout, .check check, .await await,
        .signal 1, .finish],
      MeetsTakeUp 0 (atTakeUp b fullBank) (prepareWork (.sequencer 0) (atTakeUp b fullBank)) ∧
      (prepareWork (.sequencer 0) (atTakeUp b fullBank)).programHeader 0 = some header ∧
      (prepareWork (.sequencer 0) (atTakeUp b fullBank)).store.step 0 = some { onFail := .halt, divert := 1, body := b } ∧
      kindTest (stored .halt b) header b = true ∧
      (prepareWork (.sequencer 0) (atTakeUp b fullBank)).bindingsPresent 0 b = true) ∧
    (prepareWork (.sequencer 0) (atTakeUp (.ramp ramp) fullBank)).requiredAvailable 0 (.ramp ramp) = false ∧
    (prepareWork (.sequencer 0) (reading (.chan 0 .jackLoad) 9 (atTakeUp (.ramp ramp) fullBank))).requiredAvailable 0
      (.ramp ramp) = true ∧
    kindTest (stored .halt (.ramp { ramp with segCount := 4 })) header (.ramp { ramp with segCount := 4 }) = false ∧
    (prepareWork (.sequencer 0) (atTakeUp (.ramp ramp) [])).bindingsPresent 0 (.ramp ramp) = false ∧
    (stored .halt .finish).step 1 = none ∧ header.stepCount ≤ 2 := by
  unfold MeetsTakeUp; decide +kernel

theorem witness_TakeUpEngagesGenerator :
    (∀ b ∈ [StepBody.ramp ramp, .payout payout, .hold hold, .lockoff lockoff, .await await],
      MeetsTakeUp 0 (atTakeUp b fullBank) (prepareWork (.sequencer 0) (atTakeUp b fullBank)) ∧
      ((prepareWork (.sequencer 0) (atTakeUp b fullBank)).chan 0).index < header.stepCount) ∧
    2 ≤ ramp.segCount ∧ payout.segCount < 2 ∧ (stored .halt (.ramp ramp)).segment 0 ≠ none := by
  unfold MeetsTakeUp; decide +kernel

/-- CH0 in a SEATING LOCKOFF at its settle cycles. -/
def seated : State :=
  due [.sequencer 0] (inStep .halt (.lockoff lockoff) (.lockoff { phase := .seating, settle := 2, load := some 9000 }))

theorem witness_LockoffReleasesJack :
    let u := prepareWork (.sequencer 0) seated
    CycleWork.sequencer 0 ∈ seated.due ∧ (u.chan 0).state = .running ∧ (u.chan 0).phase = .active ∧
    (u.chan 0).tookUp = false ∧ u.currentStep 0 = some { onFail := .halt, divert := 1, body := .lockoff lockoff } ∧
    (u.chan 0).work = .lockoff { phase := .seating, settle := 2, load := some 9000 } ∧ 2 = lockoff.settleCycles ∧
    (some 9000).or (u.chanValue 0 .jackLoad) = some 9000 := by decide +kernel

theorem witness_LockoffReleasesJack_seating : ∀ load ∈ [none, some 9000], ∀ n ∈ [1, 2],
    let w : LockoffWork := { phase := .seating, settle := n, load := load }
    let s := due [.sequencer 0] (inStep .halt (.lockoff lockoff) (.lockoff w))
    WorksStep 0 { onFail := .halt, divert := 1, body := .lockoff lockoff } s ∧ (s.chan 0).work = .lockoff w ∧
    (n ≠ lockoff.settleCycles ↔ n = 1) ∧ s.chanValue 0 .jackLoad = none ∧ (s.chan 0).record = some (Record.opened 0 7 3) ∧
    (reading (.chan 0 .jackLoad) 9 s).chanValue 0 .jackLoad = some 9 := by
  unfold WorksStep; decide +kernel

def holding (f : OnFail) (w : HoldWork) : State := due [.sequencer 0] (inStep f (.hold hold) (.hold w))

theorem holds (f : OnFail) (w : HoldWork) :
    Holding 0 { onFail := f, divert := 1, body := .hold hold } hold w [1, 4] (holding f w) :=
  ⟨List.mem_singleton.mpr rfl, rfl, rfl, rfl, rfl, rfl, rfl, rfl⟩

theorem witness_HoldMarksAndCompletes :
    (∀ f, Holding 0 { onFail := f, divert := 1, body := .hold hold } hold (holdWork 1) [1, 4] (holding f (holdWork 1))) ∧
    (holdWork 1).elapsed ∈ [1, 4] ∧ (holdWork 1).elapsed < hold.duration ∧ (holdWork 4).elapsed = hold.duration ∧
    ((holding .cont (holdWork 4)).chan 0).record = some (Record.opened 0 7 3) ∧
    CreepIs hold (recordMarks [1, 4] 4 4 (some 5081) (holdWork 4).marks) (some 69) ∧
    CreepIs hold (recordMarks [1, 4] 4 4 (some 5213) (holdWork 4).marks) (some 201) ∧
    CreepIs hold (recordMarks [1, 4] 4 4 none (holdWork 4).marks) none ∧
    (reading (.chan 0 .jackStroke) 5213 (holding .cont (holdWork 4))).chanValue 0 .jackStroke = some 5213 :=
  ⟨fun _ => holds _ _, by decide, by decide, by decide, rfl, rfl, rfl, rfl, by decide⟩

/-- Cycle starts of a HOLD between its marks 1 and 4, and before the first. -/
theorem witness_HoldMarksAndCompletes_counts : ∀ e ∈ [0, 2, 3],
    WorksStep 0 { onFail := .halt, divert := 1, body := .hold hold } (holding .halt (holdWork e)) ∧
    ((holding .halt (holdWork e)).chan 0).work = .hold (holdWork e) ∧
    (holding .halt (holdWork e)).store.markSet hold.markSet = some [1, 4] ∧
    (holdWork e).marks.length = [1, 4].length ∧
    ¬ ((holdWork e).elapsed ∈ [1, 4] ∧ (holdWork e).elapsed ≤ hold.duration) ∧ (holdWork e).elapsed ≠ hold.duration := by
  unfold WorksStep; decide +kernel

def settling (unsettled settle : Nat) : RampWork := { phase := .settling, settle := settle, unsettled := unsettled }

theorem witness_RampFailsAndAwaitReleases :
    (∀ f ∈ [OnFail.halt, .divert, .cont],
      let s := due [.sequencer 0] (inStep f (.ramp ramp) (.ramp (settling 9 0)))
      CycleWork.sequencer 0 ∈ s.due ∧ (s.chan 0).state = .running ∧ (s.chan 0).phase = .active ∧
      (s.chan 0).tookUp = false ∧ (s.chan 0).becameSettling = false ∧
      s.currentStep 0 = some { onFail := f, divert := 1, body := .ramp ramp } ∧ (s.chan 0).work = .ramp (settling 9 0) ∧
      ramp.settleLimit ≤ (settling 9 0).unsettled + 1 ∧ (s.chan 0).record ≠ none) ∧
    (∀ a ∈ [await, { await with divertSet := ⟨false, false, false, false⟩ }],
      let s := due [.sequencer 0] (inStep .halt (.await a) (.await { elapsed := 0, latch := false }))
      CycleWork.sequencer 0 ∈ s.due ∧ (s.chan 0).state = .running ∧ (s.chan 0).phase = .active ∧
      (s.chan 0).tookUp = false ∧ s.currentStep 0 = some { onFail := .halt, divert := 1, body := .await a } ∧
      (s.chan 0).work = .await { elapsed := 0, latch := false } ∧ a.releaseSet.timer = true ∧ 0 < a.timer ∧
      min 16777215 (0 + 1) = a.timer) := by decide +kernel

theorem witness_RampFailsAndAwaitReleases_counts :
    (∀ w ∈ [settling 8 0, { settling 0 0 with phase := .profiling }],
      let s := due [.sequencer 0] (inStep .halt (.ramp ramp) (.ramp w))
      WorksStep 0 { onFail := .halt, divert := 1, body := .ramp ramp } s ∧ (s.chan 0).work = .ramp w ∧
      (s.chan 0).becameSettling = false ∧ w.unsettled + 1 < ramp.settleLimit) ∧
    (∀ w ∈ [payoutWork, { payoutWork with startLength := none }],
      let s := due [.sequencer 0] (inStep .halt (.payout payout) (.payout w))
      WorksStep 0 { onFail := .halt, divert := 1, body := .payout payout } s ∧ (s.chan 0).work = .payout w ∧
      s.chanValue 0 .winchPayout = none ∧ (s.chan 0).record = some (Record.opened 0 7 3) ∧
      (reading (.chan 0 .winchPayout) 5 s).chanValue 0 .winchPayout = some 5) ∧
    payoutWork.startLength ≠ none := by
  unfold WorksStep; decide +kernel

/-- CH0 in an AWAIT whose sources are all four, its timer away from its end. -/
def waiting (latch peer : Bool) (wall : PointState) : State :=
  ((due [.sequencer 0] (inStep .halt (.await { await with releaseSet := ⟨true, true, true, true⟩, timer := 9 })
    (.await { elapsed := 0, latch := latch }))).updChan 0 fun ch => { ch with peer := peer }).setWall 4 (point wall false)

theorem witness_RampFailsAndAwaitReleases_sources : ∀ latch ∈ [true, false], ∀ peer ∈ [true, false],
    ∀ wall ∈ [PointState.normal, .warn],
      let s := waiting latch peer wall
      WorksStep 0 { onFail := .halt, divert := 1, body := .await { await with releaseSet := ⟨true, true, true, true⟩, timer := 9 } } s ∧
      (s.chan 0).work = .await { elapsed := 0, latch := latch } ∧ (s.chan 0).peer = peer ∧
      (s.wallState = .normal ↔ wall = .normal) ∧ min 16777215 (0 + 1) ≠ 9 := by
  unfold WorksStep; decide +kernel

theorem witness_CheckSignalAndEndComplete :
    (∀ x ∈ [(StepBody.check check, StepWork.check { captured := none }), (.check check, .check { captured := some 10 }),
        (.check check, .check { captured := some 11 }), (.signal 0, .signal), (.signal 1, .signal), (.finish, .finish)],
      let s := due [.sequencer 0] (inStep .divert x.1 x.2)
      s.due = [CycleWork.sequencer 0] ∧ (s.chan 0).state = .running ∧ (s.chan 0).phase = .active ∧
      (s.chan 0).tookUp = false ∧ s.currentStep 0 = some { onFail := .divert, divert := 1, body := x.1 } ∧
      (s.chan 0).work = x.2 ∧ (s.chan 0).record = some (Record.opened 0 7 3) ∧ (s.chan 0).pendingProgram = none) ∧
    check.low ≤ 10 ∧ 10 ≤ check.high ∧ check.high < 11 := by decide +kernel

theorem witness_CheckSignalAndEndComplete_pending : ∀ q ∈ [[], List.replicate 16 (Record.opened 1 2 3)],
    let s := { (due [.sequencer 0] (inStep .divert .finish .finish)).updChan 0
      fun ch => { ch with pendingProgram := some 0 } with records := { queue := q, filing := [] } }
    WorksStep 0 { onFail := .divert, divert := 1, body := .finish } s ∧ (s.chan 0).work = .finish ∧
    (s.chan 0).record = some (Record.opened 0 7 3) ∧ (s.chan 0).pendingProgram = some 0 ∧ s.store.header 0 = some header ∧
    (s.records.queue.length < 16 ∨ 16 ≤ s.records.queue.length) := by
  unfold WorksStep; decide +kernel

/-! ### Witnesses: pumps, staleness, echoes, swaps -/

/-- PUMP A in `st` with CH1 behind, CH0 and CH1 in INJECT steps. -/
def pumping (st : PumpState) (mine : Standing) (queue : List Chan) (manifold : Option Chan) : State :=
  due [.arbiter .a] (((inStep .halt (.inject inject) (.inject (injectWork mine 0))).setChan 1
      (running (.inject (injectWork .queued 0)))).setArb .a
    { Arbiter.afterReset with
      state := st, manifold := manifold, queue := queue, switchCount := 499, tenureCount := 14999, switchHeld := 500
      tenureHeld := 15000 })

theorem witness_SwitchCompletesAndTenureExpires :
    (let s := pumping (.switching 0) .switching [1] none
     CycleWork.arbiter .a ∈ s.due ∧ (s.arb .a).state = .switching 0 ∧ (s.arb .a).begun = false ∧
     (s.arb .a).switchCount + 1 = (s.arb .a).switchHeld ∧ (s.chan 0).work = .inject (injectWork .switching 0)) ∧
    (let s := pumping (.granted 0) .granted [1] (some 0)
     CycleWork.arbiter .a ∈ s.due ∧ (s.arb .a).state = .granted 0 ∧ (s.arb .a).begun = false ∧
     (s.arb .a).tenureCount + 1 = (s.arb .a).tenureHeld ∧ (s.arb .a).queue = 1 :: [] ∧ (1 : Chan) ≠ 0 ∧
     (s.chan 0).work = .inject (injectWork .granted 0) ∧ (s.chan 1).work = .inject (injectWork .queued 0) ∧
     ¬ ((s.arb .a).manifold = some 1 ∨ s.mgmt.config.switchTime = 0)) ∧
    ((pumping (.granted 0) .granted [1] (some 1)).arb .a).manifold = some 1 ∧
    ((pumping (.granted 0) .granted [] (some 0)).arb .a).queue = [] := by decide +kernel

theorem witness_SwitchCompletesAndTenureExpires_counts :
    let at_ (st : PumpState) (begun : Bool) (n m : Nat) : State := due [.arbiter .a]
      ((pumping st .queued [] none).setArb .a { (pumping st .queued [] none).arb .a with
        switchCount := n, tenureCount := m, begun := begun })
    (∀ n ∈ [0, 498], let s := at_ (.switching 0) false n 0
      s.due = [CycleWork.arbiter .a] ∧ (s.arb .a).state = .switching 0 ∧ (s.arb .a).begun = false ∧
      (s.arb .a).switchCount + 1 ≠ (s.arb .a).switchHeld) ∧
    (∀ m ∈ [0, 14998], let s := at_ (.granted 0) false 0 m
      s.due = [CycleWork.arbiter .a] ∧ (s.arb .a).state = .granted 0 ∧ (s.arb .a).begun = false ∧
      (s.arb .a).tenureCount + 1 ≠ (s.arb .a).tenureHeld) ∧
    (∀ st ∈ [PumpState.switching 0, .granted 0], ((at_ st true 499 14999).arb .a).begun = true) ∧
    ((at_ .free false 0 0).arb .a).state = .free := by decide +kernel

/-- CH0 about to take up an INJECT with its inputs read, PUMP A in `st` with its manifold at CH0 or closed. -/
def claiming (st : PumpState) (manifold : Option Chan) : State :=
  (reading (.chan 0 .groutPressure) 5 (reading (.chan 0 .groutFlow) 5 (atTakeUp (.inject inject) fullBank))).setArb .a
    { Arbiter.afterReset with state := st, manifold := manifold }

theorem witness_ClaimsAreGrantedAndWithdrawn : ∀ st ∈ [PumpState.free, .granted 1], ∀ m ∈ [none, some 0],
    let u := prepareWork (.sequencer 0) (claiming st m)
    MeetsTakeUp 0 (claiming st m) u ∧ u.programHeader 0 = some header ∧ (u.chan 0).index < header.stepCount ∧
    u.store.step (header.stepFirst + (u.chan 0).index) = some { onFail := .halt, divert := 1, body := .inject inject } ∧
    u.bindingsPresent 0 (.inject inject) = true ∧ u.requiredAvailable 0 (.inject inject) = true ∧
    (u.chan 0).config.pump = some .a ∧ (u.arb .a).state = st ∧ (u.arb .a).manifold = m ∧
    u.mgmt.config.switchTime ≠ 0 := by
  unfold MeetsTakeUp; decide +kernel

/-- CH0 in a RAMP without a JACK_LOAD, WP0 enabled and NORMAL without an input, both at a cycle start. -/
def starved (st : ChanState) : State :=
  due [.ageing, .inputStale 0, .wallStale 0]
    (setState st ((inStep .halt (.ramp ramp) (.ramp (settling 0 0))).setWall 0 (point .normal false)))

theorem witness_StalenessFreezesAndMarks : ∀ st ∈ [ChanState.running, .frozen, .faulted],
    let u := prepareWork (.inputStale 0) (starved st)
    let v := prepareWork (.wallStale 0) (starved st)
    CycleWork.inputStale 0 ∈ (starved st).due ∧ (u.chan 0).state = st ∧
    u.currentStep 0 = some { onFail := .halt, divert := 1, body := .ramp ramp } ∧
    Measurand.jackLoad ∈ (StepBody.ramp ramp).requiredInputs ∧ u.available (.chan 0 .jackLoad) = false ∧
    (u.chan 0).freeze.sampleStale = false ∧ CycleWork.wallStale 0 ∈ (starved st).due ∧
    (v.wall 0).config.enable = true ∧ (v.wall 0).latch = false ∧ v.available (.wallMove 0) = false ∧
    (v.wall 0).state ≠ .stale := by decide +kernel

theorem witness_StalenessFreezesAndMarks_return :
    let s := sampled (.chan 0 .jackStroke) ((reading (.chan 0 .jackLoad) 5 (inStep .halt (.hold hold) (.hold (holdWork 2)))).updChan 0
      fun ch => { ch with state := .frozen, freeze := { FreezeSet.empty with sampleStale := true } })
    let u := settle s
    Accepts u 20 (sampleOf 7) (.chan 0 .jackStroke) (accepted 7) ∧ (u.chan 0).state = .frozen ∧
    (u.chan 0).freeze = { FreezeSet.empty with sampleStale := true } ∧
    u.currentStep 0 = some { onFail := .halt, divert := 1, body := .hold hold } ∧
    (∀ n ∈ (StepBody.hold hold).requiredInputs, n ≠ .jackStroke → u.available (.chan 0 n) = true) ∧
    (u.chan 0).work = .hold (holdWork 2) :=
  ⟨accepts_sample (by decide +kernel), by decide +kernel⟩

/-- CH0 in a step whose actuator's echo is bound and reads `r`. -/
def echoing (w : StepWork) (x : Target) (r : InputRecord) : State :=
  due [.echo 0] ((mapped (.sample x 0) (inStep .halt (.ramp ramp) w)).setInput x r)

theorem witness_SilentNodeFaultsChannel :
    ∀ e ∈ [(StepWork.ramp (settling 0 0), Target.chan 0 .jackEcho), (.hold (holdWork 0), .chan 0 .jackEcho),
        (.lockoff { phase := .seating, settle := 0, load := none }, .chan 0 .jackEcho), (.payout payoutWork, .chan 0 .winchEcho),
        (.inject (injectWork .granted 0), .pumpEcho .a)],
      ∀ r ∈ [{ accepted 0 with valid := false }, { accepted 0 with age := 26 }, accepted 230],
        let s := echoing e.1 e.2 r
        CycleWork.echo 0 ∈ s.due ∧ (s.chan 0).state = .running ∧ (s.chan 0).phase = .active ∧ (s.chan 0).tookUp = false ∧
        s.bound e.2 = true ∧ s.input e.2 = some r ∧
        (r.valid = false ∨ (s.chan 0).config.echoLimit < r.age ∨
          ((s.chan 0).config.echoLimit : Int) < (((s.line.count % 256 : Nat) : Int) - r.value) % 256) := by
  decide +kernel

theorem witness_SilentNodeFaultsChannel_use :
    EchoInUse (running (.ramp (settling 0 0))) 0 (.chan 0 .jackEcho) ∧
    EchoInUse (running (.hold (holdWork 0))) 0 (.chan 0 .jackEcho) ∧
    EchoInUse (running (.lockoff { phase := .seating, settle := 0, load := none })) 0 (.chan 0 .jackEcho) ∧
    EchoInUse (running (.payout payoutWork)) 0 (.chan 0 .winchEcho) ∧
    EchoInUse (running (.inject (injectWork .granted 0))) 0 (.pumpEcho .a) :=
  ⟨rfl, rfl, rfl, rfl, rfl, .a, rfl, rfl⟩

/-- An echo in use without a record, and one whose echo age or record age is the limit itself. -/
theorem witness_SilentNodeFaultsChannel_passes :
    (let s := due [.echo 0] (mapped (.sample (.chan 0 .jackEcho) 0) (inStep .halt (.ramp ramp) (.ramp (settling 0 0))))
     CycleWork.echo 0 ∈ s.due ∧ s.bound (.chan 0 .jackEcho) = true ∧ s.input (.chan 0 .jackEcho) = none ∧
     (s.chan 0).state = .running ∧ (s.chan 0).phase = .active ∧ (s.chan 0).tookUp = false) ∧
    (∀ r ∈ [accepted 0, accepted 231, { accepted 0 with age := 25 }],
      let s := echoing (.ramp (settling 0 0)) (.chan 0 .jackEcho) r
      s.due = [CycleWork.echo 0] ∧ s.input (.chan 0 .jackEcho) = some r ∧ r.valid = true ∧
      r.age ≤ (s.chan 0).config.echoLimit ∧
      (((s.line.count % 256 : Nat) : Int) - r.value) % 256 ≤ ((s.chan 0).config.echoLimit : Int)) ∧
    ((setState .frozen (echoing (.ramp (settling 0 0)) (.chan 0 .jackEcho) (accepted 230))).chan 0).state ≠ .running := by
  decide +kernel

/-- The echo of `echoing` is the one in use. -/
theorem witness_SilentNodeFaultsChannel_only : ∀ x,
    EchoInUse ((echoing (.ramp (settling 0 0)) (.chan 0 .jackEcho) (accepted 231)).chan 0) 0 x ↔ x = .chan 0 .jackEcho :=
  fun _ => Iff.rfl

/-- A report list of the item `i` and its swap. -/
def reporting (active : List ReportEntry) (last : List (Option ReportValue)) (pos : Nat) (swap : Bool) : State :=
  mapped .report { part with
    reports := { active := active, shadow := [], listPos := pos, lastSent := last, swapPending := swap } }

def entry (changeOnly : Bool) : ReportEntry := { item := .part .cycle, changeOnly := changeOnly }

def lastCycle : Option ReportValue := some (reportValue part (.part .cycle))

theorem witness_SwapsExchangeBanks :
    (let s := due [.mapSwap, .listSwap] { reporting [] [] 0 true with line := { part.line with swapPending := true } }
     CycleWork.mapSwap ∈ s.due ∧ s.line.swapPending = true ∧ CycleWork.listSwap ∈ s.due ∧ s.reports.swapPending = true ∧
     s.reports.active = []) ∧
    ∀ last ∈ [none, lastCycle],
      let u := settle (reporting [entry true, entry true] [lastCycle, last] 0 true)
      SlotAt u 20 .report ∧ u.reports.swapPending = true ∧ u.reports.active[1]? = some (entry true) ∧
      u.reports.listPos ≤ 1 ∧ u.reports.lastSent.getD 0 none = some (reportValue u (.part .cycle)) ∧
      (u.reports.lastSent.getD 1 none = some (reportValue u (.part .cycle)) ↔ last = lastCycle) :=
  ⟨by decide +kernel, fun last h => ⟨slotAt (by revert last; decide +kernel), by revert last; decide +kernel⟩⟩

theorem witness_ReportSlotSendsNextReport :
    SlotAt (settle (reporting [] [] 0 false)) 20 .report ∧
    (let u := settle (reporting [entry true, entry true, entry false] [lastCycle, none, none] 2 false)
     SlotAt u 20 .report ∧ u.reports.listPos < 3 ∧ u.reports.active[(2 + 0) % 3]? = some (entry false) ∧
     u.reports.active[(2 + 2) % 3]? = some (entry true) ∧ u.reports.lastSent.getD 1 none = none) ∧
    (let u := settle (reporting [entry true, entry true] [lastCycle, lastCycle] 0 false)
     u.reports.swapPending = false ∧ ∀ i < 2, u.reports.active[i]? = some (entry true) ∧
       u.reports.lastSent.getD i none = some (reportValue u (.part .cycle))) :=
  ⟨slotAt (by decide +kernel), ⟨slotAt (by decide +kernel), by decide +kernel⟩, by decide +kernel⟩

theorem witness_ReplyWindowWritesOwedReply :
    (settle (before 9 resetting)).worked = true ∧ (settle (before 9 resetting)).mgmt.owed ≠ none ∧
    (settle (before 9 resetting)).line.slotPos = 8 ∧ (settle (before 9 part)).mgmt.owed = none ∧
    (settle { part with pins := { part.pins with resetIn := true } }).pins.resetIn = true ∧
    (settle (aligning .hunt)).line.alignment = .hunt ∧ slotGood badSlot = false ∧
    (settle (before 24 (aligning .confirm))).line.slotPos + 8 < 32 ∧
    (let s := before 17 { resetting with mgmt := { resetting.mgmt with replyWritten := true } }
     (settle s).worked = true ∧ (settle s).mgmt.replyWritten = true ∧ (settle s).mgmt.resetPending = true ∧
     16 ≤ (settle s).line.slotPos ∧
     (settle s).mgmt.owed = some { address := 5, kind := 20#8, tag := 0#8, status := .ok, payload := [] }) := by
  decide +kernel

theorem witness_ReplyWindowWritesOwedReply_slots : ∀ pos ∈ [9, 10, 16], ∀ written ∈ [true, false],
    let u := settle (before pos { resetting with mgmt := { resetting.mgmt with replyWritten := written } })
    Instr.huntSlot badSlot ∈ SlotRows pos badSlot ∧ u.worked = true ∧ BeforeSync u ∧ u.line.slotPos + 1 = pos ∧
    u.mgmt.replyWritten = written ∧
    u.mgmt.owed = some { address := 5, kind := 20#8, tag := 0#8, status := .ok, payload := [] } := by
  intro pos hp written hw
  refine ⟨by simp [SlotRows], ?_, beforeSync ?_, ?_⟩ <;> (revert pos written; decide)

/-! ### Witnesses: samples and command slots -/

theorem witness_SampleSlotWritesRecord :
    Accepts (settle (sampled (.chan 0 .jackStroke) part)) 20 (sampleOf 30000) (.chan 0 .jackStroke) (accepted 30000) ∧
    Accepts (settle (sampled (.chan 0 .jackEcho) part)) 20 (sampleOf 7) (.chan 0 .jackEcho) (accepted 0) ∧
    SlotAt (settle (sampled (.chan 0 .jackStroke) part)) 20 (.sample (.chan 0 .jackStroke) 0) ∧
    slotGood badSlot = false ∧ (makeSlot 2#8 0#8 0#8 0#8).b0 ≠ 0#8 ∧ (makeSlot 2#8 0#8 0#8 0#8).b0 ≠ 1#8 ∧
    SlotAt (settle (mapped (.sample (.chan 0 .jackStroke) 0) part)) 20 (.sample (.chan 0 .jackStroke) 0) ∧
    (Target.chan 0 .jackStroke).isEcho = false ∧
    Sparse.get none (settle (mapped (.sample (.chan 0 .jackStroke) 0) part)).scales 0 = none :=
  ⟨accepts_sample (by decide +kernel),
    ⟨0, slotAt (by decide +kernel), by decide +kernel, by decide, by decide, by decide, by decide, by decide⟩,
    slotAt (by decide +kernel), by decide +kernel, by decide, by decide, slotAt (by decide +kernel), by decide, by decide⟩

/-- WP4 of the manual's example in a state, its input sampled at position 20. -/
def watched (state : PointState) (latch enable : Bool) : State :=
  sampled (.wallMove 4) (part.setWall 4 { point state latch with config := { (point state latch).config with enable } })

theorem witness_WallSampleClassifiesPoint :
    (∀ st ∈ [PointState.normal, .warn, .stop, .stale], ∀ l ∈ [true, false], ∀ e ∈ [true, false], ∀ v ∈ [239, 240, 270, 419, 420],
      (settle (watched st l e)).nextEntry = some (.sample (.wallMove 4) 0) ∧ slotGood (sampleOf v) = true ∧
      (sampleOf v).b0 = 0#8 ∧ (sampleOf v).b3.toNat = 0 ∧
      Sparse.get none (settle (watched st l e)).scales 0 = some { offset := 0, gain := 1, shift := 0 } ∧
      (((sampleOf v).b1 ++ (sampleOf v).b2).toInt - 0) * 1 / 2 ^ 0 = v) ∧
    (settle (watched .normal false true)).wallState ≠ .stop ∧ (settle (watched .stop true true)).wallState = .stop ∧
    Accepts (settle (watched .normal false true)) 20 (sampleOf 420) (.wallMove 4) (accepted 420) :=
  ⟨by decide +kernel, by decide, by decide, accepts_sample (by decide +kernel)⟩

/-- CH0 in a step with a sample of its measurand `m` at position 20. -/
def measured (f : OnFail) (m : Measurand) (b : StepBody) (w : StepWork) : State := sampled (.chan 0 m) (inStep f b w)

theorem witness_ExcessesFaultChannel :
    (∀ st ∈ [ChanState.running, .frozen],
      (let u := settle (setState st (measured .halt .jackLoad (.ramp ramp) (.ramp (settling 0 0))))
       (u.chan 0).state = st ∧ (u.chan 0).config.overloadLimit = 40000 ∧
       (u.chan 0).config.overloadPersistence ≤ min 255 ((u.chan 0).jack.overloads + 1)) ∧
      (let u := settle (setState st (measured .halt .groutPressure (.inject inject) (.inject (injectWork .none 0))))
       (u.chan 0).state = st ∧ (u.chan 0).phase = .active ∧
       u.currentStep 0 = some { onFail := .halt, divert := 1, body := .inject inject } ∧
       (u.chan 0).work = .inject (injectWork .none 0) ∧ inject.pressureCeiling + (u.chan 0).config.overMargin < 1501 ∧
       (u.chan 0).config.overPersistence ≤ min 255 ((injectWork .none 0).overs + 1)) ∧
      (let u := settle (setState st (measured .halt .winchTension (.payout payout) (.payout payoutWork)))
       (u.chan 0).state = st ∧ (u.chan 0).phase = .active ∧ (u.chan 0).work = .payout payoutWork ∧
       (u.chan 0).config.tensionLimit < 1501 ∧
       (u.chan 0).config.tensionPersistence ≤ min 255 (payoutWork.tension + 1))) ∧
    Accepts (settle (measured .halt .groutPressure (.inject inject) (.inject (injectWork .none 0)))) 20 (sampleOf 1501)
      (.chan 0 .groutPressure) (accepted 1501) ∧
    Accepts (settle (measured .halt .winchTension (.payout payout) (.payout payoutWork))) 20 (sampleOf 1501)
      (.chan 0 .winchTension) (accepted 1501) :=
  ⟨by decide +kernel, accepts_sample (by decide +kernel), accepts_sample (by decide +kernel)⟩

/-- CH0 with an overload limit of 8000, its JACK_LOAD sampled. -/
def limited : State :=
  (measured .halt .jackLoad (.ramp ramp) (.ramp (settling 0 0))).updChan 0 fun ch =>
    { ch with config := { ch.config with overloadLimit := 8000 } }

theorem witness_ExcessesFaultChannel_overload :
    Accepts (settle limited) 20 (sampleOf 8001) (.chan 0 .jackLoad) (accepted 8001) ∧
    ((settle limited).chan 0).config.overloadLimit < 8001 := ⟨accepts_sample (by decide +kernel), by decide⟩

theorem witness_ExcessesFaultChannel_counts :
    let limits := fun (ch : Channel) =>
      { ch with config := { ch.config with overloadLimit := 8000, overloadPersistence := 2, overPersistence := 2, tensionPersistence := 2 } }
    (∀ v ∈ [8000, 8001],
      let u := settle ((measured .halt .jackLoad (.ramp ramp) (.ramp (settling 0 0))).updChan 0 limits)
      Accepts u 20 (sampleOf v) (.chan 0 .jackLoad) (accepted v) ∧ (u.chan 0).state = .running ∧
      NoOverload (u.chan 0) v) ∧
    (∀ v ∈ [1500, 1501],
      let u := settle ((measured .halt .groutPressure (.inject inject) (.inject (injectWork .none 0))).updChan 0 limits)
      Accepts u 20 (sampleOf v) (.chan 0 .groutPressure) (accepted v) ∧ (u.chan 0).state = .running ∧
      (u.chan 0).phase = .active ∧ u.currentStep 0 = some { onFail := .halt, divert := 1, body := .inject inject } ∧
      (u.chan 0).work = .inject (injectWork .none 0) ∧ inject.pressureCeiling + (u.chan 0).config.overMargin = 1500 ∧
      min 255 ((injectWork .none 0).overs + 1) < (u.chan 0).config.overPersistence) ∧
    (∀ v ∈ [1500, 1501],
      let u := settle ((measured .halt .winchTension (.payout payout) (.payout payoutWork)).updChan 0 limits)
      Accepts u 20 (sampleOf v) (.chan 0 .winchTension) (accepted v) ∧ (u.chan 0).state = .running ∧
      (u.chan 0).phase = .active ∧ (u.chan 0).work = .payout payoutWork ∧ (u.chan 0).config.tensionLimit = 1500 ∧
      min 255 (payoutWork.tension + 1) < (u.chan 0).config.tensionPersistence) := by
  refine ⟨fun v h => ⟨accepts_sample (by revert v; decide +kernel), ?_⟩, fun v h => ⟨accepts_sample (by revert v; decide +kernel), ?_⟩,
    fun v h => ⟨accepts_sample (by revert v; decide +kernel), ?_⟩⟩
  · unfold NoOverload; revert v; decide +kernel
  all_goals (revert v; decide +kernel)

theorem witness_RampSettles :
    let u := settle (measured .halt .jackLoad (.ramp ramp) (.ramp (settling 0 1)))
    Accepts u 20 (sampleOf 50) (.chan 0 .jackLoad) (accepted 50) ∧ NoOverload (u.chan 0) 50 ∧ (u.chan 0).state = .running ∧
    (u.chan 0).phase = .active ∧ u.currentStep 0 = some { onFail := .halt, divert := 1, body := .ramp ramp } ∧
    (u.chan 0).work = .ramp (settling 0 1) ∧ ((50 : Int) - u.setpoint 0).natAbs ≤ ramp.settleBand ∧
    ramp.settleNeed ≤ min 255 ((settling 0 1).settle + 1) :=
  ⟨accepts_sample (by decide +kernel), .inl (by decide +kernel), by decide +kernel⟩

theorem witness_RampSettles_counts : ∀ v ∈ [50, 51], ∀ w ∈ [settling 0 0, { settling 0 0 with phase := .profiling }],
    let u := settle (measured .halt .jackLoad (.ramp ramp) (.ramp w))
    Accepts u 20 (sampleOf v) (.chan 0 .jackLoad) (accepted v) ∧ NoOverload (u.chan 0) v ∧ (u.chan 0).state = .running ∧
    (u.chan 0).phase = .active ∧ u.currentStep 0 = some { onFail := .halt, divert := 1, body := .ramp ramp } ∧
    (u.chan 0).work = .ramp w ∧ (((v : Int) - u.setpoint 0).natAbs ≤ ramp.settleBand ↔ v = 50) ∧
    min 255 (w.settle + 1) < ramp.settleNeed ∧ 1 ≤ ramp.settleNeed := by
  intro v hv w hw
  refine ⟨accepts_sample ?_, .inl ?_, ?_⟩ <;> (revert v w; decide +kernel)

theorem witness_LoadSamplesDecideHoldAndLockoff :
    (∀ v ∈ [100, 101], ∀ f ∈ [OnFail.halt, .divert, .cont],
      let u := settle (measured f .jackLoad (.hold hold) (.hold (holdWork 2)))
      Accepts u 20 (sampleOf v) (.chan 0 .jackLoad) (accepted v) ∧ NoOverload (u.chan 0) v ∧ (u.chan 0).state = .running ∧
      (u.chan 0).phase = .active ∧ u.currentStep 0 = some { onFail := f, divert := 1, body := .hold hold } ∧
      (u.chan 0).work = .hold (holdWork 2) ∧ (u.chan 0).record = some (Record.opened 0 7 3) ∧
      (((v : Int) - u.setpoint 0).natAbs ≤ hold.tolerance ↔ v = 100)) ∧
    (∀ v ∈ [50, 51], ∀ f ∈ [OnFail.halt, .divert, .cont], ∀ anchor ∈ ([70, 69] : List Nat),
      let w : LockoffWork := { phase := .releasing, settle := 2, load := some 100 }
      let u := settle (reading (.chan 0 .anchorLoad) anchor (measured f .jackLoad (.lockoff lockoff) (.lockoff w)))
      Accepts u 20 (sampleOf v) (.chan 0 .jackLoad) (accepted v) ∧ NoOverload (u.chan 0) v ∧ (u.chan 0).state = .running ∧
      (u.chan 0).phase = .active ∧ u.currentStep 0 = some { onFail := f, divert := 1, body := .lockoff lockoff } ∧
      (u.chan 0).work = .lockoff w ∧ (u.chan 0).record = some (Record.opened 0 7 3) ∧ u.setpoint 0 = 0 ∧
      (v ≤ lockoff.seatThreshold ↔ v = 50) ∧ u.chanValue 0 .anchorLoad = some anchor ∧
      (anchor + lockoff.allowedLoss < 100 ↔ anchor = 69)) := by
  refine ⟨fun v hv f hf => ⟨accepts_sample ?_, .inl ?_, ?_⟩, fun v hv f hf a ha => ⟨accepts_sample ?_, .inl ?_, ?_⟩⟩
  all_goals first | (revert v f; decide +kernel) | (revert v f a; decide +kernel)

theorem witness_FlowAndPayoutSamplesAreCounted :
    (∀ st ∈ [Standing.none, .granted],
      let u := settle (measured .halt .groutFlow (.inject inject) (.inject (injectWork st 0)))
      (u.chan 0).state = .running ∧ (u.chan 0).phase = .active ∧
      u.currentStep 0 = some { onFail := .halt, divert := 1, body := .inject inject } ∧
      (u.chan 0).work = .inject (injectWork st 0)) ∧
    Accepts (settle (measured .halt .groutFlow (.inject inject) (.inject (injectWork .granted 0)))) 20 (sampleOf 1000)
      (.chan 0 .groutFlow) (accepted 1000) ∧ inject.targetVolume ≤ min 16777215 (0 + 1000) ∧
    Accepts (settle (measured .halt .groutFlow (.inject inject) (.inject (injectWork .granted 0)))) 20 (sampleOf 5)
      (.chan 0 .groutFlow) (accepted 5) ∧ min 16777215 (0 + 5) < inject.targetVolume ∧ 5 ≤ inject.refusalFlow ∧
    min 255 (0 + 1) < inject.refusalCount ∧
    (let u := settle (measured .halt .winchPayout (.payout payout) (.payout payoutWork))
     Accepts u 20 (sampleOf 12100) (.chan 0 .winchPayout) (accepted 12100) ∧
     Accepts u 20 (sampleOf 11999) (.chan 0 .winchPayout) (accepted 11999) ∧ (u.chan 0).state = .running ∧
     (u.chan 0).phase = .active ∧ u.currentStep 0 = some { onFail := .halt, divert := 1, body := .payout payout } ∧
     (u.chan 0).work = .payout payoutWork ∧ payout.target ≤ 12100 - 12000 ∧ 11999 - 12000 < payout.target) :=
  ⟨by decide +kernel, accepts_sample (by decide +kernel), by decide, accepts_sample (by decide +kernel), by decide,
    by decide, by decide, accepts_sample (by decide +kernel), accepts_sample (by decide +kernel), by decide +kernel⟩

/-- CH0 GRANTED in an INJECT one refusal short, its pressure at 1200. -/
def refusing (f : OnFail) (accept : Bool) : State :=
  reading (.chan 0 .groutPressure) 1200
    (measured f .groutFlow (.inject { inject with acceptRefusal := accept }) (.inject (injectWork .granted 1)))

theorem witness_FlowAndPayoutSamplesAreCounted_refusal :
    (∀ f ∈ [OnFail.halt, .divert, .cont], ∀ a ∈ [true, false],
      let u := settle (refusing f a)
      (u.chan 0).state = .running ∧ (u.chan 0).phase = .active ∧
      u.currentStep 0 = some { onFail := f, divert := 1, body := .inject { inject with acceptRefusal := a } } ∧
      (u.chan 0).work = .inject (injectWork .granted 1) ∧ (u.chan 0).record = some (Record.opened 0 7 3) ∧
      u.chanValue 0 .groutPressure = some 1200) ∧
    min 16777215 (0 + 5) < inject.targetVolume ∧ inject.refusalPressure ≤ 1200 ∧ 5 ≤ inject.refusalFlow ∧
    inject.refusalCount ≤ min 255 ((injectWork .granted 1).refusals + 1) ∧
    Accepts (settle (refusing .halt false)) 20 (sampleOf 5) (.chan 0 .groutFlow) (accepted 5) :=
  ⟨by decide +kernel, by decide, by decide, by decide, by decide, accepts_sample (by decide +kernel)⟩

theorem witness_JackCommandWritesDemand :
    (∀ w ∈ [StepWork.ramp (settling 0 0), .hold (holdWork 0), .lockoff { phase := .releasing, settle := 2, load := some 1 }],
      let u := settle (reading (.chan 0 .jackLoad) 9201 (mapped (.command (.jack 0)) (inStep .halt (.ramp ramp) w)))
      SlotAt u 20 (.command (.jack 0)) ∧ (u.chan 0).state = .running ∧ (u.chan 0).phase = .active ∧
      (u.chan 0).work = w ∧ u.chanValue 0 .jackLoad = some 9201) ∧
    SlotAt (settle (mapped (.command (.jack 0)) part)) 20 (.command (.jack 0)) ∧
    ((settle (mapped (.command (.jack 0)) part)).chan 0).state ≠ .running :=
  ⟨fun w h => ⟨slotAt (by revert w; decide +kernel), by revert w; decide +kernel⟩, slotAt (by decide +kernel), by decide⟩

theorem witness_WinchAndPumpCommandsAreWritten :
    (let u := settle (reading (.chan 0 .winchTension) 100
        (mapped (.command (.winch 0)) (inStep .halt (.payout payout) (.payout payoutWork))))
     SlotAt u 20 (.command (.winch 0)) ∧ (u.chan 0).state = .running ∧ (u.chan 0).phase = .active ∧
     (u.chan 0).work = .payout payoutWork ∧ payoutWork.startLength ≠ none ∧ payoutWork.hold = false ∧
     u.available (.chan 0 .winchTension) = true) ∧
    ((settle (mapped (.command (.winch 0)) part)).chan 0).state ≠ .running ∧
    (∀ st ∈ [PumpState.free, .switching 0, .granted 0],
      let u := settle (mapped (.command (.pump .a)) (due [] (pumping st .none [] none)))
      SlotAt u 20 (.command (.pump .a)) ∧ (u.arb .a).state = st) ∧
    (let u := reading (.chan 0 .groutPressure) 1400 (mapped (.command (.pump .a)) (due [] (pumping (.granted 0) .granted [] (some 0))))
     u.currentStep 0 = some { onFail := .halt, divert := 1, body := .inject inject } ∧
     u.chanValue 0 .groutPressure = some 1400) ∧
    (due [] (pumping (.granted 0) .granted [] (some 0))).chanValue 0 .groutPressure = none :=
  ⟨⟨slotAt (by decide +kernel), by decide +kernel⟩, by decide,
    fun st h => ⟨slotAt (by revert st; decide +kernel), by revert st; decide +kernel⟩, by decide +kernel, by decide +kernel⟩

/-! ### Witnesses: requests -/

/-- A window of eight slots whose checks are bad. -/
def badWindow : Window :=
  { s1 := badSlot, s2 := badSlot, s3 := badSlot, s4 := badSlot, s5 := badSlot, s6 := badSlot, s7 := badSlot, s8 := badSlot }

/-- Every check of a window that can be read off it. -/
theorem addressed_ask {k : Nat} {p : List Byte} {s : State}
    (h : s.atRequestWindow = true ∧ s.mgmt.resetPending = false ∧ s.mgmt.address = 5 ∧ slotGood (ask k p).s1 = true ∧
      requestDestination (ask k p) = 5 ∧ requestKind (ask k p) = k ∧ requestLength (ask k p) = p.length ∧ p.length ≤ 28 ∧
      requestPayload (ask k p) = p ∧ ∀ x ∈ usedSlots (ask k p), slotGood x = true) : Addressed k p (ask k p) s := by
  obtain ⟨h1, h2, h3, h4, h5, h6, h7, h8, h9, h10⟩ := h
  exact ⟨h1, h2, by omega, by omega, h4, by omega, h6, h7, h8, h9, h10⟩

/-- A part that nothing but the request will change at this moment. -/
theorem addressed_part {k : Nat} {p : List Byte}
    (h : slotGood (ask k p).s1 = true ∧ requestDestination (ask k p) = 5 ∧ requestKind (ask k p) = k ∧
      requestLength (ask k p) = p.length ∧ p.length ≤ 28 ∧ requestPayload (ask k p) = p ∧
      ∀ x ∈ usedSlots (ask k p), slotGood x = true) : Addressed k p (ask k p) (settle part) :=
  addressed_ask ⟨by decide, by decide, by decide, h⟩

theorem witness_ClaimsAreGrantedAndWithdrawn_freeze :
    Addressed 7 [1#8] (ask 7 [1#8]) (settle part) ∧ (1#8).toNat = 2 ^ (0 : Chan).val ∧
    (∀ x ∈ [(PumpState.granted 0, Standing.granted), (.switching 0, .switching), (.granted 1, .queued)], ∀ q ∈ [[], [1]],
      let u := settle (due [] (pumping x.1 x.2 q (some 0)))
      Addressed 7 [1#8] (ask 7 [1#8]) u ∧ (u.chan 0).state = .running ∧ (u.chan 0).freeze.supervisor = false ∧
      (u.chan 0).config.pump = some .a ∧ (u.chan 0).work = .inject (injectWork x.2 0) ∧ x.2 ≠ .none ∧
      (u.arb .a).state = x.1 ∧ (u.arb .a).queue = q ∧ (u.chan 1).work = .inject (injectWork .queued 0)) ∧
    (let u := settle ((due [] (pumping .free .none [] none)).updChan 0 fun ch =>
       { ch with state := .frozen, freeze := { FreezeSet.empty with supervisor := true } })
     Addressed 8 [1#8] (ask 8 [1#8]) u ∧ (u.chan 0).state = .frozen ∧
     (u.chan 0).freeze = { FreezeSet.empty with supervisor := true } ∧ (u.chan 0).config.pump = some .a ∧
     (u.chan 0).work = .inject (injectWork .none 0)) := by
  unfold Addressed; decide +kernel

/-- R156, R167: a request is taken from the eight slots of its window, whichever rows deliver them. -/
theorem test_request_taken_slot_by_slot_and_by_another_row :
    let w := ask 11 [0#8, 0#8, 77#8]
    ((after (.huntSlot w.s8) (handedSeven w)).chan 0).profile.stagedPace = some 77 ∧
    ((after (.startProgram w) part).chan 0).profile.stagedPace = some 77 ∧
    ((after (.replyWindow w) part).chan 0).profile.stagedPace = some 77 ∧
    (after (.huntSlot w.s1) part).mgmt.window = [w.s1] := by decide +kernel

theorem witness_RequestWindowIsHandedOver :
    (Instr.resetPart (ask 20 []) ∈ WindowRows (ask 20 []) ∧ Instr.unknownRequest badWindow ∈ WindowRows badWindow) ∧
    (settle part).worked = true ∧ (settle part).line.slotPos = 0 ∧ Ignored badWindow (settle part) ∧
    Ignored (ask 4 []) (settle resetting) ∧ Ignored (requestWindow 63 6 0#8 []) (settle part) ∧
    Ignored (requestWindow 6 4 0#8 []) (settle part) ∧ Ignored (requestWindow 0 4 0#8 []) (settle State.reset) := by
  refine ⟨by simp [WindowRows, RequestRows], ?_⟩
  unfold Ignored; decide +kernel

theorem witness_RequestWindowIsHandedOver_unworked :
    (settle (aligning .hunt)).worked = false ∧ (∀ x ∈ badWindow.slots, slotGood x = false) ∧
    (settle { part with pins := { part.pins with resetIn := true } }).pins.resetIn = true ∧
    (settle (aligning .hunt)).line.alignment = .hunt ∧ (settle (aligning .confirm)).line.alignment = .confirm ∧
    (settle (before 24 (aligning .confirm))).line.slotPos + 8 < 32 := by decide +kernel

theorem witness_GarbledAndUnknownAreRefused :
    let u := settle part
    u.worked = true ∧ u.line.slotPos = 0 ∧ u.mgmt.resetPending = false ∧ 1 ≤ u.mgmt.address ∧ u.mgmt.address ≤ 62 ∧
    (∀ k ∈ [0, 1, 4, 20, 21], slotGood (ask k [1#8]).s1 = true ∧ requestDestination (ask k [1#8]) = u.mgmt.address ∧
      requestKind (ask k [1#8]) = k ∧ (∀ x ∈ usedSlots (ask k [1#8]), slotGood x = true) ∧
      ∃ x ∈ usedSlots { ask k [1#8] with s2 := badSlot }, slotGood x = false) ∧
    (∀ w ∈ [ask 4 [1#8], ask 20 [1#8]], ∃ r ∈ RequestRows w, r.2.1 = requestKind w ∧ r.2.2 = none) ∧
    KindCalls 4 = some 2 ∧ requestLength (ask 4 [1#8]) = 1 ∧
    (Instr.loadEntryHeader (ask 1 [0#8, 0#8]), 1, some (0, 0#8)) ∈ RequestRows (ask 1 [0#8, 0#8]) ∧
    (requestPayload (ask 1 [0#8, 0#8]))[0]? = some 0#8 ∧ requestLength (ask 1 [0#8, 0#8]) = 2 ∧ requestLength (ask 1 []) = 0 ∧
    EntryCalls 0 none = some 9 ∧
    (∀ b ∈ [10#8, 255#8], requestKind (ask 1 [b, 0#8, 0#8]) = 1 ∧ (requestPayload (ask 1 [b, 0#8, 0#8]))[0]? = some b ∧
      9 < b.toNat ∧ ∀ x ∈ usedSlots (ask 1 [b, 0#8, 0#8]), slotGood x = true) ∧
    (∀ n ∈ [11, 13], requestLength (ask 1 (List.replicate n 0#8)) = n ∧
      requestLength (ask 1 (List.replicate n 0#8)) ≠ 3 + 9) := by decide +kernel

/-- The whole payload of a LOAD_ENTRY of the table of selector `t`. -/
def load (t i : Nat) (fs : List Field) : List Byte :=
  [BitVec.ofNat 8 t, BitVec.ofNat 8 (i / 256), BitVec.ofNat 8 i] ++ fieldsBytes fs

theorem witness_StoreLoadsCheckIndexValueLock :
    (∀ x ∈ [(0, header.fields), (1, (Step.mk .halt 1 (.ramp ramp)).fields), (2, (segment .cont).fields),
        (3, markSetFields [1, 4])], ∀ i ∈ [0, 31, 1024],
      Addressed 1 (load x.1 i x.2) (ask 1 (load x.1 i x.2)) (settle part) ∧
      Addressed 1 (load x.1 i []) (ask 1 (load x.1 i [])) (settle part)) ∧
    EntryRead decodeHeader Header.ok (fieldsBytes header.fields) = some (some header) ∧
    EntryRead decodeHeader Header.ok (fieldsBytes { header with stepCount := 0 }.fields) = none ∧
    EntryRead decodeHeader Header.ok [] = some none ∧ (settle (part.lockProgram 0)).store.locks .header 0 = 0 ∧
    0 < ({ part with store := { part.store with headerLocks := [(0, 1)] } }).store.locks .header 0 ∧
    stepLength 9 = none ∧ stepLength 2 = some 10 := by
  unfold Addressed; decide +kernel

theorem witness_LoadsOfUnlockedTables :
    (∀ i ∈ [0, 47, 48], Addressed 1 (load 4 i (ScaleEntry.mk 512 13107 15).fields)
      (ask 1 (load 4 i (ScaleEntry.mk 512 13107 15).fields)) (settle part)) ∧
    (∀ i ∈ [16, 17, 239, 240], Addressed 1 (load 7 i (SlotEntry.command (.jack 7)).fields)
      (ask 1 (load 7 i (SlotEntry.command (.jack 7)).fields)) (settle part)) ∧
    (∀ i ∈ [0, 63, 64], Addressed 1 (load 8 i (entry true).fields) (ask 1 (load 8 i (entry true).fields)) (settle part)) ∧
    EntryRead decodeScale ScaleEntry.ok (fieldsBytes (ScaleEntry.mk 0 1 16).fields) = none ∧
    EntryRead decodeSlotEntry SlotEntry.ok (fieldsBytes (SlotEntry.sample (.pumpEcho .b) 48).fields) = none ∧
    (20, SlotEntry.command (.jack 7)) ∈
      (settle { part with line := { part.line with shadow := [(20, .command (.jack 7))] } }).line.shadow ∧
    decodeReportEntry [255#8, 2#8, 0#8] = none ∧ decodeReportEntry (fieldsBytes (entry true).fields) = some (entry true) := by
  unfold Addressed; decide +kernel

theorem witness_LoadsOfUnlockedTables_configurations :
    (∀ i ∈ [0, 7, 8], Addressed 1 (load 5 i ChannelConfig.defaults.fields) (ask 1 (load 5 i ChannelConfig.defaults.fields))
      (settle part)) ∧
    (∀ i ∈ [0, 1], Addressed 1 (load 9 i { PartConfig.defaults with tenure := 50 }.fields)
      (ask 1 (load 9 i { PartConfig.defaults with tenure := 50 }.fields)) (settle part)) ∧
    ((settle part).chan 7).state = .idle ∧ ((inStep .halt .finish .finish).chan 0).state ≠ .idle ∧
    EntryRead decodeChannelConfig ChannelConfig.ok (fieldsBytes { ChannelConfig.defaults with staleLimit := 0 }.fields) = none ∧
    EntryRead decodePartConfig PartConfig.ok (fieldsBytes { PartConfig.defaults with tenure := 49 }.fields) = none ∧
    (pumping (.granted 0) .granted [] (some 0)).pumpA.state ≠ .free ∧ (settle part).pumpA.state = .free := by
  unfold Addressed; decide +kernel

theorem witness_WallPointLoadClassifiesAfresh :
    (∀ i ∈ [0, 15, 16], Addressed 1 (load 6 i (point .normal false).config.fields)
      (ask 1 (load 6 i (point .normal false).config.fields)) (settle part)) ∧
    EntryRead decodeWallConfig WallConfig.ok (fieldsBytes (point .normal false).config.fields)
      = some (some (point .normal false).config) ∧
    EntryRead decodeWallConfig WallConfig.ok (fieldsBytes { WallConfig.defaults with hysteresis := 1, stop := 0 }.fields) = none ∧
    ((settle (watched .stop true true)).wall 4).latch = true ∧ ((settle (watched .normal false true)).wall 4).latch = false ∧
    (∀ v ∈ [419, 420, 269], (settle (reading (.wallMove 4) v part)).availableValue (.wallMove 4) = some v) ∧
    (settle part).availableValue (.wallMove 4) = none := by
  unfold Addressed; decide +kernel

theorem witness_ReadEntryReturnsEntry :
    (∀ p ∈ [[0#8, 0#8, 31#8, 0#8], [0#8, 0#8, 32#8, 0#8], [1#8, 3#8, 255#8, 0#8], [2#8, 1#8, 255#8, 0#8],
        [3#8, 0#8, 3#8, 0#8], [4#8, 0#8, 47#8, 0#8], [5#8, 0#8, 7#8, 0#8], [6#8, 0#8, 15#8, 0#8], [7#8, 0#8, 17#8, 1#8],
        [7#8, 0#8, 239#8, 2#8], [8#8, 0#8, 63#8, 0#8], [9#8, 0#8, 0#8, 0#8], [10#8, 0#8, 0#8, 0#8]],
      Addressed 2 p (ask 2 p) (settle part)) ∧
    (stored .halt .finish).header 0 = some header ∧
    (stored .halt .finish).step 0 = some { onFail := .halt, divert := 1, body := .finish } ∧
    (stored .halt .finish).segment 2 ≠ none ∧ (stored .halt .finish).markSet 3 = some [1, 4] ∧
    (settle (reporting [entry true] [none] 0 false)).reports.active[0]? = some (entry true) := by
  unfold Addressed; decide +kernel

theorem witness_SwapNoticeAndResetRequests_swaps : ∀ sel ∈ [0#8, 1#8, 2#8, 3#8], Addressed 3 [sel] (ask 3 [sel]) (settle part) := by
  unfold Addressed; decide +kernel

theorem witness_StartProgramLocksAndStarts_locks : (inStep .halt (.hold hold) .none).store.header 0 = some header ∧
    (inStep .halt (.hold hold) .none).store.step 0 = some { onFail := .halt, divert := 1, body := .hold hold } := by decide

theorem witness_StartProgramLocksAndStarts :
    (∀ p ∈ [[0#8, 0#8], [7#8, 31#8], [8#8, 0#8], [0#8, 32#8]], Addressed 4 p (ask 4 p) (settle part)) ∧
    (settle { part with store := stored .halt .finish }).store.header 0 = some header ∧
    (settle { part with store := stored .halt .finish }).store.step header.stepFirst ≠ none ∧
    ((settle { part with store := stored .halt .finish }).chan 0).state = .idle ∧
    ((inStep .halt .finish .finish).chan 0).state ≠ .idle ∧ ((inStep .halt .finish .finish).chan 0).pendingProgram = none ∧
    (settle part).store.header 0 = none := by
  unfold Addressed; decide +kernel

/-- CH0 with a full Record Queue. -/
def full (st : ChanState) : State :=
  { setState st (inStep .halt .finish .finish) with
    records := { queue := List.replicate 16 (Record.opened 1 2 3), filing := [] } }

theorem witness_AbortEndsProgram :
    (∀ b ∈ [0#8, 7#8, 8#8], Addressed 5 [b] (ask 5 [b]) (settle part)) ∧ ((settle part).chan 7).state = .idle ∧
    (∀ st ∈ [ChanState.running, .frozen, .faulted, .filing], ∀ next ∈ [none, some 0],
      let u := settle ((full st).updChan 0 fun ch => { ch with pendingProgram := next })
      (u.chan 0).state = st ∧ (u.chan 0).record = some (Record.opened 0 7 3) ∧ 16 ≤ u.records.queue.length ∧
      (u.chan 0).pendingProgram = next) ∧
    (settle part).records.queue.length < 16 ∧ ((atTakeUp .finish []).chan 0).phase ≠ .active ∧
    ((atTakeUp .finish []).chan 0).work = .none := by
  unfold Addressed; decide +kernel

/-- CH0 in a step that is left with an accounting of its own, in each state that admits it. -/
def leaving (w : StepWork) (st : ChanState) : State := setState st (inStep .halt (.ramp ramp) w)

theorem witness_AbortEndsProgram_accounting : ∀ st ∈ [ChanState.running, .frozen, .faulted],
    ∀ w ∈ [StepWork.inject (injectWork .granted 0), .inject (injectWork .none 0), .payout payoutWork,
        .lockoff { phase := .seating, settle := 0, load := none }, .ramp (settling 0 0)],
      let u := settle (leaving w st)
      (u.chan 0).state = st ∧ (u.chan 0).phase = .active ∧ (u.chan 0).work = w ∧ (u.chan 0).config.pump = some .a ∧
      (u.chan 0).record = some (Record.opened 0 7 3) ∧ u.records.queue.length < 16 := by decide +kernel

theorem witness_SkipNamesNextIndex_accounting : ∀ st ∈ [ChanState.running, .frozen, .faulted],
    ∀ w ∈ [StepWork.inject (injectWork .granted 0), .inject (injectWork .none 0), .payout payoutWork,
        .lockoff { phase := .seating, settle := 0, load := none }, .hold (holdWork 2)],
      let u := settle (leaving w st)
      Addressed 6 [0#8] (ask 6 [0#8]) u ∧ (u.chan 0).state = st ∧ (u.chan 0).phase = .active ∧ (u.chan 0).work = w ∧
      (u.chan 0).record = some (Record.opened 0 7 3) := by
  unfold Addressed; decide +kernel

theorem witness_SkipNamesNextIndex :
    (∀ b ∈ [0#8, 7#8, 8#8], Addressed 6 [b] (ask 6 [b]) (settle part)) ∧
    (∀ st ∈ [ChanState.idle, .filing, .running, .frozen, .faulted], ((settle (full st)).chan 0).state = st ∧
      ((settle (full st)).chan 0).phase = .active) ∧ ((atTakeUp .finish []).chan 0).phase ≠ .active := by
  unfold Addressed; decide +kernel

theorem witness_FreezeAddsSupervisor :
    (∀ b ∈ [0#8, 1#8, 255#8], Addressed 7 [b] (ask 7 [b]) (settle part)) ∧
    (let w := requestWindow 63 7 0#8 [255#8]
     slotGood w.s1 = true ∧ requestDestination w = 63 ∧ requestKind w = 7 ∧ requestLength w = 1 ∧
     slotGood w.s2 = true ∧ w.s2.b0 = 255#8) ∧ (settle part).worked = true ∧ (settle part).line.slotPos = 0 ∧
    (settle part).mgmt.resetPending = false := by
  unfold Addressed; decide +kernel

theorem witness_ResumeRemovesMetCauses :
    (∀ b ∈ [0#8, 1#8, 255#8], Addressed 8 [b] (ask 8 [b]) (settle part)) ∧
    (let w := requestWindow 63 8 0#8 [255#8]
     slotGood w.s1 = true ∧ requestDestination w = 63 ∧ requestKind w = 8 ∧ requestLength w = 1 ∧
     slotGood w.s2 = true ∧ w.s2.b0 = 255#8) ∧ (settle part).worked = true ∧ (settle part).line.slotPos = 0 ∧
    (let s := setState .frozen (inStep .halt (.hold hold) (.hold (holdWork 2)))
     (s.chan 0).state = .frozen ∧ (s.chan 0).work = .hold (holdWork 2)) := by
  unfold Addressed; decide +kernel

theorem witness_ReleaseAndPaceRequests :
    (∀ b ∈ [0#8, 7#8, 8#8], Addressed 9 [b] (ask 9 [b]) (settle part)) ∧
    (∀ p ∈ [[0#8, 1#8, 0#8], [7#8, 1#8, 1#8], [8#8, 0#8, 0#8]], Addressed 11 p (ask 11 p) (settle part)) ∧
    (∀ st ∈ [ChanState.running, .frozen],
      let u := settle (setState st (inStep .halt (.await await) (.await { elapsed := 0, latch := false })))
      (u.chan 0).state = st ∧ (u.chan 0).work = .await { elapsed := 0, latch := false } ∧
      u.currentStep 0 = some { onFail := .halt, divert := 1, body := .await await } ∧ await.releaseSet.release = true) := by
  unfold Addressed; decide +kernel

theorem witness_RetargetChangesProfile :
    (∀ b ∈ [0#8, 8#8], ∀ timing ∈ [0#8, 1#8, 2#8], ∀ g ∈ [segment .cont, { segment .cont with duration := 0 }],
      Addressed 10 (b :: timing :: fieldsBytes g.fields) (ask 10 (b :: timing :: fieldsBytes g.fields)) (settle part) ∧
      (fieldsBytes g.fields).length = 8) ∧
    decodeSegment (fieldsBytes (segment .cont).fields) = some (segment .cont) ∧ (segment .cont).ok = true ∧
    { segment .cont with duration := 0 }.ok = false ∧ ((settle part).chan 0).state = .idle ∧
    (let u := settle (inStep .halt (.ramp ramp) (.ramp (settling 0 0)))
     (u.chan 0).state = .running ∧ u.currentStep 0 = some { onFail := .halt, divert := 1, body := .ramp ramp }) ∧
    (let u := settle ((inStep .halt (.payout payout) (.payout payoutWork)).updProfile 0 (·.engage 1000))
     (u.chan 0).profile.status = .finished ∧ u.currentStep 0 = some { onFail := .halt, divert := 1, body := .payout payout }) ∧
    ((profiled 2 none none).chan 0).profile.status = .active := by
  unfold Addressed; decide +kernel

theorem witness_ReadRequestsReturnState :
    (∀ p ∈ [[0#8, 0#8], [0#8, 1#8], [0#8, 2#8], [0#8, 3#8], [0#8, 4#8], [7#8, 5#8], [8#8, 0#8], [0#8, 6#8]], Addressed 12 p (ask 12 p) (settle part)) ∧
    (∀ b ∈ [0#8, 1#8, 2#8], Addressed 13 [b] (ask 13 [b]) (settle part) ∧ Addressed 18 [b] (ask 18 [b]) (settle part) ∧
      Addressed 14 [b] (ask 14 [b]) (settle (full .idle))) ∧
    (settle (full .idle)).records.queue ≠ [] ∧ (settle part).records.queue = [] := by
  unfold Addressed; decide +kernel

/-- A full queue with CH0 FILING, a program pending on it or not. -/
def filing (next : Option Nat) : State :=
  { ({ part with store := stored .halt .finish }.setChan 0
      { part.chan 0 with state := .filing, filed := some (Record.opened 0 7 3), pendingProgram := next }) with
    records := { queue := List.replicate 16 (Record.opened 1 2 3), filing := [0] } }

theorem witness_TakeRecordFreesPlace :
    Addressed 15 [] (ask 15 []) (settle part) ∧ (settle part).records.queue = [] ∧
    (∀ next ∈ [none, some 0], Addressed 15 [] (ask 15 []) (settle (filing next)) ∧
      (settle (filing next)).records.queue = Record.opened 1 2 3 :: List.replicate 15 (Record.opened 1 2 3) ∧
      (settle (filing next)).records.filing = 0 :: [] ∧ ((settle (filing next)).chan 0).filed = some (Record.opened 0 7 3) ∧
      ((settle (filing next)).chan 0).pendingProgram = next ∧ (settle (filing next)).store.header 0 = some header) := by
  unfold Addressed; decide +kernel

theorem witness_BaselineAndClearWallStop :
    (∀ k ∈ [16, 17], ∀ b ∈ [0#8, 4#8, 15#8, 16#8], Addressed k [b] (ask k [b]) (settle part)) ∧
    (∀ v ∈ [389, 390, 239, 240],
      let u := settle (reading (.wallMove 4) v (watched .stop true true))
      (u.wall 4).latch = true ∧ u.availableValue (.wallMove 4) = some v) ∧
    (∀ e ∈ [true, false], (settle (reading (.wallMove 4) 7 (watched .normal false e))).availableValue (.wallMove 4) = some 7 ∧
      ((settle (reading (.wallMove 4) 7 (watched .normal false e))).wall 4).latch = false ∧
      ((settle (watched .normal false e)).wall 4).config.enable = e ∧
      0 < ((settle (watched .normal false e)).wall 4).config.stop) ∧
    (settle part).availableValue (.wallMove 4) = none := by
  unfold Addressed; decide +kernel

theorem witness_SwapNoticeAndResetRequests :
    (∀ p ∈ [[0#8, 0#8], [3#8, 255#8], [4#8, 0#8]], Addressed 19 p (ask 19 p) (settle part)) ∧
    Addressed 20 [] (ask 20 []) (settle part) := by
  unfold Addressed; decide +kernel

/-! ### Witnesses: encodings and invariants -/

theorem witness_EncodingsReadBackWhole :
    header.ok = true ∧ (Step.mk .divert 255 (.hold hold)).ok = true ∧ (segment .absolute).ok = true ∧
    markSetOk [0, 1, 2, 3, 4, 16777215] = true ∧ (ScaleEntry.mk (-32768) 32767 15).ok = true ∧
    ChannelConfig.defaults.ok = true ∧ WallConfig.defaults.ok = true ∧ (SlotEntry.sample (.wallMove 15) 47).ok = true ∧
    PartConfig.defaults.ok = true := by decide

/-- R199: the characters of the sync slot of R196's example, written out: the first alone has a low stop bit, and 240 slots
are the 12,000 bit times of R199's table. -/
theorem test_sync_slot_on_the_line :
    charactersBits (slotCharacters (makeSlot 0xB5#8 0x3C#8 0x01#8 0x02#8)) =
      [false, true, false, true, true, false, true, false, true, false,
        false, false, false, true, true, true, true, false, false, true,
        false, false, false, false, false, false, false, false, true, true,
        false, false, false, false, false, false, false, true, false, true,
        false, true, true, false, true, false, true, true, false, true] ∧
    240 * (slotBits idleReport).length = 12000 := by decide +kernel

/-- The tail of a slot that was already under way, then rest, then a slot, read while the part is in HUNT. -/
theorem test_delimits_before_alignment :
    receivedSlots (charactersBits ((slotCharacters badSlot).drop 2) ++ [true, true, true] ++ slotBits idleReport) =
      [idleReport] := by decide +kernel

theorem witness_SlotsAreDelimitedOnTheLine : ∀ k ∈ [1, 4], 1 ≤ k ∧ k ≤ 4 := by decide

theorem witness_EncodingsReadBackWhole_slots : 255 < 256 ∧ (List.replicate 28 0xA5#8).length ≤ 28 ∧ 240 ≤ 240 ∧ 65535 < 65536 := by
  decide

/-- A closed record with one hold, and that hold's result. -/
def closed : Record :=
  { Record.opened 5 65535 4294967295 with
    outcome := some .aborted, endCount := some 4294967295, peakLoad := 40000, lockoffLoad := some 40000, groutVolume := some 16777215
    groutEnd := some .refusal, payoutLength := some 65535, holdCount := 255, holds := [result], failedChecks := 255
    overrides := 255, lastIndex := 256 }
where
  result : HoldResult :=
    { verdict := .incomplete, ks := some (-1920000), marks := [some 65535, none, none, none, none, some 0], drift := true
      interrupted := 255 }

theorem witness_LayoutsPlaceEveryField :
    (-32768 : Int) ≤ -1000 ∧ (1000 : Int) ≤ 32767 ∧ 65535 < 65536 ∧ 255 < 256 ∧
    (∀ i ∈ [0, 63], i ≤ 63) ∧ (mkReport 2 0).marker ≠ 3#2 ∧
    (∀ n ∈ [0, 256], ((part.updChan 0 fun ch => { ch with index := n }).chan 0).index ≤ 256) ∧
    (part.arb .a).queue.length ≤ 15 ∧
    (inStep .halt (.inject inject) (.inject (injectWork .none 0)) |>.chan 0).work = .inject (injectWork .none 0) ∧
    (inStep .halt (.payout payout) (.payout payoutWork) |>.chan 0).work = .payout payoutWork ∧
    ({ address := 62, kind := 0#8, tag := 0#8, status := .garbled, payload := [] } : Reply).address ≤ 62 ∧
    (0 : Int) ≤ 255 ∧ (255 : Int) < 256 ^ 1 ∧ -(256 ^ 3 : Int) ≤ 2 * -1920000 ∧
    (∀ k ∈ [0, 3], k ≤ 3) ∧ closed.holds.length ≤ 3 ∧ closed.lastIndex ≤ 256 ∧ closed.holdCount ≤ 255 ∧ closed.tag ≤ 65535 ∧
    closed.startCount < 4294967296 ∧ closed.outcome = some .aborted ∧ closed.endCount = some 4294967295 ∧
    closed.peakLoad ≤ 40000 ∧ closed.lockoffLoad.getD 0 ≤ 40000 ∧ closed.residualLoad.getD 0 ≤ 40000 ∧
    closed.groutVolume.getD 0 ≤ 16777215 ∧ closed.payoutLength.getD 0 ≤ 65535 ∧ closed.failedChecks ≤ 255 ∧
    closed.overrides ≤ 255 ∧ closed.result.marks.length ≤ 6 ∧ closed.result.interrupted ≤ 255 ∧
    -1920000 ≤ closed.result.ks.getD 0 ∧ closed.result.ks.getD 0 ≤ 1920000 ∧
    ∀ m ∈ closed.result.marks, m.getD 0 ≤ 65535 := by decide +kernel

theorem witness_StepKeepsTablesCanonical :
    (inStep .halt (.hold hold) (.hold (holdWork 0))).tablesCanonical ∧
    ∃ t, step (inStep .halt (.hold hold) (.hold (holdWork 0))) = .next t := by
  refine ⟨?_, _, rfl⟩
  unfold State.tablesCanonical Sparse.wf; decide +kernel

theorem witness_StepKeepsRecordQueue : (filing none).recordsOk ∧ ∃ t, step (filing none) = .next t := by
  refine ⟨⟨by decide +kernel, by decide +kernel, by decide +kernel, fun c => ?_, by decide +kernel⟩, _, rfl⟩
  revert c; decide +kernel

/-- CH0 with an accumulator at its ceiling and an integral at its bound. -/
def atBounds : State :=
  (inStep .halt (.ramp ramp) (.ramp (settling 0 0))).updChan 0 fun ch =>
    { ch with
      profile := { ch.profile with acc := 256000, ceiling := 1000 }
      config := { ch.config with imax := 5 }, jack := { ch.jack with integral := -5, lastValve := 1000 } }

theorem witness_StepKeepsSetpointsAndLoopsBounded :
    atBounds.setpointsOk ∧ atBounds.loopsOk ∧ ∃ t, step atBounds = .next t := by
  refine ⟨fun c => ?_, fun c => ?_, _, rfl⟩ <;> (revert c; decide +kernel)

theorem witness_StepKeepsStopLatched : (watched .stop true true).pointsOk ∧ ∃ t, step (watched .stop true true) = .next t := by
  refine ⟨fun w => ?_, _, rfl⟩
  revert w; decide +kernel

theorem witness_StepKeepsClaimsAtArbiters :
    let s := pumping (.granted 0) .granted [1] (some 0)
    s.pumpsOk ∧ ∃ t, step s = .next t := by
  refine ⟨⟨fun p c => ?_, fun p c => ?_, fun p c => ?_, fun p => ?_, fun p => ?_, fun p c => ?_, fun c => ?_, fun c => ?_⟩, _,
    rfl⟩
  all_goals first
    | (revert c; cases p <;> decide +kernel)
    | (revert c; decide +kernel)
    | (cases p <;> decide +kernel)

theorem witness_StepKeepsLinePosition :
    (before 240 (due [.ageing] part)).lineOk ∧ (aligning .hunt).lineOk ∧ (before 32 (aligning .confirm)).lineOk ∧
    (handedSeven (ask 20 [])).lineOk ∧ ∃ t, step { before 240 part with pending := [.lockedSyncPosition badSlot []] } = .next t := by
  refine ⟨⟨fun _ => ⟨240, by decide, by decide, by decide, by decide⟩, by decide⟩, ⟨by decide, by decide⟩,
    ⟨fun _ => ⟨32, by decide, by decide, by decide, by decide⟩, by decide⟩,
    ⟨fun _ => ⟨240, by decide, by decide, by decide, by decide⟩, by decide +kernel⟩, _, rfl⟩

theorem witness_NothingCountsWithoutAlignment :
    (aligning .hunt).due = [] ∧ (aligning .hunt).line.alignment = .hunt ∧
    (before 23 (aligning .confirm)).line.alignment = .confirm ∧ (before 23 (aligning .confirm)).line.heldN = some 32 ∧
    (before 23 (aligning .confirm)).line.slotPos + 8 < 32 ∧ (∃ t, exec (.huntSlot (syncSlot 32 0)) (aligning .hunt) = .next t) ∧
    ∃ t, exec (.replyWindow badWindow) (before 23 (aligning .confirm)) = .next t :=
  ⟨by decide, by decide, by decide, by decide, by decide, ⟨_, rfl⟩, ⟨_, rfl⟩⟩

theorem witness_NoChannelRunsWhileWallStops :
    let s := (part.setWall 4 (point .stop true)).setChan 0
      { running .none with phase := .takeUp, state := .frozen, freeze := { FreezeSet.empty with wallStop := true } }
    s.freezeOk ∧ s.stopHeld ∧ s.wallState = .stop ∧ ∃ t, step s = .next t := by
  refine ⟨fun c => ?_, fun _ c => ?_, by decide +kernel, _, rfl⟩
  · fin_cases c <;> exact rfl
  · revert c; decide +kernel

end Sys2Proof.Tests
end

section
/-! PROOFS. What leaving a step does to the pump of an INJECT (R76, R82) and to the channel's own items (R13, R38, R68,
R76, R99), in the terms of the statements. -/

namespace Sys2Proof.Machine.Laws

/-! ### The pump of a withdrawn claim (R79, R82) -/

@[simp] theorem arb_setStanding (s : State) (c : Chan) (st : Standing) (q : Pump) :
    (s.setStanding c st).arb q = s.arb q := by simp [State.setStanding]

theorem arb_startGrant (p : Pump) (c : Chan) (s : State) :
    (startGrant p c s).arb p = (s.arb p).grant c s.mgmt.config.tenure s.mgmt.config.switchTime := by
  simp [startGrant]

theorem arb_startGrant_ne {p q : Pump} (c : Chan) (s : State) (h : q ≠ p) : (startGrant p c s).arb q = s.arb q := by
  simp [startGrant, arb_setArb_ne _ _ h]

/-- R79: a grant is direct when the manifold stands at the channel or no switch time is set, and a switch otherwise. -/
theorem grant_spec (d : Chan) (tenure switchTime : Nat) (a : Arbiter) :
    let g := a.grant d tenure switchTime
    let direct := a.manifold = some d ∨ switchTime = 0
    g.queue = a.queue ∧ g.tenureHeld = tenure ∧ g.switchHeld = switchTime ∧
      (direct → g.state = .granted d ∧ g.manifold = some d ∧ g.tenureCount = 0) ∧
      (¬ direct → g.state = .switching d ∧ g.manifold = a.manifold ∧ g.switchCount = 0) := by
  by_cases h : a.manifold = some d ∨ switchTime = 0 <;> simp [Arbiter.grant, h]

theorem arb_passOn_ne {p q : Pump} (s : State) (h : q ≠ p) : (passOn p s).arb q = s.arb q := by
  unfold passOn
  split
  · simp [arb_startGrant_ne _ _ h, arb_setArb_ne _ _ h]
  · simp [arb_setArb_ne _ _ h]

theorem arb_passOn_of_empty {p : Pump} {s : State} (h : (s.arb p).queue = []) :
    (passOn p s).arb p = { s.arb p with state := .free, switchCount := 0, tenureCount := 0 } := by
  simp [passOn, h]

theorem arb_passOn_of_waiting {p : Pump} {s : State} {d : Chan} {rest : List Chan} (h : (s.arb p).queue = d :: rest) :
    (passOn p s).arb p =
      Arbiter.grant d s.mgmt.config.tenure s.mgmt.config.switchTime { s.arb p with queue := rest } := by
  simp [passOn, h, arb_startGrant]

/-- R82: the holder's pump passes on; the counts of the Arbiter's record `x` do not matter. -/
theorem claimLeft_passOn {p : Pump} {c : Chan} {s : State} {x : Arbiter}
    (held : (s.arb p).state = .switching c ∨ (s.arb p).state = .granted c) (hq : x.queue = (s.arb p).queue)
    (hm : x.manifold = (s.arb p).manifold) : ClaimLeft p c s (passOn p (s.setArb p x)) := by
  refine ⟨fun q h => by rw [arb_passOn_ne _ h, arb_setArb_ne _ _ h], fun h1 h2 => (held.elim h1 h2).elim,
    fun _ => ⟨fun he => ?_, fun d rest hw => ?_⟩⟩
  · rw [arb_passOn_of_empty (by simpa [hq] using he)]
    simp [hq, hm, he]
  · rw [arb_passOn_of_waiting (d := d) (rest := rest) (by simpa [hq] using hw)]
    simpa [hm] using grant_spec d s.mgmt.config.tenure s.mgmt.config.switchTime { x with queue := rest }

/-- R82: a channel that does not hold the pump leaves the queue. -/
theorem claimLeft_dequeue {p : Pump} {c : Chan} {s : State} (hs : (s.arb p).state ≠ .switching c)
    (hg : (s.arb p).state ≠ .granted c) :
    ClaimLeft p c s (s.updArb p fun a => { a with queue := a.queue.filter (· ≠ c) }) :=
  ⟨fun q h => by simp [arb_setArb_ne _ _ h], fun _ _ => by simp, fun h => (h.elim hs hg).elim⟩

theorem claimLeft_congr {p : Pump} {c : Chan} {u t v : State} (h : ∀ q, v.arb q = t.arb q) (k : ClaimLeft p c u t) :
    ClaimLeft p c u v := by
  simpa only [ClaimLeft, h] using k

/-- R82: a withdrawal, from the holder and from a waiting channel. -/
theorem claimLeft_withdrawPump (p : Pump) (c : Chan) (s : State) : ClaimLeft p c s (withdrawPump p c s) := by
  unfold withdrawPump
  refine claimLeft_congr (fun q => arb_setStanding _ _ _ q) ?_
  split <;> rename_i hst
  · split <;> rename_i h
    · subst h; exact claimLeft_passOn (.inl hst) rfl rfl
    · exact claimLeft_dequeue (by simpa [hst] using h) (by simp [hst])
  · split <;> rename_i h
    · subst h; exact claimLeft_passOn (.inr hst) rfl rfl
    · exact claimLeft_dequeue (by simp [hst]) (by simpa [hst] using h)
  · exact claimLeft_dequeue (by simp [hst]) (by simp [hst])

theorem pumpsLeft_congr {c : Chan} {u t v : State} (h : ∀ q, v.arb q = t.arb q) (k : PumpsLeft c u t) :
    PumpsLeft c u v :=
  ⟨fun p x hp hw hs => claimLeft_congr h (k.1 p x hp hw hs), fun hn p => (h p).trans (k.2 hn p)⟩

/-- R76: the pumps once the claim of a channel is withdrawn. -/
theorem pumpsLeft_withdrawClaim (c : Chan) (s : State) : PumpsLeft c s (withdrawClaim c s) := by
  refine ⟨fun p x hp hw hs => ?_, fun hn q => ?_⟩
  · simpa [withdrawClaim, hw, hs, hp] using claimLeft_withdrawPump p c s
  · by_cases hi : ∃ x, (s.chan c).work = .inject x
    · obtain ⟨x, hw⟩ := hi
      simp [withdrawClaim, hw, hn x hw]
    · rw [withdrawClaim_of_notInject c s fun x hx => hi ⟨x, hx⟩]

/-! ### The pumps of a step that is left (R76) -/

/-- Of the accounting of a step only the withdrawal reaches the pumps. -/
theorem arb_stepAccounting (c : Chan) (s : State) (q : Pump) :
    (stepAccounting c s).arb q = (withdrawClaim c s).arb q := by
  unfold stepAccounting withdrawClaim
  cases (s.chan c).work <;> simp

/-- A channel without working fields claims no pump when its causes are removed. -/
theorem arb_removeCauses_of_noWork (g : FreezeSet) {c : Chan} {s : State} (h : (s.chan c).work = .none) (q : Pump) :
    (removeCauses g c s).arb q = s.arb q := by
  unfold removeCauses
  dsimp only
  split <;> simp [thawEffect, h]

theorem pumpsLeft_leaveStep (phase : StepPhase) (index : Nat) (c : Chan) (s : State) :
    PumpsLeft c s (leaveStep phase index c s) :=
  pumpsLeft_congr
    (fun q => by
      rw [leaveStep, arb_removeCauses_of_noWork _ (by simp)]
      simp [arb_stepAccounting])
    (pumpsLeft_withdrawClaim c s)

/-! ### The channel that leaves its step -/

/-- R76, R99: an INJECT and a PAYOUT write their results into the record, and no other kind writes any. -/
theorem accounted_record (ch : Channel) : (accounted ch).record = ch.record.map (RecordLeft ch.work) := by
  cases hw : ch.work with
  | payout x =>
    have : Record.addPayout x = RecordLeft (.payout x) := by
      funext r; cases hx : x.startLength <;> simp [Record.addPayout, RecordLeft, hx]
    simp [accounted, hw, this]
  | inject x =>
    have : Record.addInject x = RecordLeft (.inject x) := rfl
    simp [accounted, hw, this]
  | none | ramp _ | hold _ | lockoff _ | check _ | await _ | signal | finish =>
    cases hr : ch.record <;> simp [accounted, RecordLeft, hw, hr]

/-- What the accounting of a left step writes into the record is neither a hold result nor a count nor a fault. -/
theorem recordLeft_keeps (work : StepWork) (r : Record) :
    (RecordLeft work r).holds = r.holds ∧ (RecordLeft work r).holdCount = r.holdCount ∧
      (RecordLeft work r).failedChecks = r.failedChecks ∧ (RecordLeft work r).overrides = r.overrides ∧
      (RecordLeft work r).fault = r.fault := by
  cases work with
  | payout x => cases hx : x.startLength <;> simp [RecordLeft, hx]
  | none | inject _ | ramp _ | hold _ | lockoff _ | check _ | await _ | signal | finish => simp [RecordLeft]

/-- R38, R50, R68: the accounting clears the generator of the kinds that engaged it, and a LOCKOFF's flag and
integral. -/
theorem leavingClears_accounted (ch : Channel) : LeavingClears ch (accounted ch) := by
  cases hw : ch.work <;> simp [LeavingClears, GeneratorLeft, accounted, Profile.disengage, hw]

theorem leavingClears_leftWith (phase : StepPhase) (index : Nat) (ch : Channel) :
    LeavingClears ch (leftWith phase index ch) := leavingClears_accounted ch

theorem leftWith_record (phase : StepPhase) (index : Nat) (ch : Channel) :
    (leftWith phase index ch).record = ch.record.map (RecordLeft ch.work) := accounted_record ch

/-- What no accounting of a step touches. -/
theorem accounted_keeps (ch : Channel) :
    (accounted ch).program = ch.program ∧ (accounted ch).config = ch.config ∧ (accounted ch).fault = ch.fault ∧
      (accounted ch).pendingProgram = ch.pendingProgram ∧ (accounted ch).peer = ch.peer ∧
      (accounted ch).filed = ch.filed := by
  unfold accounted
  split <;> simp

@[simp] theorem freezeSet_without_onlyStale (f : FreezeSet) :
    f.without FreezeSet.onlyStale = { f with sampleStale := false } := by
  simp [FreezeSet.without, FreezeSet.onlyStale, FreezeSet.empty]

/-- R13, R14: a step left for the take-up of `index`. -/
theorem stepLeft_leaveStep (index : Nat) (c : Chan) (s : State) : StepLeft index c s (leaveStep .takeUp index c s) := by
  obtain ⟨hc, ho, ⟨-, hstore, hscales, -, hwalls, hrecords, hreports, hpins, -⟩, hmgmt, -⟩ :=
    leaveStep_spec .takeUp index c s
  obtain ⟨hprog, hconf, hfault, hpend, hpeer, hfiled⟩ := accounted_keeps (s.chan c)
  rw [StepLeft, hc]
  exact ⟨rfl, rfl, rfl, freezeSet_without_onlyStale _, rfl, hprog, hconf, hfault, hpend, hpeer, hfiled, ho, hstore,
    hscales, hwalls, hrecords, hreports, hmgmt, hpins⟩

end Sys2Proof.Machine.Laws
end

section
/-! PROOFS. The answer to an addressed request, for the statements about requests (R165 to R168, R174). -/

namespace Sys2Proof.Machine.Laws

/-- R154, R156: at the request window of the part with all due work done the row's own request is taken. -/
theorem requestEvent_settled {k : Nat} {p : List Byte} {w : Window} {s : State} {mine : Bool}
    {act : List Byte → State → Answer} (h : Addressed k p w (settle s)) (hm : mine = true)
    (hl : lengthRight w = true) : requestEvent mine act w s = State.prepare w (act p (passed w (settle s))) := by
  have same : requestEvent mine act w s = requestEvent mine act w (settle s) := by
    simp [requestEvent, h.1]
  rw [same, requestEvent_addressed (settle_of_nothing_due _ (settle_due s)) h hm hl]

theorem natAt_head (b : Byte) (bs : List Byte) : natAt (b :: bs) 0 1 = b.toNat := by simp [natAt, bytesNat]

/-- The channel that the first byte of a request names. -/
theorem onChannel_eq {act : Chan → List Byte → State → Answer} {b : Byte} {bs : List Byte} {c : Chan} (s : State)
    (h : c.val = b.toNat) : onChannel act (b :: bs) s = act c (b :: bs) s := by
  simp [onChannel, natAt_head, chanOf, ← h]

theorem onChannel_badIndex {act : Chan → List Byte → State → Answer} {b : Byte} {bs : List Byte} (s : State)
    (h : 7 < b.toNat) : onChannel act (b :: bs) s = refuse .badIndex s := by
  simp [onChannel, natAt_head, chanOf, Nat.not_lt.mpr h]

/-- The part `v`, reached from `u` once a request window has passed, as it is without the passing of the window. -/
def unpassed (u v : State) : State := { v with line := u.line, sent := u.sent }

/-- R167, R168: an accepted request whose work leaves the line alone is answered. -/
theorem prepare_accept {w : Window} {u v : State} (fs : List Field) (h : FreezeKeeps (passed w u) v) :
    State.prepare w (accept fs v) = answered w .ok fs (unpassed u v) := by
  obtain ⟨hline, -, -, -, -, -, -, -, -, hsent, -⟩ := h
  have hv : v = { v with line := (passed w u).line, sent := (passed w u).sent } := by rw [← hline, ← hsent]
  rw [hv]; rfl

end Sys2Proof.Machine.Laws
end

section
/-! PROOFS. SKIP_STEP (R22). -/

namespace Sys2Proof.Machine.Laws

/-- R22: a FAULTED channel whose fault is overridden, to take up `index`. -/
def overridden (index : Nat) (ch : Channel) : Channel :=
  { ch with
    fault := none, record := ch.record.map Record.countOverride, index := index, phase := .takeUp
    state := if ch.freeze.isEmpty = true then .running else .frozen }

/-- SKIP_STEP on an addressed channel answers its request's judgement. -/
theorem exec_skipStep {b : Byte} {w : Window} {s : State} (h : Addressed 6 [b] w (settle s)) :
    exec (.skipStep w) s = .next (State.prepare w (onChannel skipRequest [b] (passed w (settle s)))) :=
  congrArg Host.Outcome.next
    (requestEvent_settled h (ofKind_addressed h) (lengthRight_addressed h (by decide) rfl))

theorem skipRequest_refused {c : Chan} {bs : List Byte} {s : State}
    (h : (s.chan c).state = .idle ∨ (s.chan c).state = .filing) : skipRequest c bs s = refuse .wrongState s := by
  simp [skipRequest, h]

theorem admits_of_live {st : ChanState} (h : st = .running ∨ st = .frozen) : st ≠ .idle ∧ st ≠ .filing := by
  rcases h with rfl | rfl <;> simp

theorem skipRequest_accepted {c : Chan} {bs : List Byte} {s : State} (hi : (s.chan c).state ≠ .idle)
    (hf : (s.chan c).state ≠ .filing) :
    skipRequest c bs s =
      accept [stateField (skipStep c s) c, fNat 2 ((skipStep c s).chan c).index] (skipStep c s) := by
  simp [skipRequest, hi, hf]

/-- R22: in RUNNING or FROZEN the ACTIVE step is left for index + 1. -/
theorem skipStep_live_active {c : Chan} {s : State} (h : (s.chan c).state = .running ∨ (s.chan c).state = .frozen)
    (ha : (s.chan c).phase = .active) : skipStep c s = leaveStep .takeUp (nextIndex (s.chan c).index) c s := by
  rcases h with h | h <;> simp [skipStep, h, skipLive, ha, completeStep]

/-- R22: in RUNNING or FROZEN an index awaiting take-up is passed over. -/
theorem skipStep_live_waiting {c : Chan} {s : State} (h : (s.chan c).state = .running ∨ (s.chan c).state = .frozen)
    (ha : (s.chan c).phase ≠ .active) :
    skipStep c s = s.setChan c { s.chan c with index := nextIndex (s.chan c).index } := by
  rcases h with h | h <;> simp [skipStep, h, skipLive, ha]

/-- R22: in FAULTED a suspended step is left, and the fault overridden. -/
theorem skipStep_faulted_active {c : Chan} {s : State} (h : (s.chan c).state = .faulted)
    (ha : (s.chan c).phase = .active) :
    skipStep c s = (leaveStep .takeUp (nextIndex (s.chan c).index) c s).setChan c
      (overridden (nextIndex (s.chan c).index) (leftWith .takeUp (nextIndex (s.chan c).index) (s.chan c))) := by
  have hc := (leaveStep_spec .takeUp (nextIndex (s.chan c).index) c s).1
  simp [skipStep, h, skipFaulted, ha, hc, overridden]

/-- R22: in FAULTED without a suspended step the fault is overridden. -/
theorem skipStep_faulted_waiting {c : Chan} {s : State} (h : (s.chan c).state = .faulted)
    (ha : (s.chan c).phase ≠ .active) :
    skipStep c s = s.setChan c (overridden (nextIndex (s.chan c).index) (s.chan c)) := by
  simp [skipStep, h, skipFaulted, ha, overridden]

/-- R22: what SKIP_STEP can do to a program's channel and to the rest of the part, in every state and phase that admits
it. -/
theorem skipStep_frame {c : Chan} {s : State} (hi : (s.chan c).state ≠ .idle) (hf : (s.chan c).state ≠ .filing) :
    OthersKept c s (skipStep c s) ∧ FreezeKeeps s (skipStep c s) ∧ (skipStep c s).mgmt = s.mgmt ∧
      ((skipStep c s).chan c).index = nextIndex (s.chan c).index := by
  have replaced : ∀ (t : State) (ch : Channel), OthersKept c s t → OthersKept c s (t.setChan c ch) :=
    fun t ch h d hd => by rw [chan_setChan_ne _ _ hd]; exact h d hd
  have unchanged : OthersKept c s s := fun d _ => keptAs_refl _
  obtain ⟨hc, ho, hk, hm, -⟩ := leaveStep_spec .takeUp (nextIndex (s.chan c).index) c s
  have hlive : (s.chan c).state = .running ∨ (s.chan c).state = .frozen ∨ (s.chan c).state = .faulted := by
    cases hst : (s.chan c).state <;> simp_all
  rw [← or_assoc] at hlive
  by_cases ha : (s.chan c).phase = .active <;> rcases hlive with h | h
  · rw [skipStep_live_active h ha]
    exact ⟨ho, hk, hm, by rw [hc]; rfl⟩
  · rw [skipStep_faulted_active h ha]
    exact ⟨replaced _ _ ho, hk.trans (by simp [FreezeKeeps]), (setChan_mgmt _ _ _).trans hm, by simp [overridden]⟩
  · rw [skipStep_live_waiting h ha]
    exact ⟨replaced _ _ unchanged, by simp [FreezeKeeps], rfl, by simp⟩
  · rw [skipStep_faulted_waiting h ha]
    exact ⟨replaced _ _ unchanged, by simp [FreezeKeeps], rfl, by simp [overridden]⟩

/-- R22: the reply to an admitted SKIP_STEP. -/
theorem exec_skipStep_accepted {b : Byte} {w : Window} {s : State} {c : Chan} (h : Addressed 6 [b] w (settle s))
    (hc : c.val = b.toNat) (hi : ((settle s).chan c).state ≠ .idle) (hf : ((settle s).chan c).state ≠ .filing) :
    exec (.skipStep w) s =
      .next (answered w .ok
        [fNat 1 ((skipStep c (passed w (settle s))).chan c).state.code,
          fNat 2 (min 256 (((settle s).chan c).index + 1))]
        (unpassed (settle s) (skipStep c (passed w (settle s))))) := by
  obtain ⟨-, hk, -, hn⟩ := skipStep_frame (s := passed w (settle s)) hi hf
  rw [exec_skipStep h, onChannel_eq _ hc, skipRequest_accepted (s := passed w (settle s)) hi hf,
    prepare_accept _ hk, hn]
  rfl

/-- R76, R22: the override is counted on what the accounting of the left step wrote. -/
theorem countOverride_recordLeft (work : StepWork) (r : Record) :
    (RecordLeft work r).countOverride = { RecordLeft work r with overrides := min 255 (r.overrides + 1) } := by
  obtain ⟨-, -, -, hover, -⟩ := recordLeft_keeps work r
  rw [Record.countOverride, hover]; rfl

/-- R22: the channel of a suspended step once that step is left, and without one the channel as it stands. -/
def suspendedLeft (ch : Channel) : Channel :=
  if ch.phase = .active then leftWith .takeUp (nextIndex ch.index) ch else ch

theorem suspendedLeft_active {ch : Channel} (h : ch.phase = .active) :
    suspendedLeft ch = leftWith .takeUp (nextIndex ch.index) ch := if_pos h

theorem suspendedLeft_waiting {ch : Channel} (h : ch.phase ≠ .active) : suspendedLeft ch = ch := if_neg h

/-- R22: the channel that SKIP_STEP takes out of FAULTED. -/
theorem skipStep_faulted_chan {c : Chan} {s : State} (h : (s.chan c).state = .faulted) :
    (skipStep c s).chan c = overridden (nextIndex (s.chan c).index) (suspendedLeft (s.chan c)) := by
  by_cases ha : (s.chan c).phase = .active
  · rw [skipStep_faulted_active h ha, chan_setChan, suspendedLeft_active ha]
  · rw [skipStep_faulted_waiting h ha, chan_setChan, suspendedLeft_waiting ha]

/-- R22, R23: leaving the suspended step keeps the programs and the last-creep value, and of the record all but the
step's own results. -/
theorem suspendedLeft_keeps (ch : Channel) :
    (suspendedLeft ch).lastCreep = ch.lastCreep ∧ (suspendedLeft ch).program = ch.program ∧
      (suspendedLeft ch).pendingProgram = ch.pendingProgram ∧
      ∀ rec, ch.record = some rec → ∃ r, (suspendedLeft ch).record = some r ∧ r.fault = rec.fault ∧
        r.overrides = rec.overrides ∧ r.failedChecks = rec.failedChecks ∧ r.holds = rec.holds ∧
        r.holdCount = rec.holdCount := by
  by_cases ha : ch.phase = .active
  · obtain ⟨hprog, -, -, hpend, -, -⟩ := accounted_keeps ch
    rw [suspendedLeft_active ha, leftWith_record]
    refine ⟨(leavingClears_leftWith _ _ ch).1, hprog, hpend, fun rec hr => ?_⟩
    obtain ⟨hholds, hcount, hfailed, hover, hfault⟩ := recordLeft_keeps ch.work rec
    exact ⟨_, by rw [hr]; rfl, hfault, hover, hfailed, hholds, hcount⟩
  · rw [suspendedLeft_waiting ha]
    exact ⟨rfl, rfl, rfl, fun rec hr => ⟨rec, hr, rfl, rfl, rfl, rfl, rfl⟩⟩

/-- R13, R22: a suspended step that SKIP_STEP leaves. -/
theorem skipStep_faulted_leaves {c : Chan} {s : State} (h : (s.chan c).state = .faulted)
    (ha : (s.chan c).phase = .active) :
    let t := (skipStep c s).chan c
    t.work = .none ∧ t.freeze = { (s.chan c).freeze with sampleStale := false } ∧
      t.record = (s.chan c).record.map (fun rec =>
        { RecordLeft (s.chan c).work rec with overrides := min 255 (rec.overrides + 1) }) ∧
      LeavingClears (s.chan c) t ∧ PumpsLeft c s (skipStep c s) := by
  have pumps : PumpsLeft c s (skipStep c s) := by
    rw [skipStep_faulted_active h ha]
    exact pumpsLeft_congr (fun q => setChan_arb _ _ _ q) (pumpsLeft_leaveStep .takeUp _ c s)
  refine ⟨?_, ?_, ?_, ?_, pumps⟩
  all_goals rw [skipStep_faulted_chan h, suspendedLeft_active ha]
  · rfl
  · exact freezeSet_without_onlyStale _
  · simp only [overridden, leftWith_record, Option.map_map]
    exact congrFun (congrArg _ (funext fun r => countOverride_recordLeft _ r)) _
  · exact leavingClears_leftWith .takeUp (nextIndex (s.chan c).index) (s.chan c)

/-- R22: without a suspended step SKIP_STEP out of FAULTED keeps causes, generator, loop and pumps. -/
theorem skipStep_faulted_passes {c : Chan} {s : State} (h : (s.chan c).state = .faulted)
    (ha : (s.chan c).phase ≠ .active) :
    let t := (skipStep c s).chan c
    t.freeze = (s.chan c).freeze ∧ t.work = (s.chan c).work ∧
      t.record = (s.chan c).record.map (fun rec => { rec with overrides := min 255 (rec.overrides + 1) }) ∧
      t.profile = (s.chan c).profile ∧ t.jack = (s.chan c).jack ∧ t.wedge = (s.chan c).wedge ∧
      ∀ p, (skipStep c s).arb p = s.arb p := by
  rw [skipStep_faulted_waiting h ha]
  simp only [chan_setChan, setChan_arb]
  exact ⟨rfl, rfl, rfl, rfl, rfl, rfl, fun _ => trivial⟩

/-- R13, R14, R22: an ACTIVE step that SKIP_STEP leaves in RUNNING or FROZEN. -/
theorem skipStep_live_leaves {c : Chan} {s : State} (h : (s.chan c).state = .running ∨ (s.chan c).state = .frozen)
    (ha : (s.chan c).phase = .active) :
    StepLeft (nextIndex (s.chan c).index) c s (skipStep c s) ∧
      ((skipStep c s).chan c).record = (s.chan c).record.map (RecordLeft (s.chan c).work) ∧
      LeavingClears (s.chan c) ((skipStep c s).chan c) ∧ PumpsLeft c s (skipStep c s) := by
  rw [skipStep_live_active h ha]
  refine ⟨stepLeft_leaveStep _ c s, ?_, ?_, pumpsLeft_leaveStep .takeUp _ c s⟩
  all_goals rw [(leaveStep_spec .takeUp (nextIndex (s.chan c).index) c s).1]
  · exact leftWith_record _ _ _
  · exact leavingClears_leftWith _ _ _

/-- Settles O40, by the four ways of a skip: the ACTIVE step of a live channel left, its waiting index passed over, and
the fault of a FAULTED channel overridden, with a suspended step left or without one. -/
theorem skipNamesNextIndex : Obligations.SkipNamesNextIndex := by
  unfold Obligations.SkipNamesNextIndex
  intro b w s u done h
  refine ⟨fun hb => ?_, fun c hc => ⟨fun hst => ?_, fun hst ha => ?_, fun hst ha => ?_, fun hst => ?_⟩⟩
  · show exec (.skipStep w) s = _
    rw [exec_skipStep h, onChannel_badIndex _ hb]
    rfl
  · show exec (.skipStep w) s = _
    rw [exec_skipStep h, onChannel_eq _ hc, skipRequest_refused (s := passed w u) hst]
    rfl
  · obtain ⟨hi, hf⟩ := admits_of_live hst
    have answer := exec_skipStep_accepted h hc hi hf
    obtain ⟨left, record, clears, pumps⟩ := skipStep_live_leaves (s := passed w u) hst ha
    generalize skipStep c (passed w u) = v at answer left record clears pumps
    exact ⟨unpassed u v, answer, left, record,
      fun rec hr => ⟨_, record.trans (congrArg (Option.map _) hr), recordLeft_keeps (u.chan c).work rec⟩,
      clears, pumps⟩
  · obtain ⟨hi, hf⟩ := admits_of_live hst
    have answer := exec_skipStep_accepted h hc hi hf
    rw [skipStep_live_waiting (s := passed w u) hst ha, chan_setChan] at answer
    exact answer
  · have hi : (u.chan c).state ≠ .idle := by simp [hst]
    have hf : (u.chan c).state ≠ .filing := by simp [hst]
    have answer := exec_skipStep_accepted h hc hi hf
    obtain ⟨others, ⟨-, hstore, -, -, hwalls, hrecords, -⟩, hmgmt, -⟩ := skipStep_frame (s := passed w u) hi hf
    have hchan : (skipStep c (passed w u)).chan c = overridden _ _ := skipStep_faulted_chan (s := passed w u) hst
    have leaves := skipStep_faulted_leaves (s := passed w u) hst
    have passes := skipStep_faulted_passes (s := passed w u) hst
    obtain ⟨hcreep, hprog, hpend, hrec⟩ := suspendedLeft_keeps (u.chan c)
    generalize skipStep c (passed w u) = v at answer others hstore hwalls hrecords hmgmt hchan leaves passes
    refine ⟨unpassed u v, answer, congrArg Channel.fault hchan, congrArg Channel.index hchan,
      congrArg Channel.phase hchan, ?_, leaves, passes, (congrArg Channel.lastCreep hchan).trans hcreep,
      fun rec hr => ?_, (congrArg Channel.program hchan).trans hprog,
      (congrArg Channel.pendingProgram hchan).trans hpend, others, rfl, hstore, hwalls, hrecords, hmgmt⟩
    · show (v.chan c).state = if (v.chan c).freeze.isEmpty = true then _ else _
      rw [hchan]; rfl
    · obtain ⟨r, hr', hfault, hover, hrest⟩ := hrec rec hr
      exact ⟨r.countOverride, (congrArg Channel.record hchan).trans (congrArg (Option.map _) hr'), hfault,
        congrArg (fun n => min 255 (n + 1)) hover, hrest⟩

end Sys2Proof.Machine.Laws
end

section
/-! PROOFS. A slot at a mapped position of the worked cycle (R158, R159), and the jack command slot (R46 to R49). -/

namespace Sys2Proof.Machine.Laws

/-! ### A slot at a mapped position -/

/-- R158: the slot that a row names at a mapped position is handled by the entry there, nothing having left the part
before it. -/
theorem slotOutcome_at {pos : Nat} {e : SlotEntry} {q : Slot → State → Bool} {x : Slot} {s : State}
    (h : SlotAt (settle s) pos e) (hq : q x (settle s) = true) :
    slotOutcome pos q x s = entrySlot e x ((settle s).passSlots []) := by
  obtain ⟨hentry, hpos⟩ := nextEntry_of_SlotAt h
  have arrives : (settle s).arrivesAt pos = true := by simp [State.arrivesAt, hpos]
  have hentry' : ((settle s).passSlots []).nextEntry = some e := hentry
  simp only [slotOutcome, arrives, hq, Bool.and_self, if_true]
  exact slotArrives_entry hentry'

/-! ### The computation (R47, R48) -/

theorem saturatesWith_iff (raw e : Int) :
    saturatesWith raw e = true ↔ (1000 < raw ∧ 0 < e) ∨ (raw < -1000 ∧ e < 0) := by
  simp [saturatesWith]

/-- R48: where the output saturates in the error's direction the integral is kept. -/
theorem loopOutput_of_saturates {k : ChannelConfig} {setpoint load : Nat} {i : Int}
    (h : saturatesWith (rawOutput k (effectiveError k setpoint load)
      (integralCandidate k (effectiveError k setpoint load) i)) (effectiveError k setpoint load) = true) :
    loopOutput k setpoint load i = (i, clamp (-1000) 1000 (rawOutput k (effectiveError k setpoint load) i)) :=
  if_pos h

/-- R47, R48: in every other computation the integral becomes its candidate. -/
theorem loopOutput_of_not_saturates {k : ChannelConfig} {setpoint load : Nat} {i : Int}
    (h : ¬ saturatesWith (rawOutput k (effectiveError k setpoint load)
      (integralCandidate k (effectiveError k setpoint load) i)) (effectiveError k setpoint load) = true) :
    loopOutput k setpoint load i =
      (integralCandidate k (effectiveError k setpoint load) i, clamp (-1000) 1000 (rawOutput k
        (effectiveError k setpoint load) (integralCandidate k (effectiveError k setpoint load) i))) :=
  if_neg h

/-- R47, R48: the model's computation is the manual's. -/
theorem jackComputes_loopOutput (k : ChannelConfig) (setpoint load : Nat) (i : Int) :
    JackComputes k setpoint load i (loopOutput k setpoint load i).1 (loopOutput k setpoint load i).2 := by
  refine ⟨fun winds => ?_, fun steady => ?_⟩
  · rw [loopOutput_of_saturates ((saturatesWith_iff _ _).mpr winds)]
    exact ⟨rfl, rfl⟩
  · rw [loopOutput_of_not_saturates (mt (saturatesWith_iff _ _).mp steady)]
    exact ⟨rfl, rfl⟩

/-! ### Where the loop runs (R46) -/

theorem runsLoop_iff (w : StepWork) :
    w.runsLoop = true ↔
      (∃ x, w = .ramp x) ∨ (∃ x, w = .hold x) ∨ ∃ x, w = .lockoff x ∧ x.phase = .releasing := by
  cases w <;> simp [StepWork.runsLoop]

theorem loopLoad_of_runs {s : State} {c : Chan} (hst : (s.chan c).state = .running) (ha : (s.chan c).phase = .active)
    (hw : (s.chan c).work.runsLoop = true) : s.loopLoad c = s.chanValue c .jackLoad := if_pos ⟨hst, ha, hw⟩

theorem loopLoad_eq_none {s : State} {c : Chan}
    (h : (s.chan c).state ≠ .running ∨ (s.chan c).phase ≠ .active ∨ ¬ (s.chan c).work.runsLoop = true ∨
      s.chanValue c .jackLoad = none) : s.loopLoad c = none := by
  by_cases runs : (s.chan c).state = .running ∧ (s.chan c).phase = .active ∧ (s.chan c).work.runsLoop = true
  · obtain ⟨hst, ha, hw⟩ := runs
    rw [loopLoad_of_runs hst ha hw]
    simpa [hst, ha, hw] using h
  · exact if_neg runs

theorem jackAfter_of_load {s : State} {c : Chan} {load : Nat} (h : s.loopLoad c = some load) :
    s.jackAfter c =
      { (s.chan c).jack with
        integral := (loopOutput (s.chan c).config (s.setpoint c) load (s.chan c).jack.integral).1
        lastValve := (loopOutput (s.chan c).config (s.setpoint c) load (s.chan c).jack.integral).2 } := by
  simp [State.jackAfter, h]

/-- R46: where the computation does not run the demand is 0 and the integral is kept. -/
theorem jackAfter_of_no_load {s : State} {c : Chan} (h : s.loopLoad c = none) :
    s.jackAfter c = { (s.chan c).jack with lastValve := 0 } := by
  simp [State.jackAfter, h]

/-! ### The slot (R49, R159) -/

/-- The part `u` once the jack command slot of channel `c` at `pos` has passed, the loop's items being `j`. -/
def jackWritten (pos : Nat) (c : Chan) (j : JackLoop) (u : State) : State :=
  { u.setChan c { u.chan c with jack := j } with
    line := { u.line with slotPos := pos }, sent := [jackSlot j.lastValve (u.chan c).wedge (u.line.count % 256)] }

theorem exec_jackCommand {pos : Nat} {x : Slot} {c : Chan} {s : State}
    (h : SlotAt (settle s) pos (.command (.jack c))) :
    exec (.jackCommand pos x) s = .next (jackWritten pos c ((settle s).jackAfter c) (settle s)) := by
  obtain ⟨-, hpos⟩ := nextEntry_of_SlotAt h
  refine congrArg Host.Outcome.next ((slotOutcome_at (q := fun _ _ => true) h rfl).trans ?_)
  subst hpos
  show writeJack c _ = _
  simp only [writeJack, updJack_eq]
  rfl

/-- Settles O30: the slot carries what the loop's items become, and those are the computation's where the loop runs. -/
theorem jackCommandWritesDemand : Obligations.JackCommandWritesDemand := by
  intro pos x c s h u ch drives written
  have drives_iff : ch.work.runsLoop = true ↔ drives := runsLoop_iff ch.work
  refine ⟨fun load hst ha hd hload => ?_, fun idle => ?_⟩
  · have runs : u.loopLoad c = some load := (loopLoad_of_runs hst ha (drives_iff.mpr hd)).trans hload
    refine ⟨_, _, jackComputes_loopOutput ch.config (u.setpoint c) load ch.jack.integral, ?_⟩
    rw [exec_jackCommand h, jackAfter_of_load runs]
    rfl
  · rw [← drives_iff] at idle
    rw [exec_jackCommand h, jackAfter_of_no_load (loopLoad_eq_none idle)]
    rfl

end Sys2Proof.Machine.Laws
end

section
/-! PROOFS. A single piece of due work (R154), and the cycle starts of a HOLD (R58, R59, R62, R63). -/

namespace Sys2Proof.Machine.Laws

/-! ### A single piece of due work -/

theorem takeWork_of_prepared {w : CycleWork} {s : State} (h : w ∈ s.due) (hp : prepareWork w s = s) :
    takeWork w s = performWork w { s with due := s.due.filter (· ≠ w) } := by
  rw [takeWork, hp, doWork, if_pos h]

/-- A piece that is not due is not taken, and nothing is done before it. -/
theorem takeWork_of_not_due {w : CycleWork} {s : State} (h : w ∉ s.due) : takeWork w s = s := by
  simp [takeWork, prepareWork, doWork, h]

theorem foldl_takeWork_of_nothing_due {s : State} (h : s.due = []) :
    ∀ l : List CycleWork, l.foldl (fun s w => takeWork w s) s = s
  | [] => rfl
  | w :: l => by
    rw [List.foldl_cons, takeWork_of_not_due (by simp [h])]
    exact foldl_takeWork_of_nothing_due h l

/-- A round over the pieces of a cycle start takes the one that is due, and no other after it. -/
theorem foldl_takeWork_of_one_due {w : CycleWork} {s : State} (h : s.due = [w]) (ht : (takeWork w s).due = []) :
    ∀ l : List CycleWork, w ∈ l → l.foldl (fun s w => takeWork w s) s = takeWork w s
  | v :: l, hw => by
    rw [List.foldl_cons]
    by_cases hv : v = w
    · rw [hv, foldl_takeWork_of_nothing_due ht]
    · rw [takeWork_of_not_due (by simpa [h] using hv)]
      exact foldl_takeWork_of_one_due h ht l (List.mem_of_ne_of_mem (Ne.symm hv) hw)

/-- R154: where one piece of the cycle start is due and leaves nothing due, it is all that is done. -/
theorem settle_of_one_due {w : CycleWork} {s : State} (h : s.due = [w]) (hw : w ∈ cycleStartWork)
    (hr : w ≠ .deviceReset) (ht : (takeWork w s).due = []) : settle s = takeWork w s := by
  have round := foldl_takeWork_of_one_due h ht cycleStartWork hw
  have rest : s.due.filter (· = CycleWork.deviceReset) = [] := by simpa [h] using hr
  have finish : finishCycleStart s = takeWork w s := by
    rw [finishCycleStart, if_neg (by simp [h]), round, rest, ← ht]
  rw [settle, if_neg (by simpa [h] using Ne.symm hr), finish]

theorem sequencer_mem_cycleStartWork (c : Chan) : CycleWork.sequencer c ∈ cycleStartWork := by
  have : c ∈ allChans := by revert c; decide
  simp [cycleStartWork, this]

/-! ### The work of a HOLD -/

/-- Nothing comes before the cycle-start work of an ACTIVE HOLD: it claims no pump. -/
theorem prepareWork_hold {c : Chan} {w : HoldWork} {s : State} (ha : (s.chan c).phase = .active)
    (hw : (s.chan c).work = .hold w) : prepareWork (.sequencer c) s = s := by
  have claimless : s.willClaim c = none := if_neg fun h => by simp [ha] at h
  simp [prepareWork, workBefore, hw, lowerClaimants, claimless]

theorem sequencerCycle_hold {c : Chan} {st : Step} {p : HoldStep} {w : HoldWork} {s : State}
    (hst : (s.chan c).state = .running) (ha : (s.chan c).phase = .active) (ht : (s.chan c).tookUp = false)
    (hs : s.currentStep c = some st) (hb : st.body = .hold p) (hw : (s.chan c).work = .hold w) :
    sequencerCycle c s = holdCycle st p w c s := by
  simp [sequencerCycle, hst, ha, ht, hs, stepCycle, hb, hw]

theorem takeWork_hold {c : Chan} {st : Step} {p : HoldStep} {w : HoldWork} {s : State}
    (hd : CycleWork.sequencer c ∈ s.due) (hst : (s.chan c).state = .running) (ha : (s.chan c).phase = .active)
    (ht : (s.chan c).tookUp = false) (hs : s.currentStep c = some st) (hb : st.body = .hold p)
    (hw : (s.chan c).work = .hold w) :
    takeWork (.sequencer c) s =
      holdCycle st p w c { s with due := s.due.filter (· ≠ CycleWork.sequencer c) } := by
  rw [takeWork_of_prepared hd (prepareWork_hold ha hw)]
  exact sequencerCycle_hold (s := { s with due := s.due.filter (· ≠ CycleWork.sequencer c) }) hst ha ht hs hb hw

/-- R59: the row of a HOLD whose outcome `q` stands at this cycle start takes the sequencer's work. -/
theorem takeOccurrence_hold {c : Chan} {st : Step} {p : HoldStep} {w : HoldWork} {times : MarkSet} {s : State}
    {q : State → Bool} (h : Holding c st p w times s) (hq : q s = true) :
    takeOccurrence (.sequencer c) q s =
      holdCycle st p w c { s with due := s.due.filter (· ≠ CycleWork.sequencer c) } := by
  obtain ⟨hd, hst, ha, ht, hs, hb, hw, -⟩ := h
  have occurs : workOccurs (.sequencer c) q s = true := by simp [workOccurs, prepareWork_hold ha hw, hd, hq]
  rw [takeOccurrence, if_pos occurs, takeWork_hold hd hst ha ht hs hb hw]

theorem holding_eq {c : Chan} {st : Step} {p : HoldStep} {w : HoldWork} {times : MarkSet} {s : State}
    (h : Holding c st p w times s) : s.holding c = some (p, w) := by
  obtain ⟨-, hst, -, ht, hs, hb, hw, -⟩ := h
  obtain ⟨onFail, divert, body⟩ := st
  subst hb
  simp [State.holding, hst, ht, hs, hw]

/-! ### Marks (R58, R59) -/

theorem markDue_iff (times : MarkSet) (duration elapsed : Nat) :
    markDue times duration elapsed = true ↔ elapsed ∈ times ∧ elapsed ≤ duration := by
  simp only [markDue, List.any_eq_true, Bool.and_eq_true, decide_eq_true_eq]
  constructor
  · rintro ⟨t, ht, rfl, hd⟩
    exact ⟨ht, hd⟩
  · rintro ⟨ht, hd⟩
    exact ⟨elapsed, ht, rfl, hd⟩

theorem recordMarks_length (times : MarkSet) (duration elapsed : Nat) (stroke : Option Nat)
    (marks : List (Option Nat)) :
    (recordMarks times duration elapsed stroke marks).length = min times.length marks.length :=
  List.length_zipWith

/-- R59: the entry of a mark time once the marks at an elapsed count within reach are recorded. -/
theorem recordMarks_getElem? {times : MarkSet} {duration elapsed i t : Nat} {marks : List (Option Nat)}
    {m : Option Nat} (stroke : Option Nat) (he : elapsed ≤ duration) (ht : times[i]? = some t)
    (hm : marks[i]? = some m) :
    (recordMarks times duration elapsed stroke marks)[i]? = some (if t = elapsed then stroke.or m else m) := by
  have reach : (t = elapsed ∧ t ≤ duration) ↔ t = elapsed := ⟨And.left, fun e => ⟨e, e ▸ he⟩⟩
  simp [recordMarks, List.getElem?_zipWith, ht, hm, reach]

/-- R59: without a mark time due the mark list stays. -/
theorem recordMarks_of_no_mark {times : MarkSet} {duration elapsed : Nat} {stroke : Option Nat}
    {marks : List (Option Nat)} (hl : marks.length = times.length) (hn : ¬ (elapsed ∈ times ∧ elapsed ≤ duration)) :
    recordMarks times duration elapsed stroke marks = marks := by
  refine List.ext_getElem (by simp [recordMarks, hl]) fun i hi hm => ?_
  have ht : i < times.length := hl ▸ hm
  have skipped : ¬ (times[i] = elapsed ∧ times[i] ≤ duration) := fun ⟨he, hd⟩ =>
    hn ⟨he ▸ List.getElem_mem ht, he ▸ hd⟩
  simp [recordMarks, skipped]

/-- R59: a cycle start before the duration records the marks and counts. -/
theorem holdCycle_counts {c : Chan} {st : Step} {p : HoldStep} {w : HoldWork} {times : MarkSet} {s : State}
    (hm : s.store.markSet p.markSet = some times) (he : w.elapsed ≠ p.duration) :
    holdCycle st p w c s =
      s.setWork c (.hold { w with
        marks := recordMarks times p.duration w.elapsed (s.chanValue c .jackStroke) w.marks
        elapsed := w.elapsed + 1 }) := by
  simp [holdCycle, hm, he]

theorem holdRecordsMark : HoldRecordsMark := by
  intro c st p w times s h hmem hlt
  obtain ⟨-, -, -, -, -, -, -, hm⟩ := id h
  have marks : marksNow c s = true := by
    simp [marksNow, holding_eq h, hm, markDue_iff, hmem, Nat.le_of_lt hlt]
  refine ⟨_, congrArg Host.Outcome.next ((takeOccurrence_hold h marks).trans
    (holdCycle_counts hm (Nat.ne_of_lt hlt))), recordMarks_length _ _ _ _ _, fun i t m ht hi => ?_⟩
  exact recordMarks_getElem? _ (Nat.le_of_lt hlt) ht hi

theorem holdCountsElapsed : HoldCountsElapsed := by
  intro c st p w times s ⟨hd, hst, ha, ht, hs⟩ hb hw hm hl hn he
  have taken : takeWork (.sequencer c) s =
      ({ s with due := [] }).setWork c (.hold { w with elapsed := w.elapsed + 1 }) :=
    calc takeWork (.sequencer c) s = holdCycle st p w c { s with due := [] } := by
          rw [takeWork_hold (by simp [hd]) hst ha ht hs hb hw, hd]; simp
      _ = _ := by
          rw [holdCycle_counts (s := { s with due := [] }) hm he, recordMarks_of_no_mark hl hn]
  rw [settle_of_one_due hd (sequencer_mem_cycleStartWork c) (by simp) (by rw [taken]; rfl), taken]

/-! ### Completion (R62, R63, R101) -/

/-- R62: the model's creep is the manual's. -/
theorem creepIs_iff (p : HoldStep) (marks : List (Option Nat)) (ks : Option Int) :
    CreepIs p marks ks ↔ ks = holdCreep p marks := by
  unfold CreepIs holdCreep
  cases marks.getD p.markA none with
  | none => exact Iff.rfl
  | some a =>
    cases marks.getD p.markB none with
    | none => exact Iff.rfl
    | some b => exact Iff.rfl

/-- The part in which a completed HOLD has written its working fields, its record and its last-creep value. -/
def holdNoted (c : Chan) (w : HoldWork) (rec : Option Record) (ks : Option Int) (s : State) : State :=
  s.setChan c { s.chan c with work := .hold w, record := rec, lastCreep := ks }

theorem appendResult_hold (r : HoldResult) (c : Chan) (w : HoldWork) (s : State) :
    appendResult r c (s.setWork c (.hold w)) =
      holdNoted c w ((s.chan c).record.map (Record.appendHold r)) r.ks s := by
  simp [appendResult, holdNoted]

theorem completeStep_holdNoted (c : Chan) (w : HoldWork) (rec : Option Record) (ks : Option Int) (s : State) :
    completeStep c (holdNoted c w rec ks s) =
      leaveStep .takeUp (nextIndex (s.chan c).index) c (holdNoted c w rec ks s) := by
  simp [completeStep, holdNoted]

theorem failContinue_holdNoted (c : Chan) (w : HoldWork) (rec : Option Record) (ks : Option Int) (s : State) :
    failContinue c (holdNoted c w rec ks s) =
      leaveStep .takeUp (nextIndex (s.chan c).index) c (holdNoted c w (rec.map Record.countFailed) ks s) := by
  simp [failContinue, completeStep, holdNoted]

/-- What a completed HOLD has written is not among what the leaving of its step is judged by. -/
theorem stepLeft_of_holdNoted {i : Nat} {c : Chan} {w : HoldWork} {rec : Option Record} {ks : Option Int}
    {s t : State} (h : StepLeft i c (holdNoted c w rec ks s) t) : StepLeft i c s t := by
  have others : OthersKept c (holdNoted c w rec ks s) t → OthersKept c s t := fun k d hd => by
    have := k d hd
    rwa [holdNoted, chan_setChan_ne _ _ hd] at this
  simp only [StepLeft, holdNoted, chan_setChan] at h
  obtain ⟨hphase, hindex, hwork, hfreeze, hstate, hprog, hconf, hfault, hpend, hpeer, hfiled, ho, rest⟩ := h
  exact ⟨hphase, hindex, hwork, hfreeze, hstate, hprog, hconf, hfault, hpend, hpeer, hfiled, others ho, rest⟩

/-- R13, R14, R63: a completed HOLD that is left keeps what it wrote. -/
theorem leaveStep_holdNoted (i : Nat) (c : Chan) (w : HoldWork) (rec : Option Record) (ks : Option Int) (s : State) :
    let t := leaveStep .takeUp i c (holdNoted c w rec ks s)
    StepLeft i c s t ∧ (t.chan c).record = rec ∧ (t.chan c).lastCreep = ks := by
  have hc := (leaveStep_spec .takeUp i c (holdNoted c w rec ks s)).1
  refine ⟨stepLeft_of_holdNoted (stepLeft_leaveStep i c _), ?_, ?_⟩
  all_goals rw [hc]; simp [holdNoted, leftWith, accounted]

/-- R16, R63: a completed HOLD of a RUNNING channel that faults keeps what it wrote, its record taking the cause. -/
theorem faultChannel_holdNoted (cause : FaultCause) (c : Chan) (w : HoldWork) (rec : Option Record)
    (ks : Option Int) {s : State} (hst : (s.chan c).state = .running) :
    let t := faultChannel cause c (holdNoted c w rec ks s)
    (t.chan c).state = .faulted ∧ (t.chan c).fault = some cause ∧ (t.chan c).phase = (s.chan c).phase ∧
      (t.chan c).index = (s.chan c).index ∧ (t.chan c).record = rec.map (fun r => { r with fault := some cause }) ∧
      (t.chan c).lastCreep = ks ∧ t.mgmt.latched.channelFault = true := by
  obtain ⟨⟨⟨hchan, -⟩, -, hmgmt, -⟩, -⟩ :=
    faultChannel_spec cause c (holdNoted c w rec ks s) (.inl (by simp [holdNoted, hst]))
  intro t
  rw [show t.chan c = _ from hchan, show t.mgmt = _ from hmgmt]
  simp [holdNoted]

/-- R15, R63: the three on-fail courses of a completed HOLD that fails, each keeping what the HOLD wrote. -/
theorem failStep_holdNoted (st : Step) (cause : FaultCause) {c : Chan} (w : HoldWork) (rec : Record)
    (ks : Option Int) {s : State} (hst : (s.chan c).state = .running) (ha : (s.chan c).phase = .active) :
    let t := failStep st cause c (holdNoted c w (some rec) ks s)
    (t.chan c).lastCreep = ks ∧
      (st.onFail = .cont →
        StepLeft (nextIndex (s.chan c).index) c s t ∧ (t.chan c).record = some rec.countFailed) ∧
      (st.onFail = .divert → StepLeft st.divert c s t ∧ (t.chan c).record = some rec) ∧
      (st.onFail = .halt → (t.chan c).state = .faulted ∧ (t.chan c).fault = some cause ∧
        (t.chan c).phase = .active ∧ (t.chan c).index = (s.chan c).index ∧
        (t.chan c).record = some { rec with fault := some cause } ∧ t.mgmt.latched.channelFault = true) := by
  cases course : st.onFail <;> simp only [failStep, course]
  case halt =>
    obtain ⟨state, fault, phase, index, record, creep, latched⟩ :=
      faultChannel_holdNoted cause c w (some rec) ks hst
    exact ⟨creep, nofun, nofun, fun _ => ⟨state, fault, phase.trans ha, index, record, latched⟩⟩
  case divert =>
    obtain ⟨gone, record, creep⟩ := leaveStep_holdNoted st.divert c w (some rec) ks s
    exact ⟨creep, nofun, fun _ => ⟨gone, record⟩, nofun⟩
  case cont =>
    obtain ⟨gone, record, creep⟩ :=
      leaveStep_holdNoted (nextIndex (s.chan c).index) c w (some rec.countFailed) ks s
    rw [failContinue_holdNoted]
    exact ⟨creep, fun _ => ⟨gone, record⟩, nofun, nofun⟩

/-- R62: the result of a HOLD with the marks of `w`. -/
def holdResult (p : HoldStep) (w : HoldWork) : HoldResult :=
  { verdict := holdVerdict p w.drift (holdCreep p w.marks), ks := holdCreep p w.marks, marks := w.marks
    drift := w.drift, interrupted := w.interrupted }

/-- R63: a drift takes the CONTINUE course, whatever the step's own is. -/
theorem holdDone_drift {st : Step} {p : HoldStep} {w : HoldWork} {c : Chan} {s : State} (h : w.drift = true) :
    holdDone st p w c s = failContinue c (appendResult (holdResult p w) c s) := by
  simp [holdDone, holdResult, h]

/-- R63: a creep above the limit takes the step's on-fail course. -/
theorem holdDone_creep {st : Step} {p : HoldStep} {w : HoldWork} {c : Chan} {s : State} {x : Int}
    (h : w.drift = false) (hk : holdCreep p w.marks = some x) (hx : x > p.creepLimit) :
    holdDone st p w c s = failStep st .creepExceeded c (appendResult (holdResult p w) c s) := by
  simp [holdDone, holdResult, holdVerdict, h, hk, hx]

/-- R63: a PASS and an INCOMPLETE complete the step. -/
theorem holdDone_completes {st : Step} {p : HoldStep} {w : HoldWork} {c : Chan} {s : State}
    (h : w.drift = false) (hk : ∀ x, holdCreep p w.marks = some x → ¬ x > p.creepLimit) :
    holdDone st p w c s = completeStep c (appendResult (holdResult p w) c s) := by
  cases hc : holdCreep p w.marks with
  | none => simp [holdDone, holdResult, holdVerdict, h, hc]
  | some x => simp [holdDone, holdResult, holdVerdict, h, hc, hk x hc]

/-- R59: at its duration a HOLD records its last mark and is done. -/
theorem holdCycle_completes {c : Chan} {st : Step} {p : HoldStep} {w : HoldWork} {times : MarkSet} {s : State}
    (hm : s.store.markSet p.markSet = some times) (he : w.elapsed = p.duration) :
    let v := { w with marks := recordMarks times p.duration w.elapsed (s.chanValue c .jackStroke) w.marks }
    holdCycle st p w c s = holdDone st p v c (s.setWork c (.hold v)) := by
  simp [holdCycle, hm, he]

/-- R62, R63, R101: at its duration a HOLD is worked by its verdict's course on the part that holds its result. -/
theorem exec_holdComplete {c : Chan} {st : Step} {p : HoldStep} {w : HoldWork} {times : MarkSet} {s : State}
    (h : Holding c st p w times s) (he : w.elapsed = p.duration) :
    let v := { w with marks := recordMarks times p.duration w.elapsed (s.chanValue c .jackStroke) w.marks }
    let u := { s with due := s.due.filter (· ≠ CycleWork.sequencer c) }
    exec (.holdComplete c) s = .next (holdDone st p v c (u.setWork c (.hold v))) := by
  have completes : holdCompletes c s = true := by simp [holdCompletes, holding_eq h, he]
  obtain ⟨-, -, -, -, -, -, -, hm⟩ := id h
  exact congrArg Host.Outcome.next ((takeOccurrence_hold h completes).trans
    (holdCycle_completes (s := { s with due := s.due.filter (· ≠ CycleWork.sequencer c) }) hm he))

theorem holdCompletesWithVerdict : HoldCompletesWithVerdict := by
  intro c st p w times rec ks s h he hr hk marks fails verdict result appended counted
  obtain rfl := (creepIs_iff _ _ _).mp hk
  let v := { w with marks := marks }
  let u := { s with due := s.due.filter (· ≠ CycleWork.sequencer c) }
  have answer : exec (.holdComplete c) s = .next (holdDone st p v c (u.setWork c (.hold v))) :=
    exec_holdComplete h he
  have noted : appendResult (holdResult p v) c (u.setWork c (.hold v)) =
      holdNoted c v (some appended) (holdCreep p marks) u := by
    rw [appendResult_hold, show (u.chan c).record = some rec from hr]; rfl
  have left := fun (i : Nat) (r : Record) => leaveStep_holdNoted i c v (some r) (holdCreep p marks) u
  obtain ⟨-, hst, ha, -⟩ := h
  by_cases hd : w.drift = true
  · obtain ⟨gone, record, creep⟩ := left (nextIndex (s.chan c).index) counted
    have undrifted : w.drift ≠ false := by simp [hd]
    rw [holdDone_drift (w := v) hd, noted, failContinue_holdNoted] at answer
    exact ⟨_, answer, creep, fun n => absurd n undrifted, fun _ => ⟨gone, record⟩, fun f => absurd f.1 undrifted,
      fun f => absurd f.1 undrifted, fun f => absurd f.1 undrifted⟩
  have undrifted : w.drift = false := by simpa using hd
  by_cases hf : fails
  · obtain ⟨-, x, hx, above⟩ := id hf
    rw [holdDone_creep (w := v) undrifted hx above, noted] at answer
    obtain ⟨creep, continues, diverts, halts⟩ :=
      failStep_holdNoted st .creepExceeded v appended (holdCreep p marks) (s := u) hst ha
    exact ⟨_, answer, creep, fun _ n => absurd hf n, fun d => absurd d hd, fun _ => continues, fun _ => diverts,
      fun _ => halts⟩
  · obtain ⟨gone, record, creep⟩ := left (nextIndex (s.chan c).index) appended
    have within : ∀ x, holdCreep p v.marks = some x → ¬ x > p.creepLimit :=
      fun x hx above => hf ⟨undrifted, x, hx, above⟩
    rw [holdDone_completes (w := v) undrifted within, noted, completeStep_holdNoted] at answer
    exact ⟨_, answer, creep, fun _ _ => ⟨gone, record⟩, fun d => absurd d hd, fun f => absurd f hf,
      fun f => absurd f hf, fun f => absurd f hf⟩

/-- Settles O13, by the three courses of a HOLD's cycle start: a mark, a bare count, and completion. -/
theorem holdMarksAndCompletes : Obligations.HoldMarksAndCompletes :=
  ⟨holdRecordsMark, holdCountsElapsed, holdCompletesWithVerdict⟩

end Sys2Proof.Machine.Laws
end

section
/-! PROOFS. The winch command slot (R92, R93) and the pump command slot (R85, R86). -/

namespace Sys2Proof.Machine.Laws

/-! ### The winch command slot (R92, R93, R159) -/

/-- R92: what has to hold for the winch to drive. -/
theorem winchDrives_iff (s : State) (c : Chan) :
    s.winchDrives c = true ↔ (s.chan c).state = .running ∧ (s.chan c).phase = .active ∧
      (∃ w, (s.chan c).work = .payout w ∧ w.startLength ≠ none ∧ w.hold = false) ∧
      s.available (.chan c .winchTension) = true := by
  cases hw : (s.chan c).work with
  | payout w => simp [State.winchDrives, hw, Option.isSome_iff_ne_none, and_assoc]
  | none | inject _ | ramp _ | hold _ | lockoff _ | check _ | await _ | signal | finish =>
    simp [State.winchDrives, hw]

theorem winchFields_of_drives {s : State} {c : Chan} (h : s.winchDrives c = true) :
    s.winchFields c = (s.setpoint c, false) := if_pos h

/-- R92: a winch that does not drive is braked. -/
theorem winchFields_of_not_drives {s : State} {c : Chan} (h : ¬ s.winchDrives c = true) :
    s.winchFields c = (0, true) := if_neg h

/-- The part `u` once the winch command slot of channel `c` at `pos` has passed with the demand and brake `f`. -/
def winchWritten (pos : Nat) (c : Chan) (f : Nat × Bool) (u : State) : State :=
  { u.setChan c { u.chan c with lastWinch := f.1, lastBrake := f.2 } with
    line := { u.line with slotPos := pos }, sent := [winchSlot f.1 f.2 (u.line.count % 256)] }

theorem exec_winchCommand {pos : Nat} {x : Slot} {c : Chan} {s : State}
    (h : SlotAt (settle s) pos (.command (.winch c))) :
    exec (.winchCommand pos x) s = .next (winchWritten pos c ((settle s).winchFields c) (settle s)) := by
  obtain ⟨-, hpos⟩ := nextEntry_of_SlotAt h
  refine congrArg Host.Outcome.next ((slotOutcome_at (q := fun _ _ => true) h rfl).trans ?_)
  subst hpos
  rfl

/-- R92, R93: the slot carries the fields of a winch that drives or of one that is braked. -/
theorem winchCommandDrivesOrBrakes : WinchCommandDrivesOrBrakes := by
  intro pos x c s h u ch drives written
  have drives_iff : u.winchDrives c = true ↔ drives := winchDrives_iff u c
  refine ⟨fun hd => ?_, fun hd => ?_⟩
  · rw [exec_winchCommand h, winchFields_of_drives (drives_iff.mpr hd)]
    rfl
  · rw [exec_winchCommand h, winchFields_of_not_drives (mt drives_iff.mp hd)]
    rfl

/-! ### The pump command slot (R85, R86, R159) -/

theorem injectStep_of_body {s : State} {c : Chan} {st : Step} {k : InjectStep} (h : s.currentStep c = some st)
    (hk : st.body = .inject k) : s.injectStep c = some k := by
  obtain ⟨onFail, divert, body⟩ := st
  subst hk
  simp [State.injectStep, h]

/-- R85: in FREE and in SWITCHING the demand is 0. -/
theorem pumpDemand_of_free {s : State} {p : Pump} (h : (s.arb p).state = .free) : s.pumpDemand p = 0 := by
  simp [State.pumpDemand, h]

theorem pumpDemand_of_switching {s : State} {p : Pump} {c : Chan} (h : (s.arb p).state = .switching c) :
    s.pumpDemand p = 0 := by
  simp [State.pumpDemand, h]

/-- R85: the holder's demand, throttled by the pressure of its line. -/
theorem pumpDemand_of_pressure {s : State} {p : Pump} {c : Chan} {k : InjectStep} {pressure : Nat}
    (hs : (s.arb p).state = .granted c) (hk : s.injectStep c = some k)
    (hp : s.chanValue c .groutPressure = some pressure) :
    s.pumpDemand p = min k.demandCeiling ((k.pressureCeiling - pressure) * (s.chan c).config.pgain / 256) := by
  simp [State.pumpDemand, hs, hk, hp, holderDemand]

/-- R85: without an available pressure the demand is 0. -/
theorem pumpDemand_of_no_pressure {s : State} {p : Pump} {c : Chan} (hs : (s.arb p).state = .granted c)
    (hp : s.chanValue c .groutPressure = none) : s.pumpDemand p = 0 := by
  simp [State.pumpDemand, hs, hp]

theorem manifoldField_of_free {a : Arbiter} (h : a.state = .free) : a.manifoldField = a.manifold := by
  simp [Arbiter.manifoldField, h]

/-- R86: in SWITCHING and in GRANTED the manifold field is the holder. -/
theorem manifoldField_of_holder {a : Arbiter} {c : Chan} (h : a.state = .switching c ∨ a.state = .granted c) :
    a.manifoldField = some c := by
  obtain h | h := h <;> simp [Arbiter.manifoldField, h]

/-- The part `u` once the command slot of pump `p` at `pos` has passed with this demand and manifold field. -/
def pumpWritten (pos : Nat) (p : Pump) (demand : Nat) (manifold : Option Chan) (u : State) : State :=
  { u.setArb p { u.arb p with lastDemand := demand } with
    line := { u.line with slotPos := pos }, sent := [pumpSlot demand manifold (u.line.count % 256)] }

theorem exec_pumpCommand {pos : Nat} {x : Slot} {p : Pump} {s : State}
    (h : SlotAt (settle s) pos (.command (.pump p))) :
    exec (.pumpCommand pos x) s =
      .next (pumpWritten pos p ((settle s).pumpDemand p) ((settle s).arb p).manifoldField (settle s)) := by
  obtain ⟨-, hpos⟩ := nextEntry_of_SlotAt h
  refine congrArg Host.Outcome.next ((slotOutcome_at (q := fun _ _ => true) h rfl).trans ?_)
  subst hpos
  cases p <;> rfl

/-- R85, R86: the slot carries the demand and the manifold field of each pump state. -/
theorem pumpCommandWritesDemand : PumpCommandWritesDemand := by
  intro pos x p s h u a written
  refine ⟨fun free => ?_, fun c switching => ?_, fun c granted => ⟨fun st k pressure hst hk hp => ?_, fun hp => ?_⟩⟩
  · rw [exec_pumpCommand h, pumpDemand_of_free free, manifoldField_of_free free]
    rfl
  · rw [exec_pumpCommand h, pumpDemand_of_switching switching, manifoldField_of_holder (.inl switching)]
    rfl
  · rw [exec_pumpCommand h, pumpDemand_of_pressure granted (injectStep_of_body hst hk) hp,
      manifoldField_of_holder (.inr granted)]
    rfl
  · rw [exec_pumpCommand h, pumpDemand_of_no_pressure granted hp, manifoldField_of_holder (.inr granted)]
    rfl

/-- Settles O31: each slot carries its fields, and those are the fields of a winch that drives or is braked, and of a
pump in each of its states. -/
theorem winchAndPumpCommandsAreWritten : Obligations.WinchAndPumpCommandsAreWritten :=
  ⟨winchCommandDrivesOrBrakes, pumpCommandWritesDemand⟩

end Sys2Proof.Machine.Laws
end

section
/-! PROOFS. The two requests on a wall point (R115, R116, R119 to R121). -/

namespace Sys2Proof.Machine.Laws

/-! ### The wall state (R119, R122) -/

theorem mem_allPoints (q : Point) : q ∈ allPoints := by revert q; decide

/-- R119: the wall state is STOP exactly while an enabled point is. -/
theorem wallState_eq_stop_iff (s : State) :
    s.wallState = .stop ↔ ∃ q, (s.wall q).config.enable = true ∧ (s.wall q).state = .stop := by
  have points : s.wallState = .stop ↔ s.anyPoint (· = .stop) = true := by
    unfold State.wallState
    split
    · simp_all
    · split <;> simp_all
  rw [points]
  simp [State.anyPoint, mem_allPoints]

/-- R122: a change of a point that does not bring it to STOP freezes no channel. -/
theorem changeWall_of_no_new_stop {p : Point} {x : WallPoint} {s : State}
    (h : x.config.enable = true → x.state = .stop → (s.wall p).config.enable = true ∧ (s.wall p).state = .stop) :
    s.changeWall p x = s.setWall p x := by
  obtain ⟨-, -, -, -, plain⟩ := changeWall_spec p x s
  refine plain fun ⟨stops, before⟩ => before ?_
  obtain ⟨q, enabled, stopped⟩ := (wallState_eq_stop_iff _).mp stops
  refine (wallState_eq_stop_iff s).mpr ⟨q, ?_⟩
  by_cases hq : q = p
  · subst hq
    rw [wall_setWall] at enabled stopped
    exact h enabled stopped
  · rw [wall_setWall_ne _ _ hq] at enabled stopped
    exact ⟨enabled, stopped⟩

/-! ### The request on a point -/

/-- The point that the first byte of a request names. -/
theorem onPoint_eq {act : Point → State → Answer} {b : Byte} {bs : List Byte} {p : Point} (s : State)
    (h : p.val = b.toNat) : onPoint act (b :: bs) s = act p s := by
  simp [onPoint, natAt_head, pointOf, ← h]

theorem onPoint_badIndex {act : Point → State → Answer} {b : Byte} {bs : List Byte} (s : State) (h : 15 < b.toNat) :
    onPoint act (b :: bs) s = refuse .badIndex s := by
  simp [onPoint, natAt_head, pointOf, Nat.not_lt.mpr h]

@[simp] theorem passed_wall (w : Window) (u : State) (p : Point) : (passed w u).wall p = u.wall p := rfl

/-- R121, R122, R168: an accepted request that brings no point to STOP is answered, and writes its point alone. -/
theorem prepare_accept_changeWall {w : Window} {fs : List Field} {p : Point} {x : WallPoint} {u : State}
    (h : x.config.enable = true → x.state = .stop → (u.wall p).config.enable = true ∧ (u.wall p).state = .stop) :
    State.prepare w (accept fs ((passed w u).changeWall p x)) = answered w .ok fs (u.setWall p x) := by
  rw [changeWall_of_no_new_stop (s := passed w u) h]
  rfl

/-! ### SET_BASELINE (R120) -/

/-- SET_BASELINE answers its request's judgement. -/
theorem exec_setBaseline {b : Byte} {w : Window} {s : State} (h : Addressed 16 [b] w (settle s)) :
    exec (.setBaseline w) s = .next (State.prepare w (onPoint baselineRequest [b] (passed w (settle s)))) :=
  congrArg Host.Outcome.next
    (requestEvent_settled h (ofKind_addressed h) (lengthRight_addressed h (by decide) rfl))

theorem baselineRequest_latched {p : Point} {s : State} (h : (s.wall p).latch = true) :
    baselineRequest p s = refuse .inUse s := if_pos h

theorem baselineRequest_noData {p : Point} {s : State} (h : (s.wall p).latch = false)
    (hv : s.availableValue (.wallMove p) = none) : baselineRequest p s = refuse .noData s := by
  simp [baselineRequest, h, hv]

theorem baselineRequest_accepted {p : Point} {s : State} {v : Int} (h : (s.wall p).latch = false)
    (hv : s.availableValue (.wallMove p) = some v) :
    baselineRequest p s = accept [fInt 2 v] (s.changeWall p ((s.wall p).rebased v)) := by
  simp [baselineRequest, h, hv]

/-- R116: with the latch clear and a stop threshold above 0, displacement 0 is WARN or NORMAL. -/
theorem classify_zero {k : WallConfig} {before : PointState} (h : 0 < k.stop) :
    classify k before false 0 =
      { state := if k.warn = 0 ∨ ((before = .warn ∨ before = .stale) ∧ k.warn ≤ k.hysteresis) then .warn else .normal
        latch := false } := by
  have notStop : ¬ k.stop ≤ 0 := Nat.not_le.mpr h
  by_cases warns : k.warn = 0
  · simp [classify, notStop, warns]
  · by_cases held : (before = .warn ∨ before = .stale) ∧ k.warn ≤ k.hysteresis <;>
      simp [classify, notStop, warns, held]

theorem warnOrNormal_ne_stop (c : Prop) [Decidable c] : (if c then PointState.warn else .normal) ≠ .stop := by
  split <;> decide

/-- R116: an enabled point at its baseline, the latch clear, is WARN or NORMAL. -/
theorem classified_at_baseline {x : WallPoint} (on : x.config.enable = true) (clear : x.latch = false)
    (pos : 0 < x.config.stop) :
    x.classified x.config.baseline =
      { x with
        state := if x.config.warn = 0 ∨ ((x.state = .warn ∨ x.state = .stale) ∧ x.config.warn ≤ x.config.hysteresis)
          then .warn else .normal } := by
  have atZero : displacement x.config x.config.baseline = 0 := by simp [displacement, distance]
  simp [WallPoint.classified, on, clear, atZero, classify_zero pos]

/-- R116, R120: a disabled point takes the baseline and is not classified. -/
theorem rebased_of_disabled {v : Int} {x : WallPoint} (off : x.config.enable = false) :
    x.rebased v = { x with config := { x.config with baseline := v } } := by
  simp [WallPoint.rebased, WallPoint.classified, off]

/-- R115, R120: an enabled point is classified at displacement 0 of its new baseline. -/
theorem rebased_of_enabled {v : Int} {x : WallPoint} (on : x.config.enable = true) (clear : x.latch = false)
    (pos : 0 < x.config.stop) :
    x.rebased v =
      { x with
        config := { x.config with baseline := v }
        state := if x.config.warn = 0 ∨ ((x.state = .warn ∨ x.state = .stale) ∧ x.config.warn ≤ x.config.hysteresis)
          then .warn else .normal } :=
  classified_at_baseline (x := { x with config := { x.config with baseline := v } }) on clear pos

theorem setBaselineTakesValue : SetBaselineTakesValue := by
  intro b w s u h
  refine ⟨fun hb => ?_, fun p hp => ⟨fun latched => ?_, fun clear hv => ?_, fun v clear hv =>
    ⟨fun off => ?_, fun on pos => ?_⟩⟩⟩
  · rw [exec_setBaseline h, onPoint_badIndex _ hb, prepare_refuse]
  all_goals rw [exec_setBaseline h, onPoint_eq _ hp]
  · rw [baselineRequest_latched (s := passed w u) latched, prepare_refuse]
  · rw [baselineRequest_noData (s := passed w u) clear hv, prepare_refuse]
  all_goals rw [baselineRequest_accepted (s := passed w u) clear hv, passed_wall]
  · rw [rebased_of_disabled off]
    exact congrArg Host.Outcome.next (prepare_accept_changeWall fun on _ => absurd (off.symm.trans on) (by decide))
  · rw [rebased_of_enabled on clear pos]
    exact congrArg Host.Outcome.next (prepare_accept_changeWall fun _ stops => absurd stops (warnOrNormal_ne_stop _))

/-! ### CLEAR_WALL_STOP (R121) -/

/-- CLEAR_WALL_STOP answers its request's judgement. -/
theorem exec_clearWallStop {b : Byte} {w : Window} {s : State} (h : Addressed 17 [b] w (settle s)) :
    exec (.clearWallStop w) s = .next (State.prepare w (onPoint clearRequest [b] (passed w (settle s)))) :=
  congrArg Host.Outcome.next
    (requestEvent_settled h (ofKind_addressed h) (lengthRight_addressed h (by decide) rfl))

theorem clearRequest_notLatched {p : Point} {s : State} (h : (s.wall p).latch = false) :
    clearRequest p s = refuse .wrongState s := by simp [clearRequest, h]

theorem clearRequest_noData {p : Point} {s : State} (h : (s.wall p).latch = true)
    (hv : s.availableValue (.wallMove p) = none) : clearRequest p s = refuse .noData s := by
  simp [clearRequest, h, State.displacement, hv]

/-- R115: the displacement that an available input shows. -/
theorem displacement_of_value {p : Point} {s : State} {v : Int} (hv : s.availableValue (.wallMove p) = some v) :
    s.displacement p = some (v - (s.wall p).config.baseline).natAbs := congrArg (Option.map _) hv

/-- R121: within the hysteresis of the stop threshold the latch is kept. -/
theorem clearRequest_tooFar {p : Point} {s : State} {d : Nat} (h : (s.wall p).latch = true)
    (hd : s.displacement p = some d) (far : (s.wall p).config.stop ≤ d + (s.wall p).config.hysteresis) :
    clearRequest p s = refuse .wrongState s := by
  simp [clearRequest, h, hd, clearAllowed, far]

theorem clearRequest_accepted {p : Point} {s : State} {d : Nat} (h : (s.wall p).latch = true)
    (hd : s.displacement p = some d) (near : d + (s.wall p).config.hysteresis < (s.wall p).config.stop) :
    clearRequest p s = accept [fNat 1 ((s.wall p).cleared d).state.code] (s.changeWall p ((s.wall p).cleared d)) := by
  simp [clearRequest, h, hd, clearAllowed, near]

/-- R121: a cleared point comes down to WARN or NORMAL. -/
theorem cleared_of_warn {d : Nat} {x : WallPoint} (h : x.config.warn ≤ d + x.config.hysteresis) :
    x.cleared d = { x with state := .warn, latch := false } := by simp [WallPoint.cleared, h]

theorem cleared_of_normal {d : Nat} {x : WallPoint} (h : d + x.config.hysteresis < x.config.warn) :
    x.cleared d = { x with state := .normal, latch := false } := by simp [WallPoint.cleared, Nat.not_le.mpr h]

theorem clearWallStopComesDown : ClearWallStopComesDown := by
  intro b w s u h
  refine ⟨fun hb => ?_, fun p hp => ⟨fun unlatched => ?_, fun latched hv => ?_, fun v latched hv =>
    ⟨fun far => ?_, fun near => ⟨fun warns => ?_, fun calm => ?_⟩⟩⟩⟩
  · rw [exec_clearWallStop h, onPoint_badIndex _ hb, prepare_refuse]
  all_goals rw [exec_clearWallStop h, onPoint_eq _ hp]
  · rw [clearRequest_notLatched (s := passed w u) unlatched, prepare_refuse]
  · rw [clearRequest_noData (s := passed w u) latched hv, prepare_refuse]
  · rw [clearRequest_tooFar (s := passed w u) latched (displacement_of_value hv) far, prepare_refuse]
  all_goals rw [clearRequest_accepted (s := passed w u) latched (displacement_of_value hv) near, passed_wall]
  · rw [cleared_of_warn warns]
    exact congrArg Host.Outcome.next (prepare_accept_changeWall nofun)
  · rw [cleared_of_normal calm]
    exact congrArg Host.Outcome.next (prepare_accept_changeWall nofun)

/-- Settles O47: each request is answered by the first of its checks that fails, and an accepted one brings no point to
STOP, so that it writes its point alone. -/
theorem baselineAndClearWallStop : Obligations.BaselineAndClearWallStop :=
  ⟨setBaselineTakesValue, clearWallStopComesDown⟩

end Sys2Proof.Machine.Laws
end

section
/-! PROOFS. An accepted and a rejected sample (R131, R132, R134, R136). -/

namespace Sys2Proof.Machine.Laws

/-! ### What faults and the outcomes of a step leave unchanged (R13 to R16) -/

theorem freezeKeeps_setChan (s : State) (c : Chan) (ch : Channel) : FreezeKeeps s (s.setChan c ch) := by
  simp [FreezeKeeps]

theorem freezeKeeps_of_claimsOnly {s t : State} (h : ClaimsOnly s t) : FreezeKeeps s t := by
  obtain ⟨h1, h2, h3, h4, h5, h6, h7, -, h9, h10, -, h12, h13⟩ := h.fields
  exact ⟨h1, h2, h3, h4, h5, h6, h7, h9, h10, h12, h13⟩

theorem freezeKeeps_faultChannel (cause : FaultCause) (c : Chan) (s : State) :
    FreezeKeeps s (faultChannel cause c s) := by
  unfold faultChannel
  dsimp only
  split
  · exact FreezeKeeps.trans (by simp [FreezeKeeps]) (freezeKeeps_of_claimsOnly (claimsOnly_withdrawClaim c _))
  · exact FreezeKeeps.refl s

theorem freezeKeeps_leaveStep (phase : StepPhase) (index : Nat) (c : Chan) (s : State) :
    FreezeKeeps s (leaveStep phase index c s) := by
  obtain ⟨-, -, keeps, -, -⟩ := leaveStep_spec phase index c s
  exact keeps

theorem freezeKeeps_completeStep (c : Chan) (s : State) : FreezeKeeps s (completeStep c s) :=
  freezeKeeps_leaveStep _ _ c s

theorem freezeKeeps_failStep (step : Step) (cause : FaultCause) (c : Chan) (s : State) :
    FreezeKeeps s (failStep step cause c s) := by
  unfold failStep
  split
  · exact freezeKeeps_faultChannel cause c s
  · exact freezeKeeps_leaveStep _ _ c s
  · exact (freezeKeeps_setChan s c _).trans (freezeKeeps_completeStep c _)

/-! ### What the readers of a sample leave unchanged (R136) -/

/-- The shape most readers share: the channel takes its count, and where the test is met the step or the fault acts on
the channel so written. -/
theorem freezeKeeps_countThen {s t : State} {c : Chan} {met written : Channel} {p : Prop} [Decidable p]
    (h : FreezeKeeps (s.setChan c met) t) : FreezeKeeps s (if p then t else s.setChan c written) := by
  split
  · exact (freezeKeeps_setChan s c met).trans h
  · exact freezeKeeps_setChan s c written

theorem freezeKeeps_peakLoad (c : Chan) (v : Nat) (s : State) : FreezeKeeps s (peakLoad c v s) :=
  freezeKeeps_setChan s c _

theorem freezeKeeps_overloadCheck (c : Chan) (v : Nat) (s : State) : FreezeKeeps s (overloadCheck c v s) := by
  unfold overloadCheck
  dsimp only
  split
  · exact FreezeKeeps.refl s
  · exact freezeKeeps_countThen (freezeKeeps_faultChannel .overload c _)

theorem freezeKeeps_settleTest (c : Chan) (v : Nat) (s : State) : FreezeKeeps s (settleTest c v s) := by
  unfold settleTest
  split
  · exact freezeKeeps_countThen (freezeKeeps_completeStep c _)
  · exact FreezeKeeps.refl s

theorem freezeKeeps_appendResult (h : HoldResult) (c : Chan) (s : State) : FreezeKeeps s (appendResult h c s) :=
  (freezeKeeps_setChan s c _).trans (freezeKeeps_setChan _ c _)

theorem freezeKeeps_driftTest (c : Chan) (v : Nat) (s : State) : FreezeKeeps s (driftTest c v s) := by
  unfold driftTest
  split
  · split
    · split
      · exact FreezeKeeps.refl s
      · split
        · exact freezeKeeps_faultChannel .loadDrift c s
        · exact (freezeKeeps_appendResult _ c s).trans (freezeKeeps_leaveStep _ _ c _)
        · exact freezeKeeps_setChan s c _
    all_goals exact FreezeKeeps.refl s
  · exact FreezeKeeps.refl s

theorem freezeKeeps_lockoffTest (c : Chan) (v : Nat) (s : State) : FreezeKeeps s (lockoffTest c v s) := by
  unfold lockoffTest
  split
  · split
    · split
      · dsimp only
        split
        · exact (freezeKeeps_setChan s c _).trans (freezeKeeps_failStep _ .lockoffLoss c _)
        · exact (freezeKeeps_setChan s c _).trans (freezeKeeps_completeStep c _)
      · exact FreezeKeeps.refl s
    all_goals exact FreezeKeeps.refl s
  · exact FreezeKeeps.refl s

theorem freezeKeeps_volumeCount (c : Chan) (v : Nat) (s : State) : FreezeKeeps s (volumeCount c v s) := by
  unfold volumeCount
  split
  · exact freezeKeeps_countThen (freezeKeeps_completeStep c _)
  · exact FreezeKeeps.refl s

theorem freezeKeeps_refuseStep (step : Step) (p : InjectStep) (w : InjectWork) (c : Chan) (s : State) :
    FreezeKeeps s (refuseStep step p w c s) := by
  unfold refuseStep
  dsimp only
  split
  · exact (freezeKeeps_setChan s c _).trans (freezeKeeps_completeStep c _)
  · exact (freezeKeeps_setChan s c _).trans (freezeKeeps_failStep step .refusal c _)

theorem freezeKeeps_refusalTest (c : Chan) (v : Nat) (s : State) : FreezeKeeps s (refusalTest c v s) := by
  unfold refusalTest
  split
  · split
    · exact freezeKeeps_refuseStep _ _ _ c s
    · exact freezeKeeps_setChan s c _
  · exact FreezeKeeps.refl s

theorem freezeKeeps_overpressureCheck (c : Chan) (v : Nat) (s : State) : FreezeKeeps s (overpressureCheck c v s) := by
  unfold overpressureCheck
  split
  · exact freezeKeeps_countThen (freezeKeeps_faultChannel .overpressure c _)
  · exact FreezeKeeps.refl s

theorem freezeKeeps_payoutProgress (c : Chan) (v : Nat) (s : State) : FreezeKeeps s (payoutProgress c v s) := by
  unfold payoutProgress
  split
  · split
    · exact freezeKeeps_countThen (freezeKeeps_completeStep c _)
    · exact FreezeKeeps.refl s
  · exact FreezeKeeps.refl s

theorem freezeKeeps_tensionCheck (c : Chan) (v : Nat) (s : State) : FreezeKeeps s (tensionCheck c v s) := by
  unfold tensionCheck
  split
  · exact freezeKeeps_countThen (freezeKeeps_faultChannel .tensionLimit c _)
  · exact FreezeKeeps.refl s

theorem freezeKeeps_of_mem_readers {c : Chan} {v : Nat} {m : Measurand} {f : State → State} (h : f ∈ readers c v m)
    (s : State) : FreezeKeeps s (f s) := by
  cases m with
  | jackLoad =>
    simp only [readers, List.mem_cons, List.not_mem_nil, or_false] at h
    obtain rfl | rfl | rfl | rfl | rfl := h
    · exact freezeKeeps_peakLoad c v s
    · exact freezeKeeps_overloadCheck c v s
    · exact freezeKeeps_settleTest c v s
    · exact freezeKeeps_driftTest c v s
    · exact freezeKeeps_lockoffTest c v s
  | groutFlow =>
    simp only [readers, List.mem_cons, List.not_mem_nil, or_false] at h
    obtain rfl | rfl := h
    · exact freezeKeeps_volumeCount c v s
    · exact freezeKeeps_refusalTest c v s
  | groutPressure => exact List.mem_singleton.mp h ▸ freezeKeeps_overpressureCheck c v s
  | winchPayout => exact List.mem_singleton.mp h ▸ freezeKeeps_payoutProgress c v s
  | winchTension => exact List.mem_singleton.mp h ▸ freezeKeeps_tensionCheck c v s
  | anchorLoad | jackStroke | jackEcho | winchEcho => exact absurd h List.not_mem_nil

theorem freezeKeeps_foldl : ∀ (l : List (State → State)) (s : State), (∀ f ∈ l, ∀ u, FreezeKeeps u (f u)) →
    FreezeKeeps s (l.foldl (fun u f => f u) s)
  | [], s, _ => FreezeKeeps.refl s
  | f :: l, s, h =>
    (h f List.mem_cons_self s).trans (freezeKeeps_foldl l (f s) fun g hg => h g (List.mem_cons_of_mem f hg))

theorem freezeKeeps_removeStale (c : Chan) (s : State) : FreezeKeeps s (removeStale c s) := by
  unfold removeStale
  split
  · split
    · obtain ⟨-, keeps, -⟩ := removeCauses_spec FreezeSet.onlyStale c s
      exact keeps
    · exact FreezeKeeps.refl s
  · exact FreezeKeeps.refl s

/-- R136, R142: the readers of a channel's sample reach the channels, the Arbiters and the notices alone. -/
theorem freezeKeeps_handSample_chan (c : Chan) (m : Measurand) (r : InputRecord) (s : State) :
    FreezeKeeps s (handSample (.chan c m) r s) :=
  (freezeKeeps_foldl _ s fun _ hf u => freezeKeeps_of_mem_readers hf u).trans (freezeKeeps_removeStale c _)

/-- R116, R122: a wall point's sample reaches its point and, through WALL_STOP, the channels. -/
theorem freezeKeeps_handSample_wall (w : Point) (r : InputRecord) (s : State) :
    FreezeKeeps (s.setWall w ((s.wall w).classified r.value)) (handSample (.wallMove w) r s) := by
  obtain ⟨-, -, keeps, -⟩ := changeWall_spec w ((s.wall w).classified r.value) s
  exact keeps

/-- R136: what no reader of a sample writes, whatever its target. -/
theorem handSample_keeps (x : Target) (r : InputRecord) (s : State) :
    let t := handSample x r s
    t.inputs = s.inputs ∧ t.sent = s.sent ∧ t.line = s.line ∧ t.scales = s.scales ∧ t.store = s.store ∧
      t.records = s.records ∧ t.reports = s.reports ∧ t.pins = s.pins := by
  cases x with
  | chan c m =>
    obtain ⟨hline, hstore, hscales, hinputs, -, hrecords, hreports, hpins, -, hsent, -⟩ :=
      freezeKeeps_handSample_chan c m r s
    exact ⟨hinputs, hsent, hline, hscales, hstore, hrecords, hreports, hpins⟩
  | pumpEcho p => simp [handSample]
  | wallMove w =>
    obtain ⟨hline, hstore, hscales, hinputs, -, hrecords, hreports, hpins, -, hsent, -⟩ :=
      freezeKeeps_handSample_wall w r s
    exact ⟨hinputs, hsent, hline, hscales, hstore, hrecords, hreports, hpins⟩

theorem handSample_input (x y : Target) (r : InputRecord) (s : State) : (handSample x r s).input y = s.input y := by
  obtain ⟨hinputs, -⟩ := handSample_keeps x r s
  exact congrArg (Sparse.get none · y.code) hinputs

/-! ### Acceptance and conversion (R131, R132, R134) -/

/-- R131: the two value bytes of a sample slot are one two's complement number. -/
theorem rawValue_eq_toInt (slot : Slot) : rawValue slot = (slot.b1 ++ slot.b2).toInt := by
  have high := slot.b1.isLt
  have low := slot.b2.isLt
  have joined : (slot.b1 ++ slot.b2).toNat = 256 * slot.b1.toNat + slot.b2.toNat := by
    rw [BitVec.toNat_append, ← Nat.shiftLeft_add_eq_or_of_lt low, Nat.shiftLeft_eq]
    omega
  simp [rawValue, intAt, natAt, bytesNat, BitVec.toInt_eq_toNat_cond, joined]

theorem target_range_le (x : Target) : x.range.1 ≤ x.range.2 := by
  cases x with
  | chan c m => cases m <;> simp [Target.range, Measurand.range]
  | pumpEcho p => simp [Target.range]
  | wallMove w => simp [Target.range]

/-- 00_scope.md, Arithmetic: a clamp changes exactly the numbers outside its range. -/
theorem clamp_ne_iff {lo hi y : Int} (h : lo ≤ hi) : clamp lo hi y ≠ y ↔ y < lo ∨ hi < y := by
  unfold clamp; omega

theorem nodeStatus_eq_saturated_iff (slot : Slot) : nodeStatus slot = .saturated ↔ slot.b0 = 1#8 := by
  unfold nodeStatus
  split
  · simp_all
  · split <;> simp_all

/-- R131: every encoding but the first two is FAULT. -/
theorem nodeStatus_eq_fault_iff (slot : Slot) : nodeStatus slot = .fault ↔ slot.b0 ≠ 0#8 ∧ slot.b0 ≠ 1#8 := by
  unfold nodeStatus
  split
  · simp_all
  · split <;> simp_all

/-- R132, R143: a good sample of an echo input takes the aux as its value. -/
theorem acceptSample_echo {s : State} {x : Target} {k : Nat} {slot : Slot} (good : slotGood slot = true)
    (status : nodeStatus slot ≠ .fault) (echo : x.isEcho = true) :
    acceptSample s x k slot = some
      { value := slot.b3.toNat, valid := true, age := 0, saturated := decide (slot.b0 = 1#8)
        aux := slot.b3.toNat } := by
  simp [acceptSample, good, status, echo, nodeStatus_eq_saturated_iff]

/-- R132, R134: a good sample of any other input is converted by its scale entry and clamped. -/
theorem acceptSample_scaled {s : State} {x : Target} {k : Nat} {slot : Slot} {e : ScaleEntry}
    (good : slotGood slot = true) (status : nodeStatus slot ≠ .fault) (scaled : x.isEcho = false)
    (entry : Sparse.get none s.scales k = some e) :
    let y := ((slot.b1 ++ slot.b2).toInt - e.offset) * e.gain / 2 ^ e.shift
    acceptSample s x k slot = some
      { value := max x.range.1 (min x.range.2 y), valid := true, age := 0
        saturated := decide (slot.b0 = 1#8) || decide (y < x.range.1 ∨ x.range.2 < y), aux := slot.b3.toNat } := by
  intro y
  have converted : Machine.scaled e (rawValue slot) = y := by rw [rawValue_eq_toInt]; rfl
  simp only [acceptSample, good, status, scaled, entry, convert, converted, clamp_ne_iff (target_range_le x),
    nodeStatus_eq_saturated_iff]
  rfl

/-- R132: a bad check, a node status FAULT or an EMPTY scale entry rejects the sample. -/
theorem acceptSample_rejected {s : State} {x : Target} {k : Nat} {slot : Slot}
    (h : slotGood slot = false ∨ (slot.b0 ≠ 0#8 ∧ slot.b0 ≠ 1#8) ∨
      (x.isEcho = false ∧ Sparse.get none s.scales k = none)) : acceptSample s x k slot = none := by
  rcases h with bad | fault | ⟨scaled, empty⟩
  · simp [acceptSample, bad]
  · simp [acceptSample, (nodeStatus_eq_fault_iff slot).mpr fault]
  · simp [acceptSample, scaled, empty]

/-- R132, R134, R143: the model accepts what the manual accepts, with the record the manual gives. -/
theorem acceptSample_of_accepts {u : State} {pos : Nat} {slot : Slot} {x : Target} {r : InputRecord}
    (h : Accepts u pos slot x r) : ∃ k, SlotAt u pos (.sample x k) ∧ acceptSample u x k slot = some r := by
  obtain ⟨k, at_pos, good, status, valid, age, aux, outcome⟩ := h
  have no_fault : nodeStatus slot ≠ .fault := fun hf => by
    obtain ⟨h0, h1⟩ := (nodeStatus_eq_fault_iff slot).mp hf
    exact status.elim h0 h1
  refine ⟨k, at_pos, ?_⟩
  obtain ⟨value, _, _, saturated, _⟩ := r
  cases echo : x.isEcho with
  | true =>
    simp only [echo, if_true] at outcome
    rw [acceptSample_echo good no_fault echo]
    simp_all
  | false =>
    simp only [echo, Bool.false_eq_true, if_false] at outcome
    obtain ⟨e, entry, hvalue, hsaturated⟩ := outcome
    rw [acceptSample_scaled good no_fault echo entry]
    simp_all

/-! ### The sample slot (R132, R136, R158) -/

/-- The part `u` once a slot that it does not write has passed at `pos`. -/
def slotPassed (pos : Nat) (slot : Slot) (u : State) : State :=
  { u with line := { u.line with slotPos := pos }, sent := [slot] }

theorem exec_sampleSlot {pos : Nat} {slot : Slot} {x : Target} {k : Nat} {s : State}
    (h : SlotAt (settle s) pos (.sample x k)) :
    exec (.sampleSlot pos slot) s = .next (takeSample x k slot (slotPassed pos slot (settle s))) := by
  obtain ⟨-, hpos⟩ := nextEntry_of_SlotAt h
  refine congrArg Host.Outcome.next ((slotOutcome_at (q := fun _ _ => true) h rfl).trans ?_)
  subst hpos
  rfl

theorem takeSample_accepted {s : State} {x : Target} {k : Nat} {slot : Slot} {r : InputRecord}
    (h : acceptSample s x k slot = some r) : takeSample x k slot s = handSample x r (s.setInput x r) := by
  simp [takeSample, h]

theorem takeSample_rejected {s : State} {x : Target} {k : Nat} {slot : Slot} (h : acceptSample s x k slot = none) :
    takeSample x k slot s = s := by simp [takeSample, h]

/-- R132, R136: an accepted sample slot writes its target's record and is handed to its readers. -/
theorem exec_sampleSlot_accepted {pos : Nat} {slot : Slot} {x : Target} {r : InputRecord} {s : State}
    (h : Accepts (settle s) pos slot x r) :
    exec (.sampleSlot pos slot) s = .next (handSample x r ((slotPassed pos slot (settle s)).setInput x r)) := by
  obtain ⟨k, at_pos, accepted⟩ := acceptSample_of_accepts h
  rw [exec_sampleSlot at_pos, takeSample_accepted (s := slotPassed pos slot (settle s)) accepted]

/-- Settles O24: of an accepted sample's effects the record alone is the conversion's own, and no reader of the sample
writes a record of an input; a rejected sample meets no reader. -/
theorem sampleSlotWritesRecord : Obligations.SampleSlotWritesRecord := by
  refine ⟨fun pos slot x r s h => ⟨_, exec_sampleSlot_accepted h, ?_⟩, fun pos slot x k s at_pos rejected => ?_⟩
  · obtain ⟨-, keeps⟩ := handSample_keeps x r ((slotPassed pos slot (settle s)).setInput x r)
    refine ⟨?_, fun y other => ?_, keeps⟩
    · rw [handSample_input, input_setInput]
    · rw [handSample_input, input_setInput_ne _ r other]; rfl
  · rw [exec_sampleSlot at_pos,
      takeSample_rejected (s := slotPassed pos slot (settle s)) (acceptSample_rejected rejected)]
    rfl

end Sys2Proof.Machine.Laws
end

section
/-! PROOFS. What a step can do, said once: every operation of the blocks is a chain of a few kinds of change (`Work`), and
every command a chain of those, of changes beside the blocks and of resets (`Event`). The invariants are proved over these
kinds. -/

namespace Sys2Proof.Machine.Laws

open Relation (ReflTransGen)

/-! ### One channel -/

/-- R70: the claim standing that the working fields of a step hold. -/
def standingOf : StepWork → Standing
  | .inject w => w.standing
  | .none | .payout _ | .ramp _ | .hold _ | .lockoff _ | .check _ | .await _ | .signal | .finish => .none

/-- There are working fields in phase ACTIVE alone. -/
def WorkOk (a : Channel) : Prop := a.phase ≠ .active → a.work = .none

/-- R35, on one channel. -/
def SetpointOk (a : Channel) : Prop := a.profile.acc ≤ a.profile.ceiling * 256

/-- R45, R47, R48, R50, on one channel. -/
def LoopOk (a : Channel) : Prop :=
  -(a.config.imax : Int) ≤ a.jack.integral ∧ a.jack.integral ≤ a.config.imax ∧ -1000 ≤ a.jack.lastValve ∧
    a.jack.lastValve ≤ 1000 ∧ (a.state = .idle → a.jack.integral = 0)

/-- R116 to R118, on one point. -/
def PointOk (x : WallPoint) : Prop := (x.latch = true ↔ x.state = .stop) ∧ (x.config.enable = false → x.state = .normal)

/-- Channel `b` is channel `a` with fields noted that no invariant but the bounds of R35 and R45 speaks of: same
configuration, held record and claim, and the bounds kept. -/
structure Tended (a b : Channel) : Prop where
  config : b.config = a.config
  filed : b.filed = a.filed
  claim : WorkOk a → standingOf b.work = standingOf a.work ∧ WorkOk b
  setpoint : SetpointOk a → SetpointOk b
  loop : LoopOk a → LoopOk b

/-- `Tended` in the same state with the same freeze causes. -/
structure Noted (a b : Channel) : Prop extends Tended a b where
  state : b.state = a.state
  freeze : b.freeze = a.freeze

theorem Noted.refl (a : Channel) : Noted a a := ⟨⟨rfl, rfl, fun h => ⟨rfl, h⟩, id, id⟩, rfl, rfl⟩

/-- A change of fields that none of the invariants names. -/
theorem noted_of_same {a b : Channel} (hs : b.state = a.state) (hf : b.freeze = a.freeze) (hc : b.config = a.config)
    (hr : b.filed = a.filed) (hp : b.phase = a.phase) (hw : b.work = a.work) (hg : b.profile = a.profile)
    (hi : b.jack.integral = a.jack.integral) (hv : b.jack.lastValve = a.jack.lastValve) : Noted a b := by
  refine ⟨⟨hc, hr, fun h => ⟨by rw [hw], ?_⟩, ?_, ?_⟩, hs, hf⟩
  · unfold WorkOk at *; rwa [hp, hw]
  · unfold SetpointOk; rw [hg]; exact id
  · unfold LoopOk; rw [hc, hi, hv, hs]; exact id

/-- A change of the working fields of a step that is worked, its claim standing kept. -/
theorem noted_work {a : Channel} {w : StepWork} (h : a.work ≠ .none) (hs : standingOf w = standingOf a.work) :
    Noted a { a with work := w } :=
  ⟨⟨rfl, rfl, fun k => ⟨hs, fun hp => absurd (k hp) h⟩, id, id⟩, rfl, rfl⟩

/-! ### Work of the blocks -/

/-- The four blocks that the invariants of the channels, pumps, points and records speak of are the same. -/
def SameBlocks (s t : State) : Prop :=
  t.chans = s.chans ∧ t.pumpA = s.pumpA ∧ t.pumpB = s.pumpB ∧ t.walls = s.walls ∧ t.records = s.records

/-- The alignment, the position and the cycle counted, the work due, the window handed over and the pins are the
same. -/
def SamePlace (s t : State) : Prop :=
  t.line = { s.line with active := t.line.active, shadow := t.line.shadow, swapPending := t.line.swapPending } ∧
  t.due = s.due ∧ t.mgmt.window = s.mgmt.window ∧ t.pins = s.pins

/-- What the work of a cycle start leaves of the Management Unit, the scale table, the pins and the commands. -/
def SameHeld (s t : State) : Prop :=
  t.mgmt = { s.mgmt with latched := t.mgmt.latched } ∧ t.scales = s.scales ∧ t.pins = s.pins ∧ t.sent = s.sent ∧
  t.pending = s.pending

/-- The kinds of change that the blocks' operations are made of: those of a request (`req`) may write what is held and the
configurations, those of a cycle start do not. -/
inductive Work (req : Bool) : State → State → Prop
  /-- Tables, flags and replies, their canonical form kept. -/
  | tables {s t : State} (same : SameBlocks s t) (place : SamePlace s t) (held : req = false → SameHeld s t)
      (canonical : s.tablesCanonical → t.tablesCanonical) : Work req s t
  /-- Fields of a channel noted. -/
  | note {s : State} (c : Chan) {b : Channel} (h : Noted (s.chan c) b) : Work req s (s.setChan c b)
  /-- R17. -/
  | cause {s : State} (k : FreezeCause) (c : Chan) : Work req s (addCause k c s)
  /-- R125, R142: WALL_STOP goes only while the wall state is not STOP. -/
  | uncause {s : State} (g : FreezeSet) (c : Chan) (h : g.wallStop = true → s.wallState ≠ .stop) :
      Work req s (removeCauses g c s)
  /-- R16. -/
  | fault {s : State} (cause : FaultCause) (c : Chan) : Work req s (faultChannel cause c s)
  /-- R22: a FAULTED channel whose step is left goes on. -/
  | unfault {s : State} (c : Chan) {b : Channel} (faulted : (s.chan c).state = .faulted) (h : Tended (s.chan c) b)
      (freeze : b.freeze = (s.chan c).freeze) (state : b.state = if b.freeze.isEmpty then .running else .frozen) :
      Work req s (s.setChan c b)
  /-- R13. -/
  | leave {s : State} (phase : StepPhase) (index : Nat) (c : Chan) (h : phase ≠ .active) :
      Work req s (leaveStep phase index c s)
  /-- R24. -/
  | configure {s : State} (c : Chan) (k : ChannelConfig) (h : (s.chan c).state = .idle) (request : req = true) :
      Work req s (s.updChan c fun ch => { ch with config := k })
  /-- R69, R75. -/
  | claim {s : State} (c : Chan) {w : InjectWork} (running : (s.chan c).state = .running)
      (work : (s.chan c).work = .inject w) (none : w.standing = .none) : Work req s (makeClaim c s)
  /-- R80, R81. -/
  | arbiter {s : State} (p : Pump) : Work req s (arbiterCycle p s)
  /-- R85. -/
  | demand {s : State} (p : Pump) (d : Nat) : Work req s (s.updArb p fun a => { a with lastDemand := d })
  /-- R116 to R121. -/
  | wall {s : State} (w : Point) {x : WallPoint} (h : PointOk (s.wall w) → PointOk x)
      (config : req = false → x.config = (s.wall w).config) : Work req s (s.changeWall w x)
  /-- R9. -/
  | start {s : State} (i : Nat) (c : Chan) (h : (s.chan c).state = .idle) : Work req s (startProgram i c s)
  /-- R19. -/
  | finish {s : State} (o : RunOutcome) (c : Chan)
      (live : (s.chan c).state = .running ∨ (s.chan c).state = .frozen ∨ (s.chan c).state = .faulted)
      (h : (s.chan c).phase ≠ .active ∨ (s.chan c).work = .finish) : Work req s (endProgram o c s)
  /-- R186. -/
  | free {s : State} : Work req s (freePlace s)

/-- A chain of changes by the blocks. -/
abbrev Works (req : Bool) : State → State → Prop := ReflTransGen (Work req)

section
variable {req : Bool}

theorem Work.works {s t : State} (h : Work req s t) : Works req s t := .single h

theorem works_tables {s t : State} (same : SameBlocks s t) (place : SamePlace s t) (held : req = false → SameHeld s t)
    (canonical : s.tablesCanonical → t.tablesCanonical) : Works req s t := .single (.tables same place held canonical)

/-- A change of what no table, block or place holds. -/
theorem works_beside {s t : State} (same : SameBlocks s t) (place : SamePlace s t) (held : req = false → SameHeld s t) (hl : t.line = s.line)
    (hs : t.store = s.store) (hc : t.scales = s.scales) (hi : t.inputs = s.inputs) : Works req s t :=
  works_tables same place held fun h => by unfold State.tablesCanonical at *; rwa [hl, hs, hc, hi]

/-- The notices are the part's own. -/
theorem works_updLatched (s : State) (f : Latched → Latched) : Works req s (s.updLatched f) :=
  works_beside ⟨rfl, rfl, rfl, rfl, rfl⟩ ⟨rfl, rfl, rfl, rfl⟩ (fun _ => ⟨rfl, rfl, rfl, rfl, rfl⟩) rfl rfl rfl rfl

theorem works_note {s : State} {c : Chan} {b : Channel} (h : Noted (s.chan c) b) : Works req s (s.setChan c b) :=
  .single (.note c h)

/-- Fields of a channel noted by a function. -/
theorem works_upd {s : State} {c : Chan} {f : Channel → Channel} (h : Noted (s.chan c) (f (s.chan c))) :
    Works req s (s.updChan c f) := works_note h

theorem works_setWork {s : State} {c : Chan} {w : StepWork} (h : (s.chan c).work ≠ .none)
    (hs : standingOf w = standingOf (s.chan c).work) : Works req s (s.setWork c w) := works_upd (noted_work h hs)

theorem works_updRecord (s : State) (c : Chan) (f : Record → Record) : Works req s (s.updRecord c f) :=
  works_upd (noted_of_same rfl rfl rfl rfl rfl rfl rfl rfl rfl)

/-- R35: a change of the generator that keeps acc under the ceiling. -/
theorem works_updProfile {s : State} {c : Chan} {f : Profile → Profile}
    (h : ∀ p : Profile, p.acc ≤ p.ceiling * 256 → (f p).acc ≤ (f p).ceiling * 256) : Works req s (s.updProfile c f) :=
  works_upd ⟨⟨rfl, rfl, fun k => ⟨rfl, k⟩, h _, id⟩, rfl, rfl⟩

/-! ### Steps that are left (R13 to R15) -/

theorem works_completeStep (c : Chan) (s : State) : Works req s (completeStep c s) := (Work.leave _ _ c (by decide)).works

theorem works_divertStep (d : Nat) (c : Chan) (s : State) : Works req s (divertStep d c s) :=
  (Work.leave _ _ c (by decide)).works

theorem works_fault (cause : FaultCause) (c : Chan) (s : State) : Works req s (faultChannel cause c s) :=
  (Work.fault cause c).works

theorem works_failContinue (c : Chan) (s : State) : Works req s (failContinue c s) :=
  (works_updRecord s c _).trans (works_completeStep c _)

theorem works_failStep (st : Step) (cause : FaultCause) (c : Chan) (s : State) : Works req s (failStep st cause c s) := by
  unfold failStep
  split
  · exact works_fault _ _ _
  · exact works_divertStep _ _ _
  · exact works_failContinue _ _

theorem works_appendResult (h : HoldResult) (c : Chan) (s : State) : Works req s (appendResult h c s) :=
  (works_updRecord s c _).trans (works_upd (noted_of_same rfl rfl rfl rfl rfl rfl rfl rfl rfl))

theorem works_removeStale (c : Chan) (s : State) : Works req s (removeCauses FreezeSet.onlyStale c s) :=
  (Work.uncause _ c (by simp [FreezeSet.onlyStale, FreezeSet.empty])).works

end

end Sys2Proof.Machine.Laws
end

section
/-! PROOFS. The operations of the channels, samples and cycle starts as chains of `Work`. -/

namespace Sys2Proof.Machine.Laws

section
variable {req : Bool}

/-! ### Taking up a step (R11, R12, R29) -/

theorem entryProfile_le (store : ProgramStore) (h : Header) (ceiling : Nat) (p : Profile) (b : StepBody)
    (hp : p.acc ≤ p.ceiling * 256) :
    (entryProfile store h ceiling p b).acc ≤ (entryProfile store h ceiling p b).ceiling * 256 := by
  cases b with
  | ramp x => exact load_le _ _ _ _ _
  | payout x => exact load_le _ _ _ _ _
  | hold x => exact engage_le _ _
  | lockoff x => exact engage_le _ _
  | inject _ | check _ | await _ | signal _ | finish => exact hp

/-- R69: a step is entered without a claim. -/
theorem standingOf_entryWork (s : State) (c : Chan) (b : StepBody) : standingOf (entryWork s c b) = .none := by
  cases b <;> rfl

theorem works_enterStep (h : Header) (st : Step) (c : Chan) (s : State) (run : (s.chan c).state = .running)
    (hp : (s.chan c).phase ≠ .active) : Works req s (enterStep h st c s) := by
  have hn : Works req s (enterContext h st c s) := works_upd
    ⟨⟨rfl, rfl, fun k => ⟨by rw [k hp]; exact standingOf_entryWork s c st.body, fun e => absurd rfl e⟩,
      entryProfile_le _ _ _ _ _, id⟩, rfl, rfl⟩
  unfold enterStep
  dsimp only
  split
  · exact hn.trans (Work.cause _ _).works
  · split
    · rename_i hb
      refine hn.trans (Work.claim c (w := ⟨.none, 0, 0, 0, none⟩) ?_ ?_ rfl).works
      · simpa [enterContext] using run
      · simp [enterContext, hb, entryWork]
    all_goals exact hn

/-- R16: a fault keeps the phase and the working fields of its channel but for the claim. -/
theorem faultChannel_phase (cause : FaultCause) (c : Chan) (s : State) :
    ((faultChannel cause c s).chan c).phase = (s.chan c).phase := by
  by_cases h : (s.chan c).state = .running ∨ (s.chan c).state = .frozen
  · rw [(faultChannel_spec cause c s h).1.1.1]
  · rw [faultChannel_ignored cause c s h]

theorem works_failTakeUp (cause : FaultCause) (c : Chan) (s : State) (hp : (s.chan c).phase ≠ .active) :
    Works req s (failTakeUp cause c s) := by
  refine (works_fault cause c s).trans (works_upd ⟨⟨rfl, rfl, fun k => ⟨rfl, fun _ => k ?_⟩, id, id⟩, rfl, rfl⟩)
  rwa [faultChannel_phase]

theorem works_takeUp (c : Chan) (s : State) (run : (s.chan c).state = .running) (hp : (s.chan c).phase ≠ .active) :
    Works req s (takeUp c s) := by
  unfold takeUp
  split
  · exact works_enterStep _ _ _ _ run hp
  · exact works_failTakeUp _ _ _ hp

/-! ### The work of a step at a cycle start -/

theorem works_rampCycle {st : Step} {p : RampStep} {w : RampWork} {c : Chan} {s : State}
    (hw : (s.chan c).work = .ramp w) : Works req s (rampCycle st p w c s) := by
  have hs (x : RampWork) : Works req s (s.setWork c (.ramp x)) := works_setWork (by simp [hw]) (by rw [hw]; rfl)
  unfold rampCycle
  split
  · dsimp only
    split
    · exact (hs _).trans (works_failStep _ _ _ _)
    · exact hs _
  · exact .refl

theorem works_holdDone (st : Step) (p : HoldStep) (w : HoldWork) (c : Chan) (s : State) :
    Works req s (holdDone st p w c s) := by
  unfold holdDone
  dsimp only
  split
  · exact (works_appendResult _ _ _).trans (works_failContinue _ _)
  · split
    · exact (works_appendResult _ _ _).trans (works_failStep _ _ _ _)
    all_goals exact (works_appendResult _ _ _).trans (works_completeStep _ _)

theorem works_holdCycle {st : Step} {p : HoldStep} {w : HoldWork} {c : Chan} {s : State}
    (hw : (s.chan c).work = .hold w) : Works req s (holdCycle st p w c s) := by
  have hs (x : HoldWork) : Works req s (s.setWork c (.hold x)) := works_setWork (by simp [hw]) (by rw [hw]; rfl)
  unfold holdCycle
  dsimp only
  split
  · exact (hs _).trans (works_holdDone _ _ _ _ _)
  · exact hs _

/-- R37: the release segment moves neither acc nor the ceiling. -/
theorem works_release (slope : Nat) (c : Chan) (s : State) : Works req s (s.updProfile c (·.release slope)) :=
  works_updProfile fun _ h => h

theorem takeLockoffLoad_work (w : LockoffWork) (load : Nat) (c : Chan) (s : State) :
    ((takeLockoffLoad w load c s).chan c).work = (s.chan c).work := by
  unfold takeLockoffLoad
  split
  · simp
  · rfl

theorem works_takeLockoffLoad (w : LockoffWork) (load : Nat) (c : Chan) (s : State) :
    Works req s (takeLockoffLoad w load c s) := by
  unfold takeLockoffLoad
  split
  · exact works_updRecord _ _ _
  · exact .refl

theorem works_lockoffCycle {st : Step} {p : LockoffStep} {w : LockoffWork} {c : Chan} {s : State}
    (hw : (s.chan c).work = .lockoff w) : Works req s (lockoffCycle st p w c s) := by
  unfold lockoffCycle
  split
  · exact .refl
  · split
    · exact works_failStep _ _ _ _
    · rename_i load _
      have hl : Works req s _ := works_takeLockoffLoad w load c s
      have hw' := (takeLockoffLoad_work w load c s).trans hw
      have hs (x : LockoffWork) : Works req s ((takeLockoffLoad w load c s).setWork c (.lockoff x)) :=
        hl.trans (works_setWork (by simp [hw']) (by rw [hw']; rfl))
      dsimp only
      split
      · exact (hs _).trans (works_release _ _ _)
      · exact hs _

theorem works_payoutCycle {st : Step} {w : PayoutWork} {c : Chan} {s : State} (hw : (s.chan c).work = .payout w) :
    Works req s (payoutCycle st w c s) := by
  unfold payoutCycle
  split
  · exact .refl
  · split
    · exact works_setWork (by simp [hw]) (by rw [hw]; rfl)
    · exact works_failStep _ _ _ _

theorem works_checkCycle {st : Step} {p : CheckStep} {w : CheckWork} {c : Chan} {s : State}
    (hw : (s.chan c).work = .check w) : Works req s (checkCycle st p w c s) := by
  have hs (x : CheckWork) : Works req s (s.setWork c (.check x)) := works_setWork (by simp [hw]) (by rw [hw]; rfl)
  unfold checkCycle
  dsimp only
  split
  · exact (hs _).trans (works_failStep _ _ _ _)
  · split
    · exact (hs _).trans (works_failStep _ _ _ _)
    · exact (hs _).trans (works_completeStep _ _)

theorem works_consumeSource (x : AwaitSource) (c : Chan) (s : State) : Works req s (consumeSource x c s) := by
  cases x with
  | peer => exact works_upd (f := fun ch => { ch with peer := false }) (noted_of_same rfl rfl rfl rfl rfl rfl rfl rfl rfl)
  | timer | release | wallClear => exact .refl

theorem works_awaitCycle {st : Step} {p : AwaitStep} {w : AwaitWork} {c : Chan} {s : State}
    (hw : (s.chan c).work = .await w) : Works req s (awaitCycle st p w c s) := by
  unfold awaitCycle
  split
  · exact works_setWork (by simp [hw]) (by rw [hw]; rfl)
  · dsimp only
    split
    · exact (works_consumeSource _ _ _).trans (works_divertStep _ _ _)
    · exact (works_consumeSource _ _ _).trans (works_completeStep _ _)

theorem works_signalCycle (target c : Chan) (s : State) : Works req s (signalCycle target c s) :=
  (works_completeStep c s).trans
    (works_upd (c := target) (f := fun ch => { ch with peer := true })
      (noted_of_same rfl rfl rfl rfl rfl rfl rfl rfl rfl))

theorem works_stepCycle (st : Step) {c : Chan} {s : State} (run : (s.chan c).state = .running) :
    Works req s (stepCycle st c s) := by
  unfold stepCycle
  split <;> rename_i hb hw
  · exact works_rampCycle hw
  · exact works_holdCycle hw
  · exact works_lockoffCycle hw
  · exact works_payoutCycle hw
  · exact works_checkCycle hw
  · exact works_awaitCycle hw
  · exact works_signalCycle _ _ _
  · exact (Work.finish _ c (.inl run) (.inr hw)).works
  · exact .refl

theorem works_sequencerCycle (c : Chan) (s : State) : Works req s (sequencerCycle c s) := by
  unfold sequencerCycle
  dsimp only
  split <;> rename_i hs hp
  · exact works_takeUp c s hs (by simp [hp])
  · split
    · exact .refl
    · split
      · exact works_stepCycle _ hs
      · exact .refl
  · exact .refl

/-! ### The other work of a cycle start -/

theorem works_settleRamp (b : ProfileStatus) (c : Chan) (s : State) : Works req s (settleRamp b c s) := by
  unfold settleRamp
  split
  · rename_i hw
    split
    · exact works_upd ⟨⟨rfl, rfl, fun k => ⟨by rw [hw]; rfl, fun hp => by rw [k hp] at hw; cases hw⟩, id, id⟩, rfl, rfl⟩
    · exact .refl
  all_goals exact .refl

/-- R31: taking the staged pace moves neither acc nor the ceiling. -/
theorem takePace_le (p : Profile) (h : p.acc ≤ p.ceiling * 256) : p.takePace.acc ≤ p.takePace.ceiling * 256 := by
  unfold Profile.takePace
  split <;> exact h

theorem works_profileCycle (c : Chan) (s : State) : Works req s (profileCycle c s) := by
  have hp : Works req s (s.updProfile c Profile.takePace) := works_updProfile takePace_le
  unfold profileCycle
  dsimp only
  split
  · exact (hp.trans (works_updProfile fun p => advance_le _ _ p)).trans (works_settleRamp _ _ _)
  · exact hp

theorem works_echoCycle (c : Chan) (s : State) : Works req s (echoCycle c s) := by
  unfold echoCycle
  split
  · exact works_fault _ _ _
  · exact .refl

theorem works_staleCycle (c : Chan) (s : State) : Works req s (staleCycle c s) := by
  unfold staleCycle
  split
  · exact (Work.cause _ _).works
  · exact .refl

theorem works_wallStaleCycle (w : Point) (s : State) : Works req s (wallStaleCycle w s) := by
  unfold wallStaleCycle
  split
  · rename_i h
    obtain ⟨⟨on, clear⟩, -⟩ : ((s.wall w).config.enable = true ∧ (s.wall w).latch = false) ∧ _ := by
      simpa [State.pointStale] using h
    exact (Work.wall w (x := { s.wall w with state := .stale }) (fun _ => ⟨by simp [clear], by simp [on]⟩) fun _ => rfl).works
  · exact .refl

theorem works_ageRecords (s : State) : Works req s (ageRecords s) := by
  refine works_tables ⟨rfl, rfl, rfl, rfl, rfl⟩ ⟨rfl, rfl, rfl, rfl⟩ (fun _ => ⟨rfl, rfl, rfl, rfl, rfl⟩) ?_
  rintro ⟨h1, h2, h3, h4, h5, h6, h7, h8, h9, h10, h11, h12⟩
  refine ⟨h1, h2, h3, h4, h5, h6, h7, h8, h9, h10, h11, ?_⟩
  exact sparse_map_wf none s.inputs _ h12 fun v hv => by cases v <;> simp_all

/-- R135: a record written keeps the canonical form. -/
theorem works_setInput (s : State) (x : Target) (r : InputRecord) : Works req s (s.setInput x r) := by
  refine works_tables ⟨rfl, rfl, rfl, rfl, rfl⟩ ⟨rfl, rfl, rfl, rfl⟩ (fun _ => ⟨rfl, rfl, rfl, rfl, rfl⟩) ?_
  rintro ⟨h1, h2, h3, h4, h5, h6, h7, h8, h9, h10, h11, h12⟩
  refine ⟨h1, h2, h3, h4, h5, h6, h7, h8, h9, h10, h11, ?_⟩
  exact sparse_set_wf none s.inputs x.code (some r) h12

theorem works_foldl {α : Type} (f : State → α → State) (hf : ∀ s a, Works req s (f s a)) :
    ∀ (l : List α) (s : State), Works req s (l.foldl f s)
  | [], _ => .refl
  | a :: l, s => (hf s a).trans (works_foldl f hf l _)

theorem works_createRecords (s : State) : Works req s (createRecords s) := by
  refine works_foldl _ (fun s e => ?_) _ _
  split
  · unfold createRecord
    split
    · exact works_setInput _ _ _
    · exact .refl
  all_goals exact .refl

theorem works_mapSwapCycle (s : State) : Works req s (mapSwapCycle s) := by
  unfold mapSwapCycle
  split
  · have hs : Works req s (s.updLine fun l => { l with active := l.shadow, shadow := l.active, swapPending := false }) := by
      refine works_tables ⟨rfl, rfl, rfl, rfl, rfl⟩ ⟨rfl, rfl, rfl, rfl⟩ (fun _ => ⟨rfl, rfl, rfl, rfl, rfl⟩) ?_
      rintro ⟨h1, h2, h⟩
      exact ⟨h2, h1, h⟩
    exact hs.trans (works_createRecords _)
  · exact .refl

theorem works_listSwapCycle (s : State) : Works req s (listSwapCycle s) := by
  unfold listSwapCycle
  split
  · exact works_beside ⟨rfl, rfl, rfl, rfl, rfl⟩ ⟨rfl, rfl, rfl, rfl⟩ (fun _ => ⟨rfl, rfl, rfl, rfl, rfl⟩) rfl rfl rfl rfl
  · exact .refl

/-- R154: each piece of the work of a cycle start, but for the device reset of a RESET_PART. -/
theorem works_performWork {w : CycleWork} (h : w ≠ .deviceReset) (s : State) : Works req s (performWork w s) := by
  cases w with
  | ageing => exact works_ageRecords s
  | mapSwap => exact works_mapSwapCycle s
  | listSwap => exact works_listSwapCycle s
  | wallStale p => exact works_wallStaleCycle p s
  | inputStale c => exact works_staleCycle c s
  | profile c => exact works_profileCycle c s
  | echo c => exact works_echoCycle c s
  | sequencer c => exact works_sequencerCycle c s
  | arbiter p => exact (Work.arbiter p).works
  | deviceReset => exact absurd rfl h

/-! ### Samples (R132, R136) -/

theorem works_overloadCheck (c : Chan) (v : Nat) (s : State) : Works req s (overloadCheck c v s) := by
  have hj : Works req s (s.updJack c fun j => { j with overloads := overloadCount (s.chan c) v }) :=
    works_upd (noted_of_same rfl rfl rfl rfl rfl rfl rfl rfl rfl)
  unfold overloadCheck
  dsimp only
  split
  · exact .refl
  · split
    · exact hj.trans (works_fault _ _ _)
    · exact hj

/-- R55: the RAMP that settles is the one worked. -/
theorem settling_work {s : State} {c : Chan} {p : RampStep} {w : RampWork} (h : s.settling c = some (p, w)) :
    (s.chan c).work = .ramp w := by
  unfold State.settling at h
  split at h
  · rename_i hw
    split at h
    · simp only [Option.some.injEq, Prod.mk.injEq] at h; rw [hw, h.2]
    · cases h
  · cases h

theorem works_settleTest (c : Chan) (v : Nat) (s : State) : Works req s (settleTest c v s) := by
  unfold settleTest
  split
  · rename_i p w h
    have hw := settling_work h
    have hs (x : RampWork) : Works req s (s.setWork c (.ramp x)) := works_setWork (by simp [hw]) (by rw [hw]; rfl)
    dsimp only
    split
    · exact (hs _).trans (works_completeStep _ _)
    · exact hs _
  · exact .refl

theorem works_driftTest (c : Chan) (v : Nat) (s : State) : Works req s (driftTest c v s) := by
  unfold driftTest
  split
  · rename_i w _ _ hw
    split
    · split
      · exact .refl
      · split
        · exact works_fault _ _ _
        · exact (works_appendResult _ _ _).trans (works_divertStep _ _ _)
        · exact works_setWork (by simp [hw]) (by rw [hw]; rfl)
    all_goals exact .refl
  · exact .refl

theorem works_lockoffTest (c : Chan) (v : Nat) (s : State) : Works req s (lockoffTest c v s) := by
  unfold lockoffTest
  split
  · split
    · split
      · dsimp only
        split
        · exact (works_updRecord _ _ _).trans (works_failStep _ _ _ _)
        · exact (works_updRecord _ _ _).trans (works_completeStep _ _)
      · exact .refl
    all_goals exact .refl
  · exact .refl

/-- R71 to R74: the INJECT that a sample reaches is the one worked. -/
theorem injecting_work {s : State} {c : Chan} {st : Step} {p : InjectStep} {w : InjectWork}
    (h : s.injecting c = some (st, p, w)) : (s.chan c).work = .inject w := by
  unfold State.injecting at h
  split at h
  · rename_i hw
    simp only [Option.some.injEq, Prod.mk.injEq] at h; rw [hw, h.2.2]
  · cases h

/-- Fields of an INJECT other than its claim standing. -/
theorem works_setInject {s : State} {c : Chan} {w x : InjectWork} (hw : (s.chan c).work = .inject w)
    (hx : x.standing = w.standing) : Works req s (s.setWork c (.inject x)) :=
  works_setWork (by simp [hw]) (by rw [hw]; exact hx)

theorem works_volumeCount (c : Chan) (v : Nat) (s : State) : Works req s (volumeCount c v s) := by
  unfold volumeCount
  split
  · rename_i h
    have hw := injecting_work h
    dsimp only
    split
    · exact Relation.ReflTransGen.trans (works_setInject hw (by rfl)) (works_completeStep _ _)
    · exact works_setInject hw rfl
  · exact .refl

theorem refusing_work {s : State} {c : Chan} {st : Step} {p : InjectStep} {w : InjectWork}
    (h : s.refusing c = some (st, p, w)) : (s.chan c).work = .inject w := by
  unfold State.refusing at h
  split at h
  · rename_i hi
    split at h
    · simp only [Option.some.injEq, Prod.mk.injEq] at h
      rw [injecting_work hi, h.2.2]
    · cases h
  · cases h

theorem works_refusalTest (c : Chan) (v : Nat) (s : State) : Works req s (refusalTest c v s) := by
  unfold refusalTest refuseStep
  split
  · rename_i h
    have hw := refusing_work h
    split
    · dsimp only
      split
      · exact Relation.ReflTransGen.trans (works_setInject hw (by rfl)) (works_completeStep _ _)
      · exact Relation.ReflTransGen.trans (works_setInject hw (by rfl)) (works_failStep _ _ _ _)
    · exact works_setInject hw rfl
  · exact .refl

theorem pressureChecked_work {s : State} {c : Chan} {p : InjectStep} {w : InjectWork}
    (h : s.pressureChecked c = some (p, w)) : (s.chan c).work = .inject w := by
  unfold State.pressureChecked at h
  split at h
  · obtain ⟨⟨st, p', w'⟩, hi, he⟩ := Option.map_eq_some_iff.mp h
    simp only [Prod.mk.injEq] at he
    rw [injecting_work hi, he.2]
  · cases h

theorem works_overpressureCheck (c : Chan) (v : Nat) (s : State) : Works req s (overpressureCheck c v s) := by
  unfold overpressureCheck
  split
  · rename_i h
    have hw := pressureChecked_work h
    dsimp only
    split
    · exact Relation.ReflTransGen.trans (works_setInject hw (by rfl)) (works_fault _ _ _)
    · exact works_setInject hw rfl
  · exact .refl

theorem works_payoutProgress (c : Chan) (v : Nat) (s : State) : Works req s (payoutProgress c v s) := by
  unfold payoutProgress
  split
  · rename_i w _ _ hw
    have hs (x : PayoutWork) : Works req s (s.setWork c (.payout x)) := works_setWork (by simp [hw]) (by rw [hw]; rfl)
    split
    · dsimp only
      split
      · exact (hs _).trans (works_completeStep _ _)
      · exact hs _
    · exact .refl
  · exact .refl

theorem tensionChecked_work {s : State} {c : Chan} {w : PayoutWork} (h : s.tensionChecked c = some w) :
    (s.chan c).work = .payout w := by
  unfold State.tensionChecked at h
  split at h <;> simp_all

theorem works_tensionCheck (c : Chan) (v : Nat) (s : State) : Works req s (tensionCheck c v s) := by
  unfold tensionCheck
  split
  · rename_i w h
    have hw := tensionChecked_work h
    have hs (x : PayoutWork) : Works req s (s.setWork c (.payout x)) := works_setWork (by simp [hw]) (by rw [hw]; rfl)
    dsimp only
    split
    · exact (hs _).trans (works_fault _ _ _)
    · exact hs _
  · exact .refl

theorem works_of_mem_readers {c : Chan} {v : Nat} {m : Measurand} {f : State → State} (h : f ∈ readers c v m)
    (s : State) : Works req s (f s) := by
  cases m with
  | jackLoad =>
    simp only [readers, List.mem_cons, List.not_mem_nil, or_false] at h
    rcases h with rfl | rfl | rfl | rfl | rfl
    · exact works_updRecord _ _ _
    · exact works_overloadCheck _ _ _
    · exact works_settleTest _ _ _
    · exact works_driftTest _ _ _
    · exact works_lockoffTest _ _ _
  | groutFlow =>
    simp only [readers, List.mem_cons, List.not_mem_nil, or_false] at h
    rcases h with rfl | rfl
    · exact works_volumeCount _ _ _
    · exact works_refusalTest _ _ _
  | groutPressure => rw [List.mem_singleton.mp h]; exact works_overpressureCheck _ _ _
  | winchPayout => rw [List.mem_singleton.mp h]; exact works_payoutProgress _ _ _
  | winchTension => rw [List.mem_singleton.mp h]; exact works_tensionCheck _ _ _
  | anchorLoad | jackStroke | jackEcho | winchEcho => cases h

/-- R136: the readers of a sample, one after another. -/
theorem works_readers : ∀ (l : List (State → State)) (s : State), (∀ f ∈ l, ∀ u, Works req u (f u)) →
    Works req s (l.foldl (fun s f => f s) s)
  | [], _, _ => .refl
  | f :: l, s, h => (h f (by simp) s).trans (works_readers l _ fun g hg => h g (by simp [hg]))

/-- R116: a classification by a value keeps STOP with the latch. -/
theorem pointOk_classified (v : Int) {x : WallPoint} (h : x.config.enable = false → PointOk x) :
    PointOk (x.classified v) := by
  unfold WallPoint.classified
  split <;> rename_i on
  · refine ⟨?_, by simp [on]⟩
    dsimp only
    unfold classify
    split_ifs <;> simp
  · exact h (by simpa using on)

/-- R142: SAMPLE_STALE goes once every required input is available. -/
theorem works_thaw (c : Chan) (s : State) : Works req s (removeStale c s) := by
  unfold removeStale
  split
  · split
    · exact works_removeStale _ _
    · exact .refl
  · exact .refl

theorem works_handSample (x : Target) (r : InputRecord) (s : State) : Works true s (handSample x r s) := by
  cases x with
  | chan c m =>
    have hr : Works true s _ := works_readers (readers c r.value.toNat m) s fun f hf u => works_of_mem_readers hf u
    exact hr.trans (works_thaw c _)
  | pumpEcho p => exact .refl
  | wallMove w => exact (Work.wall (req := true) w (fun h => pointOk_classified _ fun _ => h) nofun).works

theorem works_takeSample (x : Target) (k : Nat) (slot : Slot) (s : State) : Works true s (takeSample x k slot s) := by
  unfold takeSample
  split
  · exact .refl
  · exact (works_setInput _ _ _).trans (works_handSample _ _ _)

end

end Sys2Proof.Machine.Laws
end

section
/-! PROOFS. What the blocks answer to requests, as chains of `Work`. -/

namespace Sys2Proof.Machine.Laws

open Relation (ReflTransGen)

/-- What a block does for a request is work of the blocks, whatever its payload. -/
def Acts (act : List Byte → State → Answer) : Prop := ∀ bs s, Works true s (act bs s).state

theorem works_accept {s t : State} (fs : List Field) (h : Works true s t) : Works true s (accept fs t).state := h

/-! ### Loads and reads -/

theorem works_updStore (s : State) (f : ProgramStore → ProgramStore)
    (h : s.tablesCanonical → (s.updStore f).tablesCanonical) : Works true s (s.updStore f) :=
  works_tables ⟨rfl, rfl, rfl, rfl, rfl⟩ ⟨rfl, rfl, rfl, rfl⟩ nofun h

theorem works_loadStore {α : Type} {t : Table} {v : Option (Option α)}
    {write : Nat → Option α → ProgramStore → ProgramStore} (bs : List Byte) (s : State)
    (h : ∀ i e, s.tablesCanonical → (s.updStore (write i e)).tablesCanonical) : Works true s (loadStore t v write bs s).state := by
  unfold loadStore
  dsimp only
  split
  · exact .refl
  · split
    · exact .refl
    · split
      · exact .refl
      · exact works_updStore s _ (h _ _)

theorem acts_loadHeader : Acts loadHeader := fun bs s => works_loadStore bs s fun i e => by
  rintro ⟨h1, h2, h3, h⟩
  exact ⟨h1, h2, sparse_set_wf none s.store.headers i e h3, h⟩

theorem acts_loadStep : Acts loadStep := fun bs s => works_loadStore bs s fun i e => by
  rintro ⟨h1, h2, h3, h4, h⟩
  exact ⟨h1, h2, h3, sparse_set_wf none s.store.steps i e h4, h⟩

theorem acts_loadSegment : Acts loadSegment := fun bs s => works_loadStore bs s fun i e => by
  rintro ⟨h1, h2, h3, h4, h5, h⟩
  exact ⟨h1, h2, h3, h4, sparse_set_wf none s.store.segments i e h5, h⟩

theorem acts_loadMarkSet : Acts loadMarkSet := fun bs s => works_loadStore bs s fun i e => by
  rintro ⟨h1, h2, h3, h4, h5, h6, h⟩
  exact ⟨h1, h2, h3, h4, h5, sparse_set_wf none s.store.markSets i e h6, h⟩

theorem acts_loadScale : Acts loadScale := by
  intro bs s
  unfold loadScale
  dsimp only
  split
  · exact .refl
  · split
    · exact .refl
    · refine works_tables ⟨rfl, rfl, rfl, rfl, rfl⟩ ⟨rfl, rfl, rfl, rfl⟩ nofun ?_
      rintro ⟨h1, h2, h3, h4, h5, h6, h7, h8, h9, h10, h11, h12⟩
      exact ⟨h1, h2, h3, h4, h5, h6, h7, h8, h9, h10, sparse_set_wf none s.scales _ _ h11, h12⟩

theorem acts_loadChannelConfig : Acts loadChannelConfig := by
  intro bs s
  unfold loadChannelConfig
  split
  · exact .refl
  · split
    · exact .refl
    · split
      · exact .refl
      · rename_i hi _ _ _
        exact (Work.configure _ _ (by simpa using hi) rfl).works

/-- R118: a loaded point is STOP exactly with its latch, and NORMAL when it is disabled. -/
theorem pointOk_loadedPoint (s : State) (w : Point) (k : WallConfig) : PointOk (loadedPoint s w k) := by
  unfold loadedPoint
  split
  · rename_i on
    split
    · exact ⟨by simp, by simp [on]⟩
    · exact pointOk_classified _ fun _ => ⟨by simp, by simp⟩
  · exact ⟨by simp, by simp⟩

theorem acts_loadWallPoint : Acts loadWallPoint := by
  intro bs s
  unfold loadWallPoint
  split
  · exact .refl
  · split
    · exact .refl
    · split
      · exact .refl
      · exact (Work.wall (req := true) _ (fun _ => pointOk_loadedPoint _ _ _) nofun).works

theorem acts_loadSlotMap : Acts loadSlotMap := by
  intro bs s
  unfold loadSlotMap
  dsimp only
  split
  · exact .refl
  · split
    · exact .refl
    · split
      · exact .refl
      · refine works_tables ⟨rfl, rfl, rfl, rfl, rfl⟩ ⟨rfl, rfl, rfl, rfl⟩ nofun ?_
        rintro ⟨h1, h2, h⟩
        exact ⟨h1, sparse_set_wf .pass s.line.shadow _ _ h2, h⟩

theorem works_updReports (s : State) (f : Composer → Composer) : Works true s (s.updReports f) :=
  works_beside ⟨rfl, rfl, rfl, rfl, rfl⟩ ⟨rfl, rfl, rfl, rfl⟩ nofun rfl rfl rfl rfl

theorem acts_loadReportList : Acts loadReportList := by
  intro bs s
  unfold loadReportList
  dsimp only
  split
  · exact .refl
  · split
    · exact .refl
    · split
      · exact .refl
      · exact works_accept _ (works_updReports _ _)

theorem acts_loadPartConfig : Acts loadPartConfig := by
  intro bs s
  unfold loadPartConfig
  split
  · exact .refl
  · split
    · exact .refl
    · dsimp only
      split
      · exact .refl
      · exact works_beside ⟨rfl, rfl, rfl, rfl, rfl⟩ ⟨rfl, rfl, rfl, rfl⟩ nofun rfl rfl rfl rfl

theorem acts_loadRequest : Acts loadRequest := by
  intro bs s
  unfold loadRequest
  split
  · exact .refl
  · exact acts_loadHeader bs s
  · exact acts_loadStep bs s
  · exact acts_loadSegment bs s
  · exact acts_loadMarkSet bs s
  · exact acts_loadScale bs s
  · exact acts_loadChannelConfig bs s
  · exact acts_loadWallPoint bs s
  · exact acts_loadSlotMap bs s
  · exact acts_loadReportList bs s
  · exact acts_loadPartConfig bs s

theorem readPart_state (part : Option (List Field)) (s : State) : (readPart part s).state = s := by
  cases part <;> rfl

/-- R172: nothing changes. -/
theorem readEntry_state (bs : List Byte) (s : State) : (readEntry bs s).state = s := by
  unfold readEntry
  dsimp only
  repeat' split
  all_goals rfl

theorem readRecord_state (bs : List Byte) (s : State) : (readRecord bs s).state = s := by
  unfold readRecord onOldest
  split
  · rfl
  · exact readPart_state _ _

/-- A request that changes nothing. -/
theorem acts_of_state {act : List Byte → State → Answer} (h : ∀ bs s, (act bs s).state = s) : Acts act :=
  fun bs s => by rw [h]

/-! ### Flags of the part -/

theorem works_setMapSwap (s : State) : Works true s (setMapSwap s) :=
  works_tables ⟨rfl, rfl, rfl, rfl, rfl⟩ ⟨rfl, rfl, rfl, rfl⟩ nofun id

theorem acts_swapBanks {set : State → State} (h : ∀ s, Works true s (set s)) : Acts (swapBanks set) := by
  intro bs s
  unfold swapBanks
  split
  · exact .refl
  · exact h s

theorem acts_swapMap : Acts (swapBanks setMapSwap) := acts_swapBanks works_setMapSwap

theorem works_setListSwap (s : State) : Works true s (setListSwap s) := works_updReports s _

theorem acts_swapList : Acts (swapBanks setListSwap) := acts_swapBanks works_setListSwap

theorem acts_swapBoth : Acts (swapBanks setBothSwaps) :=
  acts_swapBanks fun s => (works_setMapSwap s).trans (works_setListSwap _)

theorem acts_swapRequest : Acts swapRequest := by
  intro bs s
  unfold swapRequest
  split
  · exact .refl
  · exact acts_swapMap bs s
  · exact acts_swapList bs s
  · exact acts_swapBoth bs s

theorem works_clearNotices (named : NoticeSet) (s : State) : Works true s (clearNotices named s) := works_updLatched s _

theorem works_latchGarbled (s : State) : Works true s s.latchGarbled := works_updLatched s _

theorem acts_noticesRequest : Acts noticesRequest := by
  intro bs s
  unfold noticesRequest
  split
  · exact .refl
  · exact works_clearNotices _ s

theorem acts_resetRequest : Acts resetRequest := fun _ _ =>
  works_beside ⟨rfl, rfl, rfl, rfl, rfl⟩ ⟨rfl, rfl, rfl, rfl⟩ nofun rfl rfl rfl rfl

/-! ### Programs -/

/-- R5: lock counts changed at a list of entries stay in canonical form. -/
theorem changeLocks_wf (f : Nat → Nat) : ∀ (is : List Nat) (t : SparseTable Nat), Sparse.wf 0 t →
    Sparse.wf 0 (changeLocks f is t)
  | [], _, h => h
  | i :: is, t, h => changeLocks_wf f is _ (sparse_set_wf 0 t i _ h)

/-- R5: a lock set counted keeps the canonical form of the tables. -/
theorem tablesCanonical_changeLockSet (f : Nat → Nat) (i : Nat) {s : State} (h : s.tablesCanonical) :
    (s.updStore (·.changeLockSet f i)).tablesCanonical := by
  obtain ⟨h1, h2, h3, h4, h5, h6, h7, h8, h9, h10, h11, h12⟩ := h
  unfold ProgramStore.changeLockSet
  cases hh : s.store.header i with
  | none => simp only [State.tablesCanonical, State.updStore, hh]; exact ⟨h1, h2, h3, h4, h5, h6, h7, h8, h9, h10, h11, h12⟩
  | some h =>
    simp only [State.tablesCanonical, State.updStore, hh]
    exact ⟨h1, h2, h3, h4, h5, h6, changeLocks_wf _ _ _ h7, changeLocks_wf _ _ _ h8, changeLocks_wf _ _ _ h9,
      changeLocks_wf _ _ _ h10, h11, h12⟩

theorem works_lockProgram (i : Nat) (s : State) : Works true s (s.lockProgram i) :=
  works_updStore s _ (tablesCanonical_changeLockSet _ i)

theorem works_unlockProgram (i : Nat) (s : State) : Works true s (s.unlockProgram i) :=
  works_updStore s _ (tablesCanonical_changeLockSet _ i)

theorem works_discardPending (c : Chan) (s : State) : Works true s (discardPending c s) := by
  unfold discardPending
  split
  · exact (works_unlockProgram _ _).trans (works_upd (noted_of_same rfl rfl rfl rfl rfl rfl rfl rfl rfl))
  · exact .refl

/-- A request on a channel above 7 changes nothing. -/
theorem acts_onChannel {act : Chan → List Byte → State → Answer} (h : ∀ c, Acts (act c)) : Acts (onChannel act) := by
  intro bs s
  unfold onChannel
  split
  · exact .refl
  · exact h _ bs s

theorem works_placePending (i : Nat) (c : Chan) (s : State) : Works true s (placePending i c s) :=
  (works_lockProgram i s).trans
    (works_upd (f := fun ch => { ch with pendingProgram := some i })
      (noted_of_same rfl rfl rfl rfl rfl rfl rfl rfl rfl))

theorem acts_startRequest (c : Chan) : Acts (startRequest c) := by
  intro bs s
  unfold startRequest
  dsimp only
  split
  · exact .refl
  · split
    · exact .refl
    · split
      · exact .refl
      · split
        · rename_i hi
          have hl : ((s.lockProgram (natAt bs 1 1)).chan c).state = .idle := by
            simpa [State.lockProgram] using hi
          exact (works_lockProgram _ s).trans (Work.start _ c hl).works
        · exact works_placePending _ c s

/-- R13: after the current step has been left no step is ACTIVE. -/
theorem leaveForEnd_phase (c : Chan) (s : State) : ((leaveForEnd c s).chan c).phase ≠ .active := by
  unfold leaveForEnd
  split
  · rw [(leaveStep_spec _ _ _ _).1]; simp [leftWith]
  · assumption

theorem works_leaveForEnd (c : Chan) (s : State) : Works true s (leaveForEnd c s) := by
  unfold leaveForEnd
  split
  · exact (Work.leave _ _ c (by decide)).works
  · exact .refl

theorem discardPending_keeps (c : Chan) (s : State) :
    ((discardPending c s).chan c).state = (s.chan c).state ∧ ((discardPending c s).chan c).phase = (s.chan c).phase := by
  unfold discardPending
  split
  · exact ⟨by simp [State.unlockProgram], by simp [State.unlockProgram]⟩
  · exact ⟨rfl, rfl⟩

/-- R13, R17: a channel that leaves its step goes on from the state it was in, or from FROZEN to RUNNING. -/
theorem leaveForEnd_state (c : Chan) (s : State) :
    ((leaveForEnd c s).chan c).state = (s.chan c).state ∨
      (s.chan c).state = .frozen ∧ ((leaveForEnd c s).chan c).state = .running := by
  unfold leaveForEnd
  split
  · rw [(leaveStep_spec _ _ _ _).1]
    dsimp only [leftWith]
    split
    · rename_i h; exact .inr ⟨h.1, rfl⟩
    · exact .inl rfl
  · exact .inl rfl

theorem works_endLive (o : RunOutcome) (c : Chan) (s : State)
    (live : (s.chan c).state = .running ∨ (s.chan c).state = .frozen ∨ (s.chan c).state = .faulted) :
    Works true s (endProgram o c (discardPending c (leaveForEnd c s))) := by
  obtain ⟨hs, hp⟩ := discardPending_keeps c (leaveForEnd c s)
  refine ((works_leaveForEnd c s).trans (works_discardPending c _)).trans (Work.finish o c ?_ (.inl ?_)).works
  · rw [hs]
    rcases leaveForEnd_state c s with h | ⟨-, h⟩
    · rwa [h]
    · exact .inl h
  · rw [hp]; exact leaveForEnd_phase c s

theorem works_abortProgram (c : Chan) (s : State) : Works true s (abortProgram c s) := by
  unfold abortProgram
  split <;> rename_i h
  · exact .refl
  · exact works_endLive _ c s (.inl h)
  · exact works_endLive _ c s (.inr (.inl h))
  · exact works_endLive _ c s (.inr (.inr h))
  · exact works_discardPending c s

theorem acts_abortRequest (c : Chan) : Acts (abortRequest c) := by
  intro bs s
  unfold abortRequest
  split
  · exact .refl
  · exact works_abortProgram c s

theorem works_skipLive (c : Chan) (s : State) : Works true s (skipLive c s) := by
  unfold skipLive
  split
  · exact works_completeStep c s
  · exact works_upd (noted_of_same rfl rfl rfl rfl rfl rfl rfl rfl rfl)

/-- R22: the fault cleared of a channel in no ACTIVE step. -/
theorem works_unfault {c : Chan} {s : State} (i : Nat) (hf : (s.chan c).state = .faulted)
    (hp : (s.chan c).phase ≠ .active) :
    Works true s (s.updChan c fun ch =>
      { ch with
        fault := none, record := ch.record.map Record.countOverride, index := i, phase := .takeUp
        state := if ch.freeze.isEmpty then .running else .frozen }) := by
  refine Work.works (Work.unfault c hf ⟨rfl, rfl, fun k => ⟨rfl, fun _ => k hp⟩, id, fun h => ?_⟩ rfl rfl)
  obtain ⟨h1, h2, h3, h4, -⟩ := h
  refine ⟨h1, h2, h3, h4, fun e => ?_⟩
  dsimp only at e
  split at e <;> cases e

theorem works_skipFaulted {c : Chan} {s : State} (hf : (s.chan c).state = .faulted) : Works true s (skipFaulted c s) := by
  unfold skipFaulted
  dsimp only
  split <;> rename_i hp
  · have hl := (leaveStep_spec .takeUp (nextIndex (s.chan c).index) c s).1
    refine ReflTransGen.trans (Work.leave _ _ c (by decide)).works (works_unfault _ ?_ ?_)
    · rw [hl]; simp [leftWith, hf]
    · rw [hl]; simp [leftWith]
  · exact works_unfault _ hf hp

theorem works_skipStep (c : Chan) (s : State) : Works true s (skipStep c s) := by
  unfold skipStep
  split <;> rename_i h
  · exact works_skipLive c s
  · exact works_skipLive c s
  · exact works_skipFaulted h
  · exact .refl
  · exact .refl

theorem acts_skipRequest (c : Chan) : Acts (skipRequest c) := by
  intro bs s
  unfold skipRequest
  split
  · exact .refl
  · exact works_skipStep c s

/-! ### Freezing -/

theorem works_freezeTaken (s : State) : Works true s s.freezeTaken :=
  works_beside ⟨rfl, rfl, rfl, rfl, rfl⟩ ⟨rfl, rfl, rfl, rfl⟩ nofun rfl rfl rfl rfl

theorem works_addCauseToAll (k : FreezeCause) (s : State) : Works true s (addCauseToAll k s) :=
  (works_freezeTaken s).trans (works_foldl (req := true) _ (fun _ c => (Work.cause k c).works) _ _)

theorem acts_freezeRequest : Acts freezeRequest := fun _ s =>
  (works_freezeTaken s).trans (works_foldl (req := true) _ (fun _ c => (Work.cause _ c).works) _ _)

/-- R125: WALL_STOP is removable only while no point is STOP. -/
theorem wallState_of_not_anyStop {s : State} (h : s.anyStop = false) : s.wallState ≠ .stop := by
  intro hs
  obtain ⟨w, -, hw⟩ := (wallState_eq_stop_iff s).mp hs
  have : s.anyStop = true := List.any_eq_true.mpr ⟨w, mem_allPoints w, by simpa using hw⟩
  simp [h] at this

theorem wallState_congr {s t : State} (h : t.walls = s.walls) : t.wallState = s.wallState := by
  cases s; cases t; cases h; rfl

/-- R125: the channels of a set resumed one after another; the wall points stand meanwhile. -/
theorem works_resumeChannels (set : Nat) (s : State) : Works true s (resumeChannels set s) := by
  have run : ∀ (l : List Chan) (u : State), u.walls = s.walls → Works true u (l.foldl (fun s' c =>
      if (s'.chan c).state = .idle then s' else removeCauses (removableCauses s) c s') u) := by
    intro l
    induction l with
    | nil => exact fun _ _ => .refl
    | cons c l ih =>
      intro u hu
      rw [List.foldl_cons]
      split
      · exact ih u hu
      · have hk := (removeCauses_spec (removableCauses s) c u).2.1
        refine ReflTransGen.trans (Work.uncause _ c fun h => ?_).works (ih _ (hk.2.2.2.2.1.trans hu))
        rw [wallState_congr hu]
        exact wallState_of_not_anyStop (by simpa [removableCauses] using h)
  exact run _ s rfl

theorem acts_resumeRequest : Acts resumeRequest := fun _ s => works_resumeChannels _ s

/-! ### RELEASE, RETARGET and SET_PACE -/

theorem releasable_work {s : State} {c : Chan} {w : AwaitWork} (h : s.releasable c = some w) :
    (s.chan c).work = .await w := by
  unfold State.releasable at h
  split at h
  · rename_i hw
    split at h
    · simp only [Option.some.injEq] at h; rw [hw, h]
    · cases h
  · cases h

theorem acts_releaseRequest (c : Chan) : Acts (releaseRequest c) := by
  intro bs s
  unfold releaseRequest
  split
  · rename_i h
    have hw := releasable_work h
    exact works_setWork (by simp [hw]) (by rw [hw]; rfl)
  · exact .refl

theorem works_restartRamp (c : Chan) (s : State) : Works true s (restartRamp c s) := by
  unfold restartRamp
  split
  · rename_i hw
    exact works_setWork (by simp [hw]) (by rw [hw]; rfl)
  all_goals exact .refl

theorem works_retarget {act : Segment → Profile → Profile}
    (h : ∀ g (p : Profile), (act g p).acc = p.acc ∧ (act g p).ceiling = p.ceiling) (g : Segment) (c : Chan) (s : State) :
    Works true s (retarget act g c s) := by
  have hp : Works true s (s.updProfile c (act g)) := works_updProfile fun p k => by rw [(h g p).1, (h g p).2]; exact k
  unfold retarget
  split
  · exact hp.trans (works_restartRamp _ _)
  · exact hp

theorem acts_retargetRequest {act : Segment → Profile → Profile}
    (h : ∀ g (p : Profile), (act g p).acc = p.acc ∧ (act g p).ceiling = p.ceiling) (c : Chan) :
    Acts (retargetRequest act c) := by
  intro bs s
  unfold retargetRequest
  split
  · exact .refl
  · split
    · exact .refl
    · split
      · exact works_retarget h _ _ _
      · exact .refl

theorem retargetAtEnd_keeps (g : Segment) (p : Profile) :
    (p.retargetAtEnd g).acc = p.acc ∧ (p.retargetAtEnd g).ceiling = p.ceiling := by
  unfold Profile.retargetAtEnd; split <;> exact ⟨rfl, rfl⟩

theorem retargetNow_keeps (g : Segment) (p : Profile) :
    (p.retargetNow g).acc = p.acc ∧ (p.retargetNow g).ceiling = p.ceiling := by
  unfold Profile.retargetNow; split <;> exact ⟨rfl, rfl⟩

theorem acts_retargetAtEnd (c : Chan) : Acts (retargetRequest Profile.retargetAtEnd c) :=
  acts_retargetRequest retargetAtEnd_keeps c

theorem acts_retargetNow (c : Chan) : Acts (retargetRequest Profile.retargetNow c) :=
  acts_retargetRequest retargetNow_keeps c

theorem acts_timedRetarget (c : Chan) : Acts (timedRetarget c) := by
  intro bs s
  unfold timedRetarget
  split
  · exact .refl
  · exact acts_retargetAtEnd c bs s
  · exact acts_retargetNow c bs s

theorem acts_paceRequest (c : Chan) : Acts (paceRequest c) := by
  intro bs s
  unfold paceRequest
  split
  · exact .refl
  · exact works_accept _ (works_updProfile fun _ h => h)

/-! ### Records and wall points -/

theorem acts_takeRecord : Acts takeRecord := by
  intro bs s
  unfold takeRecord onOldest
  split
  · exact .refl
  · exact Work.free.works

theorem acts_onPoint {act : Point → State → Answer} (h : ∀ p s, Works true s (act p s).state) : Acts (onPoint act) := by
  intro bs s
  unfold onPoint
  split
  · exact .refl
  · exact h _ s

/-- R120: a new baseline and the classification after it. -/
theorem pointOk_rebased {x : WallPoint} (v : Int) (h : PointOk x) : PointOk (x.rebased v) :=
  pointOk_classified v fun _ => ⟨h.1, h.2⟩

theorem acts_baselineRequest : Acts (onPoint baselineRequest) := acts_onPoint fun p s => by
  unfold baselineRequest
  split
  · exact .refl
  · split
    · exact .refl
    · exact works_accept _ (Work.wall (req := true) p (pointOk_rebased _) nofun).works

/-- R121: a cleared point is not STOP, and it was not disabled. -/
theorem pointOk_cleared {x : WallPoint} (d : Nat) (latched : x.latch = true) (h : PointOk x) : PointOk (x.cleared d) := by
  refine ⟨?_, fun off => ?_⟩
  · simp [WallPoint.cleared, warnOrNormal_ne_stop]
  · have := h.2 off
    rw [h.1.mp latched] at this
    cases this

theorem acts_clearRequest : Acts (onPoint clearRequest) := acts_onPoint fun p s => by
  unfold clearRequest
  split
  · exact .refl
  · rename_i hl
    split
    · exact .refl
    · split
      · exact (Work.wall (req := true) p (pointOk_cleared _ (by simpa using hl)) nofun).works
      · exact .refl

/-! ### Every request -/

/-- R197: what the owner of a request does is work of the blocks. -/
theorem acts_requestAct (k : Nat) : Acts (requestAct k) := by
  unfold requestAct
  split
  · exact acts_loadRequest
  · exact acts_of_state readEntry_state
  · exact acts_swapRequest
  · exact acts_onChannel acts_startRequest
  · exact acts_onChannel acts_abortRequest
  · exact acts_onChannel acts_skipRequest
  · exact acts_freezeRequest
  · exact acts_resumeRequest
  · exact acts_onChannel acts_releaseRequest
  · exact acts_onChannel acts_timedRetarget
  · exact acts_onChannel acts_paceRequest
  · exact acts_onChannel fun c => acts_of_state fun _ _ => readPart_state _ _
  · exact acts_of_state fun _ _ => readPart_state _ _
  · exact acts_of_state readRecord_state
  · exact acts_takeRecord
  · exact acts_baselineRequest
  · exact acts_clearRequest
  · exact acts_of_state fun _ _ => readPart_state _ _
  · exact acts_noticesRequest
  · exact acts_resetRequest
  · exact acts_of_state fun _ _ => rfl

theorem works_prepare {w : Window} {s : State} {a : Answer} (h : Works true s a.state) : Works true s (State.prepare w a) :=
  h.trans (works_beside ⟨rfl, rfl, rfl, rfl, rfl⟩ ⟨rfl, rfl, rfl, rfl⟩ nofun rfl rfl rfl rfl)

theorem works_takeRequest {act : List Byte → State → Answer} (h : Acts act) (w : Window) (s : State) :
    Works true s (takeRequest act w s) := by
  unfold takeRequest
  split
  · exact .refl
  · unfold takeAddressed
    split
    · exact works_prepare (works_latchGarbled s)
    · split
      · exact works_prepare .refl
      · exact works_prepare (h _ s)
  · unfold takeBroadcast
    split
    · exact works_latchGarbled s
    · split
      · exact .refl
      · exact h _ s

theorem works_takeUnknown (w : Window) (s : State) : Works true s (takeUnknown w s) := by
  unfold takeUnknown
  split
  · split
    · exact works_prepare (works_latchGarbled s)
    · exact works_prepare .refl
  all_goals exact .refl

theorem works_takeWindow (w : Window) (s : State) : Works true s (takeWindow w s) := by
  unfold takeWindow
  split
  · exact works_takeRequest (acts_requestAct _) w s
  · exact works_takeUnknown w s

end Sys2Proof.Machine.Laws
end

section
/-! PROOFS. Every command as a chain of `Event`: work of the blocks, changes beside them, resets and the raising of a
cycle start. -/

namespace Sys2Proof.Machine.Laws

open Relation (ReflTransGen)

/-- The kinds of change that a command is made of. -/
inductive Event : State → State → Prop
  | work {s t : State} (h : Work true s t) : Event s t
  /-- The line, the replies, the work due, the pins and the queues of commands and slots. -/
  | beside {s t : State} (same : SameBlocks s t) (canonical : s.tablesCanonical → t.tablesCanonical) : Event s t
  /-- R26. -/
  | reset {s : State} : Event s (deviceReset s)
  /-- R182. -/
  | powerOn {s : State} (strap : BitVec 6) (panel : Bool) :
      Event s { State.atPowerOn strap panel with pending := s.pending, freezeOrders := s.freezeOrders }
  /-- R154. -/
  | raise {s : State} : Event s (raiseCycleStart s)

/-- A chain of changes. -/
abbrev Events : State → State → Prop := ReflTransGen Event

theorem events_of_works {s t : State} (h : Works true s t) : Events s t := ReflTransGen.lift id (fun _ _ => Event.work) _ _ h

theorem events_beside {s t : State} (same : SameBlocks s t) (canonical : s.tablesCanonical → t.tablesCanonical) :
    Events s t := .single (.beside same canonical)

/-- Position, alignment and counts of the line. -/
theorem events_updLine {s : State} {f : LinePort → LinePort}
    (h : (f s.line).active = s.line.active ∧ (f s.line).shadow = s.line.shadow) : Events s (s.updLine f) :=
  events_beside ⟨rfl, rfl, rfl, rfl, rfl⟩ fun k => by
    unfold State.tablesCanonical at *
    simp only [updLine_line, h.1, h.2]
    exact k

theorem events_updMgmt (s : State) (f : Management → Management) : Events s (s.updMgmt f) :=
  events_beside ⟨rfl, rfl, rfl, rfl, rfl⟩ id

theorem events_sendNext (out : Slot) (s : State) : Events s (s.sendNext out) :=
  events_beside ⟨rfl, rfl, rfl, rfl, rfl⟩ id

theorem events_emit (out : Slot) (s : State) : Events s (s.emit out) := events_beside ⟨rfl, rfl, rfl, rfl, rfl⟩ id

theorem events_passSlots (s : State) (x : List Slot) : Events s (s.passSlots x) :=
  events_beside ⟨rfl, rfl, rfl, rfl, rfl⟩ id

theorem events_resetDue (s : State) : Events s s.resetDue := events_beside ⟨rfl, rfl, rfl, rfl, rfl⟩ id

/-! ### Resets (R26, R164) -/

theorem events_endReset (cause : ResetCause) (strap : BitVec 6) (panel : Bool) (s : State) :
    Events s (endReset cause strap panel s) := events_beside ⟨rfl, rfl, rfl, rfl, rfl⟩ id

theorem events_requestReset (strap : BitVec 6) (panel : Bool) (s : State) : Events s (requestReset strap panel s) :=
  ReflTransGen.trans (.single .reset) (events_endReset _ _ _ _)

/-! ### The work of a cycle start -/

theorem events_performWork (w : CycleWork) (s : State) : Events s (performWork w s) := by
  by_cases h : w = .deviceReset
  · subst h; exact events_requestReset _ _ _
  · exact events_of_works (works_performWork h s)

theorem events_due (s : State) (l : List CycleWork) : Events s { s with due := l } :=
  events_beside ⟨rfl, rfl, rfl, rfl, rfl⟩ id

theorem events_doWork (w : CycleWork) (s : State) : Events s (doWork w s) := by
  unfold doWork
  split
  · exact (events_due s _).trans (events_performWork w _)
  · exact .refl

theorem events_foldl {α : Type} (f : State → α → State) (hf : ∀ s a, Events s (f s a)) :
    ∀ (l : List α) (s : State), Events s (l.foldl f s)
  | [], _ => .refl
  | a :: l, s => (hf s a).trans (events_foldl f hf l _)

theorem events_takeWork (w : CycleWork) (s : State) : Events s (takeWork w s) := by
  refine ReflTransGen.trans ?_ (events_doWork w _)
  unfold prepareWork
  split
  · exact events_foldl _ (fun s w => events_doWork w s) _ _
  · exact .refl

theorem events_finishCycleStart (s : State) : Events s (finishCycleStart s) := by
  unfold finishCycleStart
  split
  · exact .refl
  · exact (events_foldl _ (fun s w => events_takeWork w s) cycleStartWork s).trans (events_due _ _)

theorem events_settle (s : State) : Events s (settle s) := by
  unfold settle
  split
  · exact (events_finishCycleStart s).trans (events_performWork _ _)
  · exact events_finishCycleStart s

theorem events_cycleStart (order : List CycleWork) (s : State) : Events s (cycleStart order s) :=
  ReflTransGen.trans (.single .raise) (events_foldl _ (fun s w => events_takeWork w s) order _)

theorem events_takeOccurrence (w : CycleWork) (q : State → Bool) (s : State) : Events s (takeOccurrence w q s) := by
  unfold takeOccurrence
  split
  · exact events_takeWork w s
  · exact .refl

/-! ### The fall to HUNT -/

theorem events_dropReplies (s : State) : Events s (dropReplies s) := by
  unfold dropReplies
  dsimp only
  split
  · exact (events_updMgmt s _).trans (events_resetDue _)
  · exact events_updMgmt s _

theorem events_fallToHunt (s : State) : Events s (fallToHunt s) := by
  refine ReflTransGen.trans (events_updLine (f := fun l => { l with alignment := .hunt }) ⟨rfl, rfl⟩) ?_
  refine ReflTransGen.trans (events_of_works (works_updLatched _ fun l => { l with lineLost := true })) ?_
  exact (events_of_works (works_addCauseToAll _ _)).trans (events_dropReplies _)

theorem events_loseSignal (s : State) : Events s (loseSignal s) := by
  unfold loseSignal
  split
  · exact events_fallToHunt s
  · exact events_updLine ⟨rfl, rfl⟩

/-! ### Alignment -/

theorem events_huntExamine (slot : Slot) (s : State) : Events s (huntExamine slot s) := by
  unfold huntExamine
  split
  · exact events_updLine ⟨rfl, rfl⟩
  · exact .refl

theorem events_confirmExamine (order : List CycleWork) (slot : Slot) (s : State) :
    Events s (confirmExamine order slot s) := by
  unfold confirmExamine
  split
  · exact ReflTransGen.trans (events_updLine ⟨rfl, rfl⟩) (events_cycleStart _ _)
  · exact events_updLine ⟨rfl, rfl⟩

theorem events_judgeMiss (n : Nat) (order : List CycleWork) (s : State) : Events s (judgeMiss n order s) := by
  unfold judgeMiss
  dsimp only
  split
  · exact ReflTransGen.trans (events_updLine ⟨rfl, rfl⟩) (events_cycleStart _ _)
  · exact ReflTransGen.trans (events_updLine ⟨rfl, rfl⟩) (events_fallToHunt _)

theorem events_lockedExamine (order : List CycleWork) (slot : Slot) (s : State) :
    Events s (lockedExamine order slot s) := by
  unfold lockedExamine
  split
  · exact ReflTransGen.trans (events_updLine ⟨rfl, rfl⟩) (events_cycleStart _ _)
  · exact events_judgeMiss _ _ _

theorem events_flywheelExamine (order : List CycleWork) (slot : Slot) (s : State) :
    Events s (flywheelExamine order slot s) := by
  unfold flywheelExamine
  split
  · exact ReflTransGen.trans (events_updLine ⟨rfl, rfl⟩) (events_cycleStart _ _)
  · exact events_judgeMiss _ _ _

/-! ### Slots -/

/-- R47: the integral and the demand of the loop lie within their bounds. -/
theorem loopOutput_bounds (k : ChannelConfig) (setpoint load : Nat) {i : Int} (hl : -(k.imax : Int) ≤ i)
    (hu : i ≤ k.imax) :
    -(k.imax : Int) ≤ (loopOutput k setpoint load i).1 ∧ (loopOutput k setpoint load i).1 ≤ k.imax ∧
      -1000 ≤ (loopOutput k setpoint load i).2 ∧ (loopOutput k setpoint load i).2 ≤ 1000 := by
  unfold loopOutput
  dsimp only
  split
  · simp only [clamp]; omega
  · simp only [clamp, integralCandidate]; omega

/-- R46: the loop computes in RUNNING alone. -/
theorem loopLoad_running {s : State} {c : Chan} {load : Nat} (h : s.loopLoad c = some load) :
    (s.chan c).state = .running := by
  unfold State.loopLoad at h
  dsimp only at h
  split at h
  · rename_i k; exact k.1
  · cases h

/-- R45, R47, R48: the loop's items after its command slot stay within their bounds. -/
theorem loopOk_jackAfter {s : State} {c : Chan} (h : LoopOk (s.chan c)) :
    LoopOk { s.chan c with jack := s.jackAfter c } := by
  obtain ⟨h1, h2, h3, h4, h5⟩ := h
  unfold State.jackAfter
  dsimp only
  split
  · rename_i hl
    obtain ⟨k1, k2, k3, k4⟩ := loopOutput_bounds (s.chan c).config (s.setpoint c) _ h1 h2
    exact ⟨k1, k2, k3, k4, fun e => by have := (loopLoad_running hl).symm.trans e; cases this⟩
  · exact ⟨h1, h2, by simp, by simp, h5⟩

theorem events_writeJack (c : Chan) (s : State) : Events s (writeJack c s) := by
  have hn : Noted (s.chan c) { s.chan c with jack := s.jackAfter c } :=
    ⟨⟨rfl, rfl, fun k => ⟨rfl, k⟩, id, loopOk_jackAfter⟩, rfl, rfl⟩
  exact ReflTransGen.trans (events_of_works (works_note hn)) (events_sendNext _ _)

theorem events_writeWinch (c : Chan) (s : State) : Events s (writeWinch c s) :=
  ReflTransGen.trans
    (events_of_works (works_upd (f := fun ch => { ch with lastWinch := (s.winchFields c).1, lastBrake := (s.winchFields c).2 })
      (noted_of_same rfl rfl rfl rfl rfl rfl rfl rfl rfl)))
    (events_sendNext _ _)

theorem events_writePump (p : Pump) (s : State) : Events s (writePump p s) :=
  ReflTransGen.trans (events_of_works (Work.demand p (s.pumpDemand p)).works) (events_sendNext _ _)

theorem events_writeReport (s : State) : Events s (writeReport s) :=
  ReflTransGen.trans (events_of_works (works_updReports s _)) (events_sendNext _ _)

theorem events_replySlot (slot : Slot) (s : State) : Events s (replySlot slot s) := by
  unfold replySlot
  split
  · split
    · exact (events_updMgmt _ _).trans (events_sendNext _ _)
    · exact events_sendNext _ _
  · exact events_sendNext _ _

theorem events_requestSlot (slot : Slot) (s : State) : Events s (requestSlot slot s) := by
  unfold requestSlot
  dsimp only
  split
  · exact (events_sendNext _ _).trans (events_updMgmt _ _)
  · split
    · exact ((events_sendNext _ _).trans (events_updMgmt _ _)).trans (events_of_works (works_takeWindow _ _))
    · exact (events_sendNext _ _).trans (events_updMgmt _ _)

theorem events_entrySlot (e : SlotEntry) (slot : Slot) (s : State) : Events s (entrySlot e slot s) := by
  unfold entrySlot
  split
  · exact events_sendNext _ _
  · exact (events_sendNext _ _).trans (events_of_works (works_takeSample _ _ _ _))
  · exact events_writeJack _ _
  · exact events_writeWinch _ _
  · exact events_writePump _ _
  · exact events_writeReport _

theorem events_workSlot (slot : Slot) (s : State) : Events s (workSlot slot s) := by
  unfold workSlot
  split
  · exact events_entrySlot _ _ _
  · split
    · exact events_replySlot _ _
    · exact events_requestSlot _ _

theorem events_slotArrives (order : List CycleWork) (slot : Slot) (s : State) : Events s (slotArrives order slot s) := by
  unfold slotArrives
  split
  · exact events_emit _ _
  · split
    · exact (events_emit _ _).trans (events_huntExamine _ _)
    · split
      · exact (events_emit _ _).trans (events_confirmExamine _ _ _)
      · exact events_sendNext _ _
    · split
      · exact (events_emit _ _).trans (events_lockedExamine _ _ _)
      · exact events_workSlot _ _
    · split
      · exact (events_emit _ _).trans (events_flywheelExamine _ _ _)
      · exact events_workSlot _ _

theorem events_listening (s : State) : Events s s.listening := (events_settle s).trans (events_passSlots _ _)

theorem events_slotEvent (order : List CycleWork) (slot : Slot) (s : State) : Events s (slotEvent order slot s) :=
  (events_listening s).trans (events_slotArrives _ _ _)

theorem events_looseSlots (w : Window) (s : State) : Events s (looseSlots w s) :=
  (events_listening s).trans (events_foldl _ (fun s x => (events_settle s).trans (events_slotArrives [] x _)) _ _)

theorem events_slotOutcome (pos : Nat) (q : Slot → State → Bool) (slot : Slot) (s : State) :
    Events s (slotOutcome pos q slot s) := by
  unfold slotOutcome
  split
  · exact events_slotEvent _ _ _
  · exact .refl

/-! ### Windows -/

theorem events_passWindow (w : Window) (s : State) : Events s (passWindow w s) :=
  ReflTransGen.trans (events_updLine (f := fun l => { l with slotPos := 8 }) ⟨rfl, rfl⟩) (events_passSlots _ _)

theorem events_requestEvent {mine : Bool} {act : List Byte → State → Answer} (h : Acts act) (w : Window) (s : State) :
    Events s (requestEvent mine act w s) := by
  unfold requestEvent
  split
  · split
    · exact ((events_settle s).trans (events_passWindow w _)).trans (events_of_works (works_takeRequest h w _))
    · exact ((events_settle s).trans (events_passWindow w _)).trans (events_of_works (works_takeWindow w _))
  · exact events_looseSlots w s

theorem events_ignoredEvent (w : Window) (s : State) : Events s (ignoredEvent w s) := by
  unfold ignoredEvent
  split
  · exact ((events_settle s).trans (events_passWindow w _)).trans (events_of_works (works_takeWindow w _))
  · exact events_looseSlots w s

theorem events_unknownEvent (w : Window) (s : State) : Events s (unknownEvent w s) := by
  unfold unknownEvent
  split
  · exact ((events_settle s).trans (events_passWindow w _)).trans (events_of_works (works_takeUnknown w _))
  · exact events_ignoredEvent w s

theorem events_writeReply (w : Window) (s : State) : Events s (writeReply w s) := by
  have hp : Events s (s.updLine fun l => { l with slotPos := 16 }) := events_updLine ⟨rfl, rfl⟩
  unfold writeReply
  dsimp only
  split
  · exact (hp.trans (events_updMgmt _ _)).trans (events_passSlots _ _)
  · exact hp.trans (events_passSlots _ _)

theorem events_replyGone (s : State) : Events s (replyGone s) := by
  unfold replyGone
  split
  · dsimp only
    split
    · exact (events_updMgmt _ _).trans (events_resetDue _)
    · exact events_updMgmt _ _
  · exact .refl

/-! ### Every command -/

/-- The pins' own changes. -/
theorem events_pins (s : State) (p : Pins) : Events s { s with pins := p } := events_beside ⟨rfl, rfl, rfl, rfl, rfl⟩ id

/-- Every command is a chain of changes. -/
theorem events_exec {i : Instr} {s t : State} (h : exec i s = .next t) : Events s t := by
  cases i <;> simp only [exec] at h <;> injection h with h <;> subst h
  case powerOn strap panel => exact .single (.powerOn strap panel)
  case resetInAssert =>
    split
    · exact .refl
    · exact ReflTransGen.trans (.single .reset) (events_pins _ _)
  case resetInRelease =>
    split
    · exact events_endReset _ _ _ _
    · exact .refl
  case deviceReset =>
    split
    · exact events_requestReset _ _ _
    · exact .refl
  case panelHoldAssert =>
    split
    · exact .refl
    · exact (events_pins s _).trans (events_of_works (works_addCauseToAll _ _))
  case panelHoldRelease =>
    split
    · exact .refl
    · exact events_pins s _
  case lossOfSignal => exact (events_finishCycleStart s).trans (events_loseSignal _)
  case huntSlot | confirmSyncPosition | lockedSyncPosition | flywheelSyncPosition => exact events_slotEvent _ _ _
  case flywheelEnd =>
    split
    · exact events_slotEvent _ _ _
    · exact .refl
  case reportListSwap moment =>
    cases moment with
    | cycleStart => exact events_takeOccurrence _ _ _
    | reportSlot pos slot => exact events_slotOutcome _ _ _ _
  case replyWindow =>
    split
    · exact (events_settle s).trans (events_writeReply _ _)
    · exact events_looseSlots _ _
  case replyLeft => exact (events_settle s).trans (events_replyGone _)
  case sampleSlot | overload | rampSettled | refusal | overpressure | tensionLimit | jackCommand | winchCommand
      | pumpCommand | reportSlot => exact events_slotOutcome _ _ _ _
  case ignoredRequest => exact events_ignoredEvent _ _
  case unknownRequest => exact events_unknownEvent _ _
  case loadEntryHeader => exact events_requestEvent acts_loadHeader _ _
  case loadEntryStep => exact events_requestEvent acts_loadStep _ _
  case loadEntrySegment => exact events_requestEvent acts_loadSegment _ _
  case loadEntryMarkset => exact events_requestEvent acts_loadMarkSet _ _
  case loadEntryScale => exact events_requestEvent acts_loadScale _ _
  case loadEntryChannelConfig => exact events_requestEvent acts_loadChannelConfig _ _
  case loadEntryWallPoint => exact events_requestEvent acts_loadWallPoint _ _
  case loadEntrySlotMap => exact events_requestEvent acts_loadSlotMap _ _
  case loadEntryReportList => exact events_requestEvent acts_loadReportList _ _
  case loadEntryPartConfig => exact events_requestEvent acts_loadPartConfig _ _
  case swapBanksSlotMap => exact events_requestEvent acts_swapMap _ _
  case swapBanksReportList => exact events_requestEvent acts_swapList _ _
  case swapBanksBoth => exact events_requestEvent acts_swapBoth _ _
  case readEntry => exact events_requestEvent (acts_requestAct 2) _ _
  case startProgram => exact events_requestEvent (acts_requestAct 4) _ _
  case abortProgram => exact events_requestEvent (acts_requestAct 5) _ _
  case skipStep => exact events_requestEvent (acts_requestAct 6) _ _
  case freeze => exact events_requestEvent (acts_requestAct 7) _ _
  case resume => exact events_requestEvent (acts_requestAct 8) _ _
  case release => exact events_requestEvent (acts_requestAct 9) _ _
  case retargetAtEnd => exact events_requestEvent (acts_onChannel acts_retargetAtEnd) _ _
  case retargetNow => exact events_requestEvent (acts_onChannel acts_retargetNow) _ _
  case setPace => exact events_requestEvent (acts_requestAct 11) _ _
  case readChannel => exact events_requestEvent (acts_requestAct 12) _ _
  case readPump => exact events_requestEvent (acts_requestAct 13) _ _
  case readRecord => exact events_requestEvent (acts_requestAct 14) _ _
  case takeRecord => exact events_requestEvent (acts_requestAct 15) _ _
  case setBaseline => exact events_requestEvent (acts_requestAct 16) _ _
  case clearWallStop => exact events_requestEvent (acts_requestAct 17) _ _
  case readStatus => exact events_requestEvent (acts_requestAct 18) _ _
  case clearNotices => exact events_requestEvent (acts_requestAct 19) _ _
  case resetPart => exact events_requestEvent (acts_requestAct 20) _ _
  all_goals exact events_takeOccurrence _ _ _

/-- Every step is a chain of changes. -/
theorem events_step {s t : State} (h : step s = .next t) : Events s t := by
  unfold step at h
  split at h
  · injection h with h; subst h; exact .refl
  · rename_i rest _
    have hq : Events s { s with pending := rest } := events_beside ⟨rfl, rfl, rfl, rfl, rfl⟩ id
    exact hq.trans (events_exec h)

/-- What every kind of change keeps, every step keeps. -/
theorem step_keeps {P : State → Prop} (keep : ∀ s t, P s → Event s t → P t) {s t : State} (h : P s)
    (hst : step s = .next t) : P t := by
  have he := events_step hst
  clear hst
  induction he with
  | refl => exact h
  | tail _ he ih => exact keep _ _ ih he

end Sys2Proof.Machine.Laws
end

section
/-! PROOFS. What each kind of `Work` leaves of the part: where it stands, its tables, its points, and what it does to the
bounds, the freeze causes and the FILING state of a channel. -/

namespace Sys2Proof.Machine.Laws

open Relation (ReflTransGen)

/-! ### The Arbiters at a cycle start -/

theorem claimsOnly_completeSwitch (p : Pump) (s : State) : ClaimsOnly s (completeSwitch p s) := by
  unfold completeSwitch
  split
  · exact (claimsOnly_updArb s p _).trans (claimsOnly_setStanding _ _ _)
  all_goals exact ClaimsOnly.refl s

/-- R81: a tenure that expires latches its notice at most; the rest is claims. -/
theorem expireTenure_spec (p : Pump) (s : State) :
    (∀ d, KeptAs (s.chan d) ((expireTenure p s).chan d)) ∧ FreezeKeeps s (expireTenure p s) ∧
      (expireTenure p s).mgmt.window = s.mgmt.window := by
  have claims {u : State} (h : ClaimsOnly s u) :
      (∀ d, KeptAs (s.chan d) (u.chan d)) ∧ FreezeKeeps s u ∧ u.mgmt.window = s.mgmt.window :=
    ⟨h.1, freezeKeeps_of_claimsOnly h, by rw [h.2]⟩
  unfold expireTenure
  split
  · split
    · exact claims (claimsOnly_updArb s p _)
    · rename_i h _ _ d rest _
      have hc := ((claimsOnly_updArb s p fun a => { a with queue := rest ++ [h] }).trans
        (claimsOnly_setStanding h .queued _)).trans (claimsOnly_startGrant p d _)
      obtain ⟨h1, h2, h3⟩ := claims hc
      exact ⟨h1, h2.trans (by simp [FreezeKeeps]), h3⟩
  all_goals exact claims (ClaimsOnly.refl s)

/-- R80, R81: what a cycle start does to an Arbiter touches claims, and one notice, alone. -/
theorem arbiterCycle_spec (p : Pump) (s : State) :
    (∀ d, KeptAs (s.chan d) ((arbiterCycle p s).chan d)) ∧ FreezeKeeps s (arbiterCycle p s) ∧
      (arbiterCycle p s).mgmt.window = s.mgmt.window := by
  have claims {u : State} (h : ClaimsOnly s u) :
      (∀ d, KeptAs (s.chan d) (u.chan d)) ∧ FreezeKeeps s u ∧ u.mgmt.window = s.mgmt.window :=
    ⟨h.1, freezeKeeps_of_claimsOnly h, by rw [h.2]⟩
  unfold arbiterCycle
  dsimp only
  split
  · exact claims (ClaimsOnly.refl s)
  · split
    · exact claims (claimsOnly_completeSwitch p s)
    · split
      · exact expireTenure_spec p s
      · split
        · exact claims (claimsOnly_updArb s p _)
        · exact claims (claimsOnly_updArb s p _)
        · exact claims (ClaimsOnly.refl s)

/-! ### Programs that stop -/

theorem unlockCurrent_keeps (c : Chan) (s : State) : unlockCurrent c s = { s with store := (unlockCurrent c s).store } := by
  unfold unlockCurrent
  split <;> rfl

theorem tablesCanonical_unlockCurrent (c : Chan) {s : State} (h : s.tablesCanonical) :
    (unlockCurrent c s).tablesCanonical := by
  unfold unlockCurrent
  split
  · exact tablesCanonical_changeLockSet _ _ h
  · exact h

/-- R19: a channel as its program leaves it when it ends, before its record is offered. -/
def ended (a : Channel) : Channel :=
  { a with
    freeze := FreezeSet.empty, lastCreep := none, fault := none, program := none, phase := .none, work := .none
    record := none }

/-- The part as a program ends, before the record is offered. -/
def endedState (c : Chan) (s : State) : State := (unlockCurrent c s).setChan c (ended (s.chan c))

theorem unlockCurrent_chan (c d : Chan) (s : State) : (unlockCurrent c s).chan d = s.chan d := by
  rw [unlockCurrent_keeps]; rfl

/-- R19: a program ends: its record is offered where there is one. -/
theorem endProgram_cases (o : RunOutcome) (c : Chan) (s : State) :
    endProgram o c s = afterFiling c (endedState c s) ∨ ∃ r, endProgram o c s = offerRecord r c (endedState c s) := by
  have hu : (unlockCurrent c s).updChan c ended = endedState c s := by
    rw [updChan_eq, endedState, unlockCurrent_chan]
  unfold endProgram
  dsimp only
  split
  · exact .inr ⟨_, congrArg _ hu⟩
  · exact .inl (congrArg _ hu)

/-- R19, R185: a program that ends changes the channel, its lock set and the Record Queue. -/
theorem endProgram_keeps (o : RunOutcome) (c : Chan) (s : State) : ∃ b q,
    endProgram o c s = { (unlockCurrent c s).setChan c b with records := q } := by
  rcases endProgram_cases o c s with h | ⟨r, h⟩
  · refine ⟨(endProgram o c s).chan c, (unlockCurrent c s).records, ?_⟩
    rw [h]
    conv_lhs => rw [(afterFiling_spec c _).1]
    simp [endedState, State.setChan]
  · refine ⟨(endProgram o c s).chan c, (endProgram o c s).records, ?_⟩
    rw [h]
    conv_lhs => rw [(offerRecord_spec r c _).1]
    simp [endedState, State.setChan]

/-- R186: a freed place changes one channel and the Record Queue. -/
theorem freePlace_keeps (s : State) : freePlace s = { s with chans := (freePlace s).chans, records := (freePlace s).records } := by
  unfold freePlace
  dsimp only
  split
  · rfl
  · rename_i c rest _
    obtain ⟨h, -⟩ := afterFiling_spec c ((s.updRecords fun q => { q with queue := q.queue.tail }).updRecords fun q =>
      { queue := q.queue ++ ((s.updRecords fun q => { q with queue := q.queue.tail }).chan c).filed.toList, filing := rest })
    generalize State.chan (afterFiling c _) c = b at h
    rw [h]
    rfl

/-! ### Tables (the model's canonical form) -/

theorem tablesCanonical_of_freezeKeeps {s t : State} (h : FreezeKeeps s t) (k : s.tablesCanonical) : t.tablesCanonical := by
  obtain ⟨h1, h2, h3, h4, -⟩ := h
  unfold State.tablesCanonical at *
  rwa [h1, h2, h3, h4]

theorem freezeKeeps_addCause (k : FreezeCause) (c : Chan) (s : State) : FreezeKeeps s (addCause k c s) :=
  (addCause_spec k c s).2.1

theorem freezeKeeps_removeCauses (g : FreezeSet) (c : Chan) (s : State) : FreezeKeeps s (removeCauses g c s) :=
  (removeCauses_spec g c s).2.1

theorem freezeKeeps_startProgram (i : Nat) (c : Chan) (s : State) : FreezeKeeps s (startProgram i c s) := by
  rw [startProgram_others]; exact freezeKeeps_setChan _ _ _

/-- The blocks' work keeps the canonical form of the tables. -/
theorem work_tablesCanonical {s t : State} (h : Work true s t) (k : s.tablesCanonical) : t.tablesCanonical := by
  cases h with
  | tables _ _ _ canonical => exact canonical k
  | note c _ | unfault c _ _ _ _ | configure c _ _ _ => exact tablesCanonical_of_freezeKeeps (freezeKeeps_setChan _ _ _) k
  | cause _ _ => exact tablesCanonical_of_freezeKeeps (freezeKeeps_addCause _ _ _) k
  | uncause _ _ _ => exact tablesCanonical_of_freezeKeeps (freezeKeeps_removeCauses _ _ _) k
  | fault _ _ => exact tablesCanonical_of_freezeKeeps (freezeKeeps_faultChannel _ _ _) k
  | leave _ _ _ _ => exact tablesCanonical_of_freezeKeeps (freezeKeeps_leaveStep _ _ _ _) k
  | claim _ _ _ _ => exact tablesCanonical_of_freezeKeeps (freezeKeeps_of_claimsOnly (claimsOnly_makeClaim _ _)) k
  | arbiter p => exact tablesCanonical_of_freezeKeeps (arbiterCycle_spec p s).2.1 k
  | demand p _ => exact tablesCanonical_of_freezeKeeps (freezeKeeps_of_claimsOnly (claimsOnly_updArb s p _)) k
  | wall w _ _ =>
    exact tablesCanonical_of_freezeKeeps (changeWall_spec w _ s).2.2.1 (by exact k)
  | start _ _ _ => exact tablesCanonical_of_freezeKeeps (freezeKeeps_startProgram _ _ _) k
  | finish o c _ _ =>
    obtain ⟨b, q, hb⟩ := endProgram_keeps o c s
    rw [hb]
    exact tablesCanonical_unlockCurrent c k
  | free => rw [freePlace_keeps]; exact k

/-! ### The place of the part on the line -/

theorem samePlace_of_keeps {s t : State} (h : FreezeKeeps s t) (hw : t.mgmt.window = s.mgmt.window) : SamePlace s t := by
  obtain ⟨h1, -, -, -, -, -, -, h8, h9, -, -⟩ := h
  exact ⟨by rw [h1], h9, hw, h8⟩

theorem SamePlace.trans {s t u : State} (h : SamePlace s t) (k : SamePlace t u) : SamePlace s u := by
  obtain ⟨h1, h2, h3, h4⟩ := h
  obtain ⟨k1, k2, k3, k4⟩ := k
  exact ⟨by rw [k1, h1], k2.trans h2, k3.trans h3, k4.trans h4⟩

theorem addCause_window (k : FreezeCause) (c : Chan) (s : State) : (addCause k c s).mgmt.window = s.mgmt.window := by
  have hl : ∀ u : State, (latchStale k u).mgmt.window = u.mgmt.window := fun u => by unfold latchStale; split <;> rfl
  unfold addCause
  dsimp only
  split
  · rfl
  · split
    · rw [freezeEffect, (claimsOnly_withdrawClaim _ _).fields.2.2.2.2.2.2.2.1]
      exact hl _
    · exact hl _

theorem addCauses_window (k : FreezeCause) : ∀ (l : List Chan) (s : State),
    (l.foldl (fun s c => addCause k c s) s).mgmt.window = s.mgmt.window
  | [], _ => rfl
  | c :: l, s => (addCauses_window k l _).trans (addCause_window k c s)

theorem faultChannel_window (cause : FaultCause) (c : Chan) (s : State) :
    (faultChannel cause c s).mgmt.window = s.mgmt.window := by
  by_cases h : (s.chan c).state = .running ∨ (s.chan c).state = .frozen
  · rw [(faultChannel_spec cause c s h).1.2.2.1]
  · rw [faultChannel_ignored cause c s h]

/-- The blocks' work moves neither the alignment nor the position, takes no due work and hands no slot over. -/
theorem work_samePlace {s t : State} (h : Work true s t) : SamePlace s t := by
  cases h with
  | tables _ place _ _ => exact place
  | note c _ | unfault c _ _ _ _ | configure c _ _ _ => exact ⟨rfl, rfl, rfl, rfl⟩
  | cause _ _ => exact samePlace_of_keeps (freezeKeeps_addCause _ _ _) (addCause_window _ _ _)
  | uncause g c _ =>
    exact samePlace_of_keeps (freezeKeeps_removeCauses _ _ _) (by rw [(removeCauses_spec g c s).2.2.1])
  | fault _ _ => exact samePlace_of_keeps (freezeKeeps_faultChannel _ _ _) (faultChannel_window _ _ _)
  | leave phase index c _ =>
    exact samePlace_of_keeps (freezeKeeps_leaveStep _ _ _ _) (by rw [(leaveStep_spec phase index c s).2.2.2.1])
  | claim c _ _ _ =>
    have h := claimsOnly_makeClaim c s
    exact samePlace_of_keeps (freezeKeeps_of_claimsOnly h) (by rw [h.2])
  | arbiter p => exact samePlace_of_keeps (arbiterCycle_spec p s).2.1 (arbiterCycle_spec p s).2.2
  | demand p _ =>
    have h := claimsOnly_updArb s p
    exact samePlace_of_keeps (freezeKeeps_of_claimsOnly (h _)) (by rw [(h _).2])
  | wall w _ _ =>
    obtain ⟨-, hm, hk, -⟩ := changeWall_spec w _ s
    exact samePlace_of_keeps (s := s.setWall w _) hk (by rw [hm]; rfl)
  | start i c _ => exact samePlace_of_keeps (freezeKeeps_startProgram _ _ _) (by rw [startProgram_others]; rfl)
  | finish o c _ _ =>
    obtain ⟨b, q, hb⟩ := endProgram_keeps o c s
    rw [hb, unlockCurrent_keeps]
    exact ⟨rfl, rfl, rfl, rfl⟩
  | free => rw [freePlace_keeps]; exact ⟨rfl, rfl, rfl, rfl⟩

theorem works_samePlace {s t : State} (h : Works true s t) : SamePlace s t := by
  induction h with
  | refl => exact ⟨rfl, rfl, rfl, rfl⟩
  | tail _ hw ih => exact ih.trans (work_samePlace hw)

/-! ### Wall points -/

/-- The points of a part are changed one at a time. -/
theorem work_walls {s t : State} (h : Work true s t) :
    t.walls = s.walls ∨ ∃ w x, (PointOk (s.wall w) → PointOk x) ∧ t = s.changeWall w x := by
  cases h with
  | tables same _ _ _ => exact .inl same.2.2.2.1
  | note c _ | unfault c _ _ _ _ | configure c _ _ _ => exact .inl rfl
  | cause _ _ => exact .inl (freezeKeeps_addCause _ _ _).2.2.2.2.1
  | uncause _ _ _ => exact .inl (freezeKeeps_removeCauses _ _ _).2.2.2.2.1
  | fault _ _ => exact .inl (freezeKeeps_faultChannel _ _ _).2.2.2.2.1
  | leave _ _ _ _ => exact .inl (freezeKeeps_leaveStep _ _ _ _).2.2.2.2.1
  | claim c _ _ _ => exact .inl (claimsOnly_makeClaim c s).fields.2.2.2.2.1
  | arbiter p => exact .inl (arbiterCycle_spec p s).2.1.2.2.2.2.1
  | demand p _ => exact .inl (claimsOnly_updArb s p _).fields.2.2.2.2.1
  | wall w h _ => exact .inr ⟨w, _, h, rfl⟩
  | start _ _ _ => exact .inl (freezeKeeps_startProgram _ _ _).2.2.2.2.1
  | finish o c _ _ =>
    obtain ⟨b, q, hb⟩ := endProgram_keeps o c s
    rw [hb, unlockCurrent_keeps]
    exact .inl rfl
  | free => rw [freePlace_keeps]; exact .inl rfl

end Sys2Proof.Machine.Laws
end

section
/-! PROOFS. The invariants of the tables, the points, the bounds, the freeze causes and the Record Queue, kept by every
step. -/

namespace Sys2Proof.Machine.Laws

open Relation (ReflTransGen)

/-! ### Freeze causes on one channel -/

/-- R17, on one channel. -/
def FrozenOk (a : Channel) : Prop :=
  (a.state = .idle ∨ a.state = .running → a.freeze.isEmpty = true) ∧ (a.state = .frozen → a.freeze.isEmpty = false)

/-- R122, on one channel: with a program in progress it holds WALL_STOP. -/
def HoldsStop (a : Channel) : Prop :=
  a.state = .running ∨ a.state = .frozen ∨ a.state = .faulted → a.freeze.wallStop = true

/-- R17, and R122 while `stop`. -/
def Guarded (stop : Prop) (a : Channel) : Prop := FrozenOk a ∧ (stop → HoldsStop a)

theorem freezeOk_iff (s : State) : s.freezeOk ↔ ∀ c, FrozenOk (s.chan c) := by
  unfold State.freezeOk FrozenOk
  refine forall_congr' fun c => ?_
  cases (s.chan c).state <;> simp

theorem stopHeld_iff (s : State) : s.stopHeld ↔ (s.wallState = .stop → ∀ c, HoldsStop (s.chan c)) := Iff.rfl

theorem guarded_iff (s : State) :
    (∀ c, Guarded (s.wallState = .stop) (s.chan c)) ↔ s.freezeOk ∧ s.stopHeld := by
  rw [freezeOk_iff, stopHeld_iff]
  exact ⟨fun h => ⟨fun c => (h c).1, fun hs c => (h c).2 hs⟩, fun h c => ⟨h.1 c, fun hs => h.2 hs c⟩⟩

/-! ### What the blocks' work does to one channel -/

/-- Channel `a` has become `b`: the bounds and the freeze causes are kept. -/
structure Lived (stop : Prop) (a b : Channel) : Prop where
  setpoint : SetpointOk a → SetpointOk b
  loop : LoopOk a → LoopOk b
  guarded : Guarded stop a → Guarded stop b

/-- `Lived` by a channel that stays FILING with its record, or stays out of FILING. -/
structure Stayed (stop : Prop) (a b : Channel) : Prop extends Lived stop a b where
  filing : b.state = .filing ↔ a.state = .filing
  filed : a.state = .filing → b.filed = a.filed

theorem Stayed.refl (stop : Prop) (a : Channel) : Stayed stop a a := ⟨⟨id, id, id⟩, Iff.rfl, fun _ => rfl⟩

theorem Lived.trans {stop : Prop} {a b c : Channel} (h : Lived stop a b) (k : Lived stop b c) : Lived stop a c :=
  ⟨k.1 ∘ h.1, k.2 ∘ h.2, k.3 ∘ h.3⟩

theorem Stayed.trans {stop : Prop} {a b c : Channel} (h : Stayed stop a b) (k : Stayed stop b c) : Stayed stop a c :=
  ⟨h.1.trans k.1, k.filing.trans h.filing, fun e => (k.filed (h.filing.mpr e)).trans (h.filed e)⟩

/-- A channel whose state, causes, bounds and record are the same. -/
theorem stayed_of_same (stop : Prop) {a b : Channel} (hs : b.state = a.state) (hf : b.freeze = a.freeze)
    (hp : SetpointOk a → SetpointOk b) (hl : LoopOk a → LoopOk b) (hr : a.state = .filing → b.filed = a.filed) :
    Stayed stop a b := by
  refine ⟨⟨hp, hl, ?_⟩, by rw [hs], hr⟩
  unfold Guarded FrozenOk HoldsStop
  rw [hs, hf]
  exact id

theorem stayed_noted (stop : Prop) {a b : Channel} (h : Noted a b) : Stayed stop a b :=
  stayed_of_same stop h.state h.freeze h.setpoint h.loop fun _ => h.filed

theorem stayed_keptAs (stop : Prop) {a b : Channel} (h : KeptAs a b) : Stayed stop a b := by
  have hp : b.profile = a.profile := by rw [h.1]
  have hj : b.jack = a.jack := by rw [h.1]
  have hc : b.config = a.config := by rw [h.1]
  refine stayed_of_same stop (keptAs_state h) (keptAs_freeze h) ?_ ?_ fun _ => by rw [h.1]
  · unfold SetpointOk; rw [hp]; exact id
  · unfold LoopOk; rw [hj, hc, keptAs_state h]; exact id

theorem freezeSet_isEmpty_add (f : FreezeSet) (k : FreezeCause) : (f.add k).isEmpty = false := by
  cases k <;> simp [FreezeSet.add, FreezeSet.isEmpty]

theorem freezeSet_has_of_isEmpty {f : FreezeSet} (h : f.isEmpty = true) (k : FreezeCause) : f.has k = false := by
  simp only [FreezeSet.isEmpty, Bool.not_eq_true', Bool.or_eq_false_iff] at h
  obtain ⟨⟨⟨⟨h1, h2⟩, h3⟩, h4⟩, h5⟩ := h
  cases k <;> assumption

theorem freezeSet_isEmpty_without {f : FreezeSet} (g : FreezeSet) (h : f.isEmpty = true) :
    (f.without g).isEmpty = true := by
  simp only [FreezeSet.isEmpty, FreezeSet.without, Bool.not_eq_true', Bool.or_eq_false_iff] at *
  simp [h]

/-- R17: a channel that is not IDLE takes a cause. -/
theorem stayed_caused (stop : Prop) (k : FreezeCause) {a : Channel} (hi : a.state ≠ .idle) :
    Stayed stop a (caused k a) := by
  have hst : (caused k a).state = a.state ∨ a.state = .running ∧ (caused k a).state = .frozen := by
    unfold caused
    dsimp only
    split
    · rename_i h; exact .inr ⟨h.1, rfl⟩
    · exact .inl rfl
  have hidle : (caused k a).state ≠ .idle := by rwa [ne_eq, caused_idle]
  refine ⟨⟨id, fun h => ⟨h.1, h.2.1, h.2.2.1, h.2.2.2.1, fun e => absurd e hidle⟩, fun h => ⟨⟨?_, ?_⟩, ?_⟩⟩, ?_,
    fun _ => rfl⟩
  · rintro (e | e)
    · exact absurd e hidle
    · rcases hst with hs | ⟨-, hs⟩
      · have hr : a.state = .running := hs.symm.trans e
        have he := freezeSet_has_of_isEmpty (h.1.1 (.inr hr)) k
        simp [caused, hr, he] at e
      · rw [hs] at e; cases e
  · exact fun _ => freezeSet_isEmpty_add _ _
  · intro hstop e
    have hold : a.freeze.wallStop = true := h.2 hstop (by
      rcases hst with hs | ⟨hs, -⟩
      · rwa [hs] at e
      · exact .inl hs)
    show (a.freeze.add k).wallStop = true
    cases k <;> simp [FreezeSet.add, hold]
  · rcases hst with hs | ⟨hr, hs⟩
    · rw [hs]
    · rw [hs, hr]; simp

theorem stayed_addCause (stop : Prop) (k : FreezeCause) (c : Chan) (s : State) (d : Chan) :
    Stayed stop (s.chan d) ((addCause k c s).chan d) := by
  have h := (addCause_spec k c s).1 d
  by_cases hd : d = c ∧ (s.chan d).state ≠ .idle
  · exact (stayed_caused stop k hd.2).trans (stayed_keptAs stop (h.1 hd.1 hd.2))
  · exact stayed_keptAs stop (h.2 (by tauto))

/-- R122: a cause that reaches every channel. -/
theorem stayed_reached (stop : Prop) {k : FreezeCause} {q : Chan → Prop} {s t : State} (h : CauseReaches k q s t) (d : Chan) :
    Stayed stop (s.chan d) (t.chan d) := by
  by_cases hd : q d ∧ (s.chan d).state ≠ .idle
  · exact (stayed_caused stop k hd.2).trans (stayed_keptAs stop ((h d).1 hd.1 hd.2))
  · exact stayed_keptAs stop ((h d).2 (by tauto))

/-- R16: a RUNNING or FROZEN channel goes FAULTED. -/
theorem stayed_faulted (stop : Prop) {a b : Channel} (h : a.state = .running ∨ a.state = .frozen)
    (hs : b.state = .faulted) (hf : b.freeze = a.freeze) (hp : b.profile = a.profile) (hj : b.jack = a.jack)
    (hc : b.config = a.config) : Stayed stop a b := by
  refine ⟨⟨by unfold SetpointOk; rw [hp]; exact id, fun k => ?_, fun k => ⟨⟨?_, ?_⟩, fun hstop _ => ?_⟩⟩, ?_, fun e => ?_⟩
  · obtain ⟨h1, h2, h3, h4, -⟩ := k
    unfold LoopOk
    rw [hj, hc, hs]
    exact ⟨h1, h2, h3, h4, fun e => by cases e⟩
  · rw [hs]; rintro (e | e) <;> cases e
  · rw [hs]; intro e; cases e
  · rw [hf]; exact k.2 hstop (h.imp_right .inl)
  · rw [hs]; rcases h with h | h <;> simp [h]
  · rcases h with h | h <;> rw [h] at e <;> cases e

theorem stayed_fault (stop : Prop) (cause : FaultCause) (c : Chan) (s : State) (d : Chan) :
    Stayed stop (s.chan d) ((faultChannel cause c s).chan d) := by
  by_cases h : (s.chan c).state = .running ∨ (s.chan c).state = .frozen
  · obtain ⟨hc, ho, -⟩ := (faultChannel_spec cause c s h).1
    by_cases hd : d = c
    · subst hd
      have hf := hc.1
      refine stayed_faulted stop h ?_ ?_ ?_ ?_ ?_ <;> rw [hf]
    · exact stayed_keptAs stop (ho d hd)
  · rw [faultChannel_ignored cause c s h]; exact Stayed.refl _ _

/-- R13, R125: a channel loses the causes of `g`: a FROZEN one whose set that empties goes RUNNING. -/
theorem stayed_uncaused {stop : Prop} {g : FreezeSet} {a b : Channel} (hg : g.wallStop = true → ¬ stop)
    (hf : b.freeze = a.freeze.without g)
    (hs : b.state = if a.state = .frozen ∧ (a.freeze.without g).isEmpty = true then .running else a.state)
    (hp : SetpointOk a → SetpointOk b) (hj : b.jack.integral = a.jack.integral ∨ b.jack.integral = 0)
    (hv : b.jack.lastValve = a.jack.lastValve) (hc : b.config = a.config) (hr : b.filed = a.filed) : Stayed stop a b := by
  have hst : a.state = .frozen ∧ b.state = .running ∧ b.freeze.isEmpty = true ∨
      b.state = a.state ∧ (a.state = .frozen → b.freeze.isEmpty = false) := by
    rw [hf, hs]
    split
    · rename_i h; exact .inl ⟨h.1, rfl, h.2⟩
    · rename_i h; exact .inr ⟨rfl, fun e => by simpa [e] using h⟩
  refine ⟨⟨hp, ?_, fun h => ⟨⟨?_, ?_⟩, ?_⟩⟩, ?_, fun _ => hr⟩
  · rintro ⟨k1, k2, k3, k4, k5⟩
    unfold LoopOk
    rw [hv, hc]
    refine ⟨?_, ?_, k3, k4, fun e => ?_⟩
    · rcases hj with hj | hj <;> omega
    · rcases hj with hj | hj <;> omega
    · rcases hj with hj | hj
      · rw [hj]
        refine k5 ?_
        rcases hst with ⟨-, k, -⟩ | ⟨k, -⟩
        · rw [k] at e; cases e
        · rwa [← k]
      · exact hj
  · rintro e
    rcases hst with ⟨-, -, k⟩ | ⟨k, -⟩
    · exact k
    · rw [hf]; exact freezeSet_isEmpty_without g (h.1.1 (by rwa [k] at e))
  · intro e
    rcases hst with ⟨-, k, -⟩ | ⟨k, k'⟩
    · rw [k] at e; cases e
    · exact k' (k.symm.trans e)
  · intro hstop e
    have hold : a.freeze.wallStop = true := h.2 hstop (by
      rcases hst with ⟨k, -⟩ | ⟨k, -⟩
      · exact .inr (.inl k)
      · rwa [k] at e)
    have : g.wallStop = false := by
      by_contra k
      exact hg (by simpa using k) hstop
    rw [hf]
    simp [FreezeSet.without, hold, this]
  · rcases hst with ⟨h1, h2, -⟩ | ⟨h, -⟩
    · simp [h1, h2]
    · rw [h]

theorem onlyStale_wallStop : FreezeSet.onlyStale.wallStop = false := rfl

/-- R13: the accounting of a step moves neither acc nor the ceiling, and the integral at most to 0. -/
theorem accounted_bounds (a : Channel) :
    (accounted a).profile.acc = a.profile.acc ∧ (accounted a).profile.ceiling = a.profile.ceiling ∧
      ((accounted a).jack.integral = a.jack.integral ∨ (accounted a).jack.integral = 0) ∧
      (accounted a).jack.lastValve = a.jack.lastValve ∧ (accounted a).config = a.config ∧ (accounted a).filed = a.filed := by
  unfold accounted
  split <;> simp [Profile.disengage]

theorem stayed_leave (stop : Prop) (phase : StepPhase) (index : Nat) (c : Chan) (s : State) (d : Chan) :
    Stayed stop (s.chan d) ((leaveStep phase index c s).chan d) := by
  obtain ⟨hc, ho, -⟩ := leaveStep_spec phase index c s
  by_cases hd : d = c
  · subst hd
    rw [hc]
    obtain ⟨h1, h2, h3, h4, h5, h6⟩ := accounted_bounds (s.chan d)
    refine stayed_uncaused (g := FreezeSet.onlyStale) (by simp [onlyStale_wallStop]) rfl rfl ?_ h3 h4 h5 h6
    intro h
    show (accounted _).profile.acc ≤ (accounted _).profile.ceiling * 256
    rw [h1, h2]
    exact h
  · exact stayed_keptAs stop (ho d hd)

/-- R125, R142: the channel that loses causes keeps everything but them, its state and its working fields. -/
theorem removeCauses_chan (g : FreezeSet) (c : Chan) (s : State) :
    ∃ f st w, (removeCauses g c s).chan c = { s.chan c with freeze := f, state := st, work := w } := by
  have thaw (u : State) : ∃ w, (thawEffect c u).chan c = { u.chan c with work := w } := by
    unfold thawEffect
    split
    · exact ⟨_, by simp; rfl⟩
    · exact ⟨_, ((claimsOnly_makeClaim c u).1 c).1⟩
    all_goals exact ⟨_, rfl⟩
  unfold removeCauses
  simp only [updChan_eq, chan_setChan, setChan_setChan]
  split
  · obtain ⟨w, hw⟩ := thaw (s.setChan c { s.chan c with freeze := (s.chan c).freeze.without g, state := .running })
    exact ⟨_, _, w, by rw [hw, chan_setChan]⟩
  · exact ⟨_, _, _, chan_setChan _ _ _⟩

theorem stayed_uncause {stop : Prop} {g : FreezeSet} (hg : g.wallStop = true → ¬ stop) (c : Chan) (s : State) (d : Chan) :
    Stayed stop (s.chan d) ((removeCauses g c s).chan d) := by
  obtain ⟨ho, -, -, hf, hs⟩ := removeCauses_spec g c s
  by_cases hd : d = c
  · subst hd
    obtain ⟨f, st, w, hc⟩ := removeCauses_chan g d s
    rw [hc] at hf hs ⊢
    exact stayed_uncaused hg hf hs id (.inl rfl) rfl rfl rfl
  · exact stayed_keptAs stop (ho d hd)

/-- R22: a FAULTED channel goes on. -/
theorem stayed_unfault (stop : Prop) {a b : Channel} (hf : a.state = .faulted) (h : Tended a b)
    (hfr : b.freeze = a.freeze) (hs : b.state = if b.freeze.isEmpty then .running else .frozen) : Stayed stop a b := by
  refine ⟨⟨h.setpoint, h.loop, fun k => ⟨⟨?_, ?_⟩, fun hstop _ => ?_⟩⟩, ?_, fun e => by rw [hf] at e; cases e⟩
  · rw [hs]; split <;> simp_all
  · rw [hs]; split <;> simp_all
  · rw [hfr]; exact k.2 hstop (.inr (.inr hf))
  · rw [hs, hf]; split <;> simp

/-- R24: only an IDLE channel is configured, and its integral is 0. -/
theorem stayed_configure (stop : Prop) {a : Channel} (hi : a.state = .idle) (k : ChannelConfig) :
    Stayed stop a { a with config := k } := by
  refine ⟨⟨id, ?_, id⟩, Iff.rfl, fun _ => rfl⟩
  rintro ⟨-, -, h3, h4, h5⟩
  have := h5 hi
  exact ⟨by simp [this], by simp [this], h3, h4, h5⟩

/-! ### Programs that start and stop -/

/-- R9: the causes of a start hold WALL_STOP while the wall state is STOP. -/
theorem startCauses_wallStop {s : State} (f : FreezeSet) (h : s.wallState = .stop) :
    (startCauses s f).wallStop = true := by
  unfold startCauses
  cases s.pins.panel <;> simp [h, FreezeSet.add]

/-- A channel as the start of a program, or its going IDLE, leaves it. -/
structure Fresh (stop : Prop) (a b : Channel) : Prop where
  lived : Lived stop a b
  guarded : Guarded stop b
  config : b.config = a.config
  state : b.state ≠ .filing
  work : (WorkOk a → WorkOk b) ∧ (standingOf a.work = .none → standingOf b.work = .none)

theorem fresh_startProgram (i : Nat) (c : Chan) (s : State) :
    Fresh (s.wallState = .stop) (s.chan c) ((startProgram i c s).chan c) := by
  obtain ⟨hs, hf, -, hp, hw, hc, hg, hj, hv⟩ := startProgram_chan i c s
  have hgu : Guarded (s.wallState = .stop) ((startProgram i c s).chan c) := by
    refine ⟨⟨?_, ?_⟩, fun h _ => ?_⟩
    · rw [hs, hf]; split <;> simp_all
    · rw [hs, hf]; split <;> simp_all
    · rw [hf]; exact startCauses_wallStop _ h
  refine ⟨⟨fun _ => ?_, fun h => ?_, fun _ => hgu⟩, hgu, hc, ?_, fun _ _ => hw, fun _ => by rw [hw]; rfl⟩
  · unfold SetpointOk; rw [hg]; exact Nat.zero_le _
  · obtain ⟨h1, h2, h3, h4, h5⟩ := h
    exact ⟨by rw [hj]; omega, by rw [hj]; omega, by rwa [hv], by rwa [hv], fun _ => hj⟩
  · rw [hs]; split <;> simp

theorem fresh_goIdle (stop : Prop) (c : Chan) (s : State) : Fresh stop (s.chan c) ((goIdle c s).chan c) := by
  have hc : (goIdle c s).chan c = { s.chan c with
      state := .idle, filed := none, freeze := FreezeSet.empty
      jack := { (s.chan c).jack with integral := 0, overloads := 0 } } := by simp [goIdle]
  rw [hc]
  have hgu : Guarded stop { s.chan c with
      state := .idle, filed := none, freeze := FreezeSet.empty
      jack := { (s.chan c).jack with integral := 0, overloads := 0 } } := by
    refine ⟨⟨fun _ => rfl, fun e => by cases e⟩, fun _ e => ?_⟩
    rcases e with e | e | e <;> cases e
  refine ⟨⟨id, fun h => ?_, fun _ => hgu⟩, hgu, rfl, by simp, id, id⟩
  obtain ⟨h1, h2, h3, h4, h5⟩ := h
  exact ⟨by dsimp only; omega, by dsimp only; omega, h3, h4, fun _ => rfl⟩

theorem fresh_afterFiling (c : Chan) (s : State) :
    Fresh (s.wallState = .stop) (s.chan c) ((afterFiling c s).chan c) := by
  unfold afterFiling
  split
  · rename_i i _
    have h := fresh_startProgram i c (s.updChan c fun ch => { ch with pendingProgram := none })
    obtain ⟨h1, h2, h3, h4, h5, h6⟩ := h
    simp only [updChan_eq, chan_setChan] at h1 h2 h3 h4 h5 h6
    refine ⟨⟨h1.1, h1.2, fun _ => h2⟩, h2, h3, h4, h5, h6⟩
  · exact fresh_goIdle _ c s

theorem wallState_endedState (c : Chan) (s : State) : (endedState c s).wallState = s.wallState :=
  wallState_congr (by rw [endedState, unlockCurrent_keeps]; rfl)

theorem endedState_chan (c : Chan) (s : State) : (endedState c s).chan c = ended (s.chan c) := chan_setChan _ _ _

theorem endedState_records (c : Chan) (s : State) : (endedState c s).records = s.records := by
  rw [endedState, unlockCurrent_keeps]; rfl

/-- R19, R185: the channel whose program ends: pushed on and fresh, or FILING with its record. -/
inductive Ended (s t : State) (c : Chan) : Prop
  | fresh (l : List Record) (h : Fresh (s.wallState = .stop) (ended (s.chan c)) (t.chan c))
      (room : l = [] ∨ l.length = 1 ∧ s.records.queue.length < 16)
      (queue : t.records = { s.records with queue := s.records.queue ++ l })
  | filing (r : Record) (h : t.chan c = { ended (s.chan c) with state := .filing, filed := some r })
      (full : 16 ≤ s.records.queue.length) (queue : t.records = { s.records with filing := s.records.filing ++ [c] })

theorem endProgram_ended (o : RunOutcome) (c : Chan) (s : State) :
    Ended s (endProgram o c s) c ∧ ∀ d, d ≠ c → (endProgram o c s).chan d = s.chan d := by
  have hw := wallState_endedState c s
  have hc := endedState_chan c s
  have hr := endedState_records c s
  refine ⟨?_, fun d hd => ?_⟩
  · rcases endProgram_cases o c s with h | ⟨r, h⟩ <;> rw [h]
    · refine .fresh [] ?_ (.inl rfl) ?_
      · rw [← hw, ← hc]; exact fresh_afterFiling c _
      · rw [(afterFiling_spec c _).1]; simp [hr]
    · by_cases hroom : (endedState c s).records.queue.length < 16
      · refine .fresh [r] ?_ (.inr ⟨rfl, by rwa [← hr]⟩) (by rw [(offerRecord_spec r c _).2.1 hroom, hr])
        have hq : offerRecord r c (endedState c s) =
            afterFiling c ((endedState c s).updRecords fun q => { q with queue := q.queue ++ [r] }) := by
          unfold offerRecord State.queueHasRoom
          simp [hroom]
        have hf := fresh_afterFiling c ((endedState c s).updRecords fun q => { q with queue := q.queue ++ [r] })
        rw [hq, ← hw, ← hc]
        exact hf
      · obtain ⟨-, -, h3⟩ := (offerRecord_spec r c (endedState c s)).2.2 (by omega)
        refine .filing r ?_ (by rw [← hr]; omega) (by rw [h3, hr])
        unfold offerRecord State.queueHasRoom
        simp [hroom, hc]
  · obtain ⟨b, q, hb⟩ := endProgram_keeps o c s
    rw [hb]
    show ((unlockCurrent c s).setChan c b).chan d = s.chan d
    rw [chan_setChan_ne _ _ hd, unlockCurrent_chan]

/-- R19: the channel whose program ends keeps the bounds and the freeze causes. -/
theorem lived_endProgram (o : RunOutcome) (c : Chan) (s : State) (d : Chan) :
    Lived (s.wallState = .stop) (s.chan d) ((endProgram o c s).chan d) := by
  obtain ⟨he, ho⟩ := endProgram_ended o c s
  by_cases hd : d = c
  · subst hd
    rcases he with ⟨l, h, -, -⟩ | ⟨r, h, -, -⟩
    · exact ⟨fun k => h.lived.setpoint k, fun k => h.lived.loop k, fun _ => h.guarded⟩
    · rw [h]
      refine ⟨id, fun k => ⟨k.1, k.2.1, k.2.2.1, k.2.2.2.1, fun e => by cases e⟩, fun _ => ⟨⟨?_, ?_⟩, fun _ => ?_⟩⟩
      · rintro (e | e) <;> cases e
      · intro e; cases e
      · rintro (e | e | e) <;> cases e
  · rw [ho d hd]; exact (Stayed.refl _ _).toLived

/-- R186: a freed place: nothing waits for it, or the head of the filing list takes it. -/
theorem freePlace_cases (s : State) :
    (s.records.filing = [] ∧ (freePlace s).chans = s.chans ∧
      (freePlace s).records = { queue := s.records.queue.tail, filing := [] }) ∨
    ∃ c rest, s.records.filing = c :: rest ∧
      (freePlace s).records = { queue := s.records.queue.tail ++ (s.chan c).filed.toList, filing := rest } ∧
      Fresh (s.wallState = .stop) (s.chan c) ((freePlace s).chan c) ∧
      ∀ d, d ≠ c → (freePlace s).chan d = s.chan d := by
  unfold freePlace
  dsimp only
  split <;> rename_i hf
  · exact .inl ⟨hf, rfl, by simp only [updRecords_records] at hf ⊢; rw [hf]⟩
  · rename_i c rest
    generalize hu : (s.updRecords fun q => { q with queue := q.queue.tail }).updRecords (fun q =>
      { queue := q.queue ++ ((s.updRecords fun q => { q with queue := q.queue.tail }).chan c).filed.toList
        filing := rest }) = u
    have hc (d : Chan) : u.chan d = s.chan d := by rw [← hu]; rfl
    have hw : u.wallState = s.wallState := wallState_congr (by rw [← hu]; rfl)
    have ha := (afterFiling_spec c u).1
    refine .inr ⟨c, rest, hf, ?_, ?_, fun d hd => ?_⟩
    · rw [ha, ← hu]; rfl
    · rw [← hc c, ← hw]; exact fresh_afterFiling c u
    · rw [ha, chan_setChan_ne _ _ hd, hc]

/-- The blocks' work, on each channel: the bounds and the freeze causes are kept; and but for the ends of programs and the
freed places, the Record Queue and the FILING channels are too. -/
theorem work_stayed {s t : State} (h : Work true s t) :
    (t.records = s.records ∧ ∀ d, Stayed (s.wallState = .stop) (s.chan d) (t.chan d)) ∨
    (∃ o c, ((s.chan c).state = .running ∨ (s.chan c).state = .frozen ∨ (s.chan c).state = .faulted) ∧
      t = endProgram o c s) ∨ t = freePlace s := by
  have one {c : Chan} {b : Channel} (hb : Stayed (s.wallState = .stop) (s.chan c) b) (d : Chan) :
      Stayed (s.wallState = .stop) (s.chan d) ((s.setChan c b).chan d) := by
    by_cases hd : d = c
    · subst hd; rwa [chan_setChan]
    · rw [chan_setChan_ne _ _ hd]; exact Stayed.refl _ _
  cases h with
  | tables same _ _ _ =>
    refine .inl ⟨same.2.2.2.2, fun d => ?_⟩
    have : t.chan d = s.chan d := by simp only [State.chan, same.1]
    rw [this]; exact Stayed.refl _ _
  | note c h => exact .inl ⟨rfl, one (stayed_noted _ h)⟩
  | cause k c => exact .inl ⟨(freezeKeeps_addCause k c s).2.2.2.2.2.1, stayed_addCause _ k c s⟩
  | uncause g c h => exact .inl ⟨(freezeKeeps_removeCauses g c s).2.2.2.2.2.1, stayed_uncause h c s⟩
  | fault cause c => exact .inl ⟨(freezeKeeps_faultChannel cause c s).2.2.2.2.2.1, stayed_fault _ cause c s⟩
  | unfault c hf h hfr hs => exact .inl ⟨rfl, one (stayed_unfault _ hf h hfr hs)⟩
  | leave phase index c _ => exact .inl ⟨(freezeKeeps_leaveStep phase index c s).2.2.2.2.2.1, stayed_leave _ _ _ c s⟩
  | configure c k h _ => exact .inl ⟨rfl, one (stayed_configure _ h k)⟩
  | claim c _ _ _ =>
    have hc := claimsOnly_makeClaim c s
    exact .inl ⟨hc.fields.2.2.2.2.2.1, fun d => stayed_keptAs _ (hc.1 d)⟩
  | arbiter p =>
    obtain ⟨hk, hf, -⟩ := arbiterCycle_spec p s
    exact .inl ⟨hf.2.2.2.2.2.1, fun d => stayed_keptAs _ (hk d)⟩
  | demand p x =>
    have hc := claimsOnly_updArb s p fun a => { a with lastDemand := x }
    exact .inl ⟨hc.fields.2.2.2.2.2.1, fun d => stayed_keptAs _ (hc.1 d)⟩
  | @wall w x h =>
    obtain ⟨-, -, hk, hr, hn⟩ := changeWall_spec w x s
    refine .inl ⟨hk.2.2.2.2.2.1, fun d => ?_⟩
    by_cases hstop : (s.setWall w x).wallState = .stop ∧ s.wallState ≠ .stop
    · exact stayed_reached _ (hr hstop.1 hstop.2) d
    · rw [hn hstop]; exact Stayed.refl _ _
  | start i c h =>
    have hf := fresh_startProgram i c s
    refine .inl ⟨by rw [startProgram_others]; rfl, ?_⟩
    rw [startProgram_others]
    exact one ⟨hf.lived, by simp [h, hf.state], fun e => by rw [h] at e; cases e⟩
  | finish o c live _ => exact .inr (.inl ⟨o, c, live, rfl⟩)
  | free => exact .inr (.inr rfl)

/-- The blocks' work keeps the bounds and the freeze causes of every channel. -/
theorem work_lived {s t : State} (h : Work true s t) (d : Chan) : Lived (s.wallState = .stop) (s.chan d) (t.chan d) := by
  rcases work_stayed h with ⟨-, h⟩ | ⟨o, c, -, rfl⟩ | rfl
  · exact (h d).toLived
  · exact lived_endProgram o c s d
  · rcases freePlace_cases s with ⟨-, h, -⟩ | ⟨c, rest, -, -, h, ho⟩
    · have : (freePlace s).chan d = s.chan d := by simp only [State.chan, h]
      rw [this]; exact (Stayed.refl _ _).toLived
    · by_cases hd : d = c
      · subst hd; exact h.lived
      · rw [ho d hd]; exact (Stayed.refl _ _).toLived

end Sys2Proof.Machine.Laws
end

section
/-! PROOFS. The invariants of the tables, the points, the bounds, the freeze causes and the Record Queue, kept by every
kind of change and so by every step. -/

namespace Sys2Proof.Machine.Laws

/-! ### Resets and cycle starts -/

theorem deviceReset_chan (s : State) (c : Chan) : (deviceReset s).chan c = Channel.afterReset (s.chan c).config := by
  simp [deviceReset, State.chan]

theorem deviceReset_wall (s : State) (w : Point) : (deviceReset s).wall w = (s.wall w).afterReset := by
  simp [deviceReset, State.wall]

/-- R154: the marks of the last cycle start are taken away. -/
theorem raiseCycleStart_chan (s : State) (c : Chan) :
    (raiseCycleStart s).chan c = { s.chan c with tookUp := false, becameSettling := false } := by
  simp [raiseCycleStart, State.chan]

theorem atPowerOn_chan (strap : BitVec 6) (panel : Bool) (c : Chan) :
    (State.atPowerOn strap panel).chan c = Channel.afterReset ChannelConfig.defaults := by
  simp [State.atPowerOn, State.chan]

theorem atPowerOn_wall (strap : BitVec 6) (panel : Bool) (w : Point) :
    (State.atPowerOn strap panel).wall w = { config := WallConfig.defaults, state := .normal, latch := false } := by
  simp [State.atPowerOn, State.wall]

theorem noted_raiseCycleStart (s : State) (c : Chan) : Noted (s.chan c) ((raiseCycleStart s).chan c) := by
  rw [raiseCycleStart_chan]
  exact noted_of_same rfl rfl rfl rfl rfl rfl rfl rfl rfl

theorem chan_congr {s t : State} (h : SameBlocks s t) (c : Chan) : t.chan c = s.chan c := by
  simp only [State.chan, h.1]

/-! ### Tables -/

/-- R6, R145: a device reset keeps the tables in canonical form. -/
theorem tablesCanonical_deviceReset {s : State} (h : s.tablesCanonical) : (deviceReset s).tablesCanonical := by
  obtain ⟨h1, h2, h3, h4, h5, h6, -, -, -, -, h11, h12⟩ := h
  have empty : Sparse.wf 0 ([] : SparseTable Nat) := ⟨.nil, by simp⟩
  exact ⟨h1, h2, h3, h4, h5, h6, empty, empty, empty, empty, h11,
    sparse_map_wf none s.inputs _ h12 fun v hv => by cases v <;> simp_all⟩

theorem tablesCanonical_atPowerOn (strap : BitVec 6) (panel : Bool) : (State.atPowerOn strap panel).tablesCanonical := by
  simp [State.tablesCanonical, State.atPowerOn, Sparse.wf]

/-- Settles O52: every kind of change keeps the tables in canonical form. -/
theorem stepKeepsTablesCanonical : Obligations.StepKeepsTablesCanonical := by
  intro s t hs hst
  refine step_keeps (fun u v hu he => ?_) hs hst
  cases he with
  | work h => exact work_tablesCanonical h hu
  | beside _ canonical => exact canonical hu
  | reset => exact tablesCanonical_deviceReset hu
  | powerOn strap panel => exact tablesCanonical_atPowerOn strap panel
  | raise => exact hu

/-! ### Wall points -/

/-- R130: a point formed again by a device reset. -/
theorem pointOk_afterReset {x : WallPoint} (h : PointOk x) : PointOk x.afterReset := by
  obtain ⟨hl, hd⟩ := h
  refine ⟨?_, fun off => ?_⟩
  · unfold WallPoint.afterReset
    dsimp only
    split_ifs <;> simp_all
  · have clear : x.latch ≠ true := fun k => by
      have := (hl.mp k).symm.trans (hd off)
      cases this
    show (if x.latch then PointState.stop else if x.config.enable then .stale else .normal) = .normal
    have off' : x.config.enable = false := off
    simp [clear, off']

theorem pointOk_work {s t : State} (h : Work true s t) (k : ∀ w, PointOk (s.wall w)) (w : Point) : PointOk (t.wall w) := by
  rcases work_walls h with hw | ⟨v, x, hx, rfl⟩
  · have : t.wall w = s.wall w := by simp only [State.wall, hw]
    rw [this]; exact k w
  · have hw : (s.changeWall v x).wall w = (s.setWall v x).wall w := by
      simp only [State.wall, (changeWall_spec v x s).1, setWall_walls]
    rw [hw]
    by_cases hv : w = v
    · subst hv; rw [wall_setWall]; exact hx (k w)
    · rw [wall_setWall_ne _ _ hv]; exact k w

/-- Settles O55: every kind of change keeps each point STOP exactly with its latch. -/
theorem stepKeepsStopLatched : Obligations.StepKeepsStopLatched := by
  intro s t hs hst
  refine step_keeps (P := fun s => ∀ w, PointOk (s.wall w)) (fun u v hu he w => ?_) hs hst
  cases he with
  | work h => exact pointOk_work h hu w
  | beside same _ =>
    have : v.wall w = u.wall w := by simp only [State.wall, same.2.2.2.1]
    rw [this]; exact hu w
  | reset => rw [deviceReset_wall]; exact pointOk_afterReset (hu w)
  | powerOn strap panel =>
    have : PointOk ((State.atPowerOn strap panel).wall w) := by rw [atPowerOn_wall]; exact ⟨by simp, by simp⟩
    exact this
  | raise => exact hu w

/-! ### Bounds -/

theorem setpointOk_event {s t : State} (h : Event s t) (k : ∀ c, SetpointOk (s.chan c)) (c : Chan) :
    SetpointOk (t.chan c) := by
  cases h with
  | work h => exact (work_lived h c).setpoint (k c)
  | beside same _ => rw [chan_congr same]; exact k c
  | reset => rw [deviceReset_chan]; exact Nat.zero_le _
  | powerOn strap panel =>
    have : SetpointOk ((State.atPowerOn strap panel).chan c) := by rw [atPowerOn_chan]; exact Nat.zero_le _
    exact this
  | raise => exact (noted_raiseCycleStart s c).setpoint (k c)

/-- R25, R45: a channel after a reset is within its loop's bounds. -/
theorem loopOk_afterReset (k : ChannelConfig) : LoopOk (Channel.afterReset k) := by
  refine ⟨?_, ?_, ?_, ?_, fun _ => rfl⟩ <;> simp [Channel.afterReset]

theorem loopOk_event {s t : State} (h : Event s t) (k : ∀ c, LoopOk (s.chan c)) (c : Chan) : LoopOk (t.chan c) := by
  cases h with
  | work h => exact (work_lived h c).loop (k c)
  | beside same _ => rw [chan_congr same]; exact k c
  | reset => rw [deviceReset_chan]; exact loopOk_afterReset _
  | powerOn strap panel =>
    have : LoopOk ((State.atPowerOn strap panel).chan c) := by rw [atPowerOn_chan]; exact loopOk_afterReset _
    exact this
  | raise => exact (noted_raiseCycleStart s c).loop (k c)

/-- R27: an accumulator under its ceiling gives a setpoint under it. -/
theorem setpoint_le {s : State} (c : Chan) (h : SetpointOk (s.chan c)) : s.setpoint c ≤ (s.chan c).profile.ceiling := by
  unfold SetpointOk at h
  unfold State.setpoint
  omega

theorem stepKeepsSetpointsUnderCeiling : StepKeepsSetpointsUnderCeiling := by
  intro s t hs hst
  have ht : ∀ c, SetpointOk (t.chan c) :=
    step_keeps (P := fun s => ∀ c, SetpointOk (s.chan c)) (fun _ _ hu he => setpointOk_event he hu) hs hst
  exact ⟨ht, fun c => setpoint_le c (ht c)⟩

theorem stepKeepsLoopsBounded : StepKeepsLoopsBounded := fun _ _ hs hst =>
  step_keeps (P := fun s => ∀ c, LoopOk (s.chan c)) (fun _ _ hu he => loopOk_event he hu) hs hst

/-- Settles O54: every kind of change keeps each accumulator under its ceiling and each loop within its bounds. -/
theorem stepKeepsSetpointsAndLoopsBounded : Obligations.StepKeepsSetpointsAndLoopsBounded :=
  ⟨stepKeepsSetpointsUnderCeiling, stepKeepsLoopsBounded⟩

/-! ### Freeze causes -/

/-- R122: a change of a wall point keeps WALL_STOP on every channel with a program in progress. -/
theorem guarded_work {s t : State} (h : Work true s t) (k : ∀ c, Guarded (s.wallState = .stop) (s.chan c)) (c : Chan) :
    Guarded (t.wallState = .stop) (t.chan c) := by
  have hc := (work_lived h c).guarded (k c)
  rcases work_walls h with hw | ⟨w, x, -, rfl⟩
  · rwa [wallState_congr hw]
  · obtain ⟨hws, -, -, hr, -⟩ := changeWall_spec w x s
    have hst : (s.changeWall w x).wallState = (s.setWall w x).wallState := wallState_congr hws
    refine ⟨hc.1, fun hstop => ?_⟩
    rw [hst] at hstop
    by_cases old : s.wallState = .stop
    · exact hc.2 old
    · intro live
      by_cases hi : (s.chan c).state = .idle
      · have := keptAs_state ((hr hstop old c).2 (.inr hi))
        rw [this, hi] at live
        rcases live with e | e | e <;> cases e
      · have hf := keptAs_freeze ((hr hstop old c).1 trivial hi)
        rw [hf]
        rfl

theorem guarded_afterReset (stop : Prop) (k : ChannelConfig) : Guarded stop (Channel.afterReset k) := by
  refine ⟨⟨fun _ => rfl, fun e => by cases e⟩, fun _ e => ?_⟩
  rcases e with e | e | e <;> cases e

theorem guarded_event {s t : State} (h : Event s t) (k : ∀ c, Guarded (s.wallState = .stop) (s.chan c)) (c : Chan) :
    Guarded (t.wallState = .stop) (t.chan c) := by
  cases h with
  | work h => exact guarded_work h k c
  | beside same _ => rw [chan_congr same, wallState_congr same.2.2.2.1]; exact k c
  | reset => rw [deviceReset_chan]; exact guarded_afterReset _ _
  | powerOn strap panel =>
    have (stop : Prop) : Guarded stop ((State.atPowerOn strap panel).chan c) := by
      rw [atPowerOn_chan]; exact guarded_afterReset _ _
    exact this _
  | raise => exact (stayed_noted (s.wallState = .stop) (noted_raiseCycleStart s c)).guarded (k c)

/-- Settles O56: a RUNNING channel holds no cause, and while the wall state is STOP it would have to hold WALL_STOP. -/
theorem noChannelRunsWhileWallStops : Obligations.NoChannelRunsWhileWallStops := by
  intro s t hf hh hst
  have ht : ∀ c, Guarded (t.wallState = .stop) (t.chan c) :=
    step_keeps (P := fun s => ∀ c, Guarded (s.wallState = .stop) (s.chan c)) (fun _ _ hu he => guarded_event he hu)
      ((guarded_iff s).mpr ⟨hf, hh⟩) hst
  obtain ⟨tf, th⟩ := (guarded_iff t).mp ht
  refine ⟨tf, th, fun hstop c run => ?_⟩
  have empty : (t.chan c).freeze.has .wallStop = false := freezeSet_has_of_isEmpty ((ht c).1.1 (.inr run)) .wallStop
  have held : (t.chan c).freeze.wallStop = true := th hstop c (.inl run)
  rw [FreezeSet.has, held] at empty
  cases empty

/-! ### The Record Queue -/

/-- The Record Queue is not touched, and no channel goes FILING or leaves it. -/
theorem recordsOk_stayed {s t : State} (hr : t.records = s.records)
    (hst : ∀ c, (t.chan c).state = .filing ↔ (s.chan c).state = .filing)
    (hfl : ∀ c, (s.chan c).state = .filing → (t.chan c).filed = (s.chan c).filed) (h : s.recordsOk) : t.recordsOk := by
  obtain ⟨h1, h2, h3, h4, h5⟩ := h
  unfold State.recordsOk
  rw [hr]
  refine ⟨h1, h2, h3, fun c => (h4 c).trans (hst c).symm, fun c hc => ?_⟩
  rw [hfl c ((h4 c).mp hc)]
  exact h5 c hc

/-- R19, R185: a program that ends pushes its record, or its channel joins the filing list of a full queue. -/
theorem recordsOk_endProgram (o : RunOutcome) (c : Chan) {s : State} (h : s.recordsOk)
    (live : (s.chan c).state = .running ∨ (s.chan c).state = .frozen ∨ (s.chan c).state = .faulted) :
    (endProgram o c s).recordsOk := by
  obtain ⟨h1, h2, h3, h4, h5⟩ := h
  obtain ⟨he, ho⟩ := endProgram_ended o c s
  have hout : (s.chan c).state ≠ .filing := by rcases live with e | e | e <;> rw [e] <;> simp
  have hnot : c ∉ s.records.filing := fun k => hout ((h4 c).mp k)
  have hother (d : Chan) (hd : d ≠ c) : d ∈ s.records.filing ↔ ((endProgram o c s).chan d).state = .filing := by
    rw [ho d hd]; exact h4 d
  unfold State.recordsOk
  rcases he with ⟨l, hf, room, hq⟩ | ⟨r, hc, full, hq⟩
  · have hfull : s.records.filing ≠ [] → l = [] := fun k => by
      have := h3 k
      rcases room with e | ⟨-, e⟩
      · exact e
      · omega
    rw [hq]
    refine ⟨?_, h2, fun k => ?_, fun d => ?_, fun d hd => ?_⟩
    · rw [List.length_append]
      rcases room with rfl | ⟨e, e'⟩
      · simpa using h1
      · omega
    · simpa [hfull k] using h3 k
    · by_cases hd : d = c
      · subst hd; simp [hnot, hf.state]
      · exact hother d hd
    · have hd' : d ≠ c := fun e => hnot (e ▸ hd)
      rw [ho d hd']; exact h5 d hd
  · rw [hq]
    refine ⟨h1, ?_, fun _ => by simp only; omega, fun d => ?_, fun d hd => ?_⟩
    · exact List.nodup_append.mpr ⟨h2, by simp, fun a ha b hb e => hnot (by simp_all)⟩
    · by_cases hd : d = c
      · subst hd; simp [hc]
      · simpa [hd] using hother d hd
    · by_cases hd' : d = c
      · subst hd'; rw [hc]; rfl
      · rw [ho d hd']; exact h5 d (by simpa [hd'] using hd)

/-- R186: the freed place goes to the head of the filing list, and the queue is full again. -/
theorem recordsOk_freePlace {s : State} (h : s.recordsOk) : (freePlace s).recordsOk := by
  obtain ⟨h1, h2, h3, h4, h5⟩ := h
  unfold State.recordsOk
  rcases freePlace_cases s with ⟨hf, hch, hq⟩ | ⟨c, rest, hf, hq, hfresh, ho⟩
  · have hc (d : Chan) : (freePlace s).chan d = s.chan d := by simp only [State.chan, hch]
    rw [hq]
    refine ⟨by simp only [List.length_tail]; omega, .nil, by simp, fun d => ?_, by simp⟩
    rw [hc, ← h4 d, hf]
  · have hnd := List.nodup_cons.mp (hf ▸ h2)
    have hfull : s.records.queue.length = 16 := h3 (by simp [hf])
    have hone : (s.chan c).filed.toList.length = 1 := by
      obtain ⟨r, hr⟩ := Option.isSome_iff_exists.mp (h5 c (by simp [hf]))
      simp [hr]
    rw [hq]
    have hlen : (s.records.queue.tail ++ (s.chan c).filed.toList).length = 16 := by
      rw [List.length_append, List.length_tail, hone, hfull]
    refine ⟨hlen.le, hnd.2, fun _ => hlen, fun d => ?_, fun d hd => ?_⟩
    · by_cases hd : d = c
      · subst hd; simp [hnd.1, hfresh.state]
      · rw [ho d hd, ← h4 d, hf]; simp [hd]
    · have hd' : d ≠ c := fun e => hnd.1 (e ▸ hd)
      rw [ho d hd']; exact h5 d (by simp only at hd; simp [hf, hd])

theorem recordsOk_event {s t : State} (h : Event s t) (k : s.recordsOk) : t.recordsOk := by
  cases h with
  | work h =>
    rcases work_stayed h with ⟨hr, hc⟩ | ⟨o, c, live, rfl⟩ | rfl
    · exact recordsOk_stayed hr (fun c => (hc c).filing) (fun c => (hc c).filed) k
    · exact recordsOk_endProgram o c k live
    · exact recordsOk_freePlace k
  | beside same _ =>
    exact recordsOk_stayed same.2.2.2.2 (fun c => by rw [chan_congr same]) (fun c _ => by rw [chan_congr same]) k
  | reset =>
    refine ⟨k.1, .nil, fun e => absurd rfl e, fun c => ?_, fun c hc => by cases hc⟩
    rw [deviceReset_chan]
    exact ⟨fun e => (List.not_mem_nil e).elim, fun e => by cases e⟩
  | powerOn strap panel =>
    have : (State.atPowerOn strap panel).recordsOk := by
      refine ⟨Nat.zero_le _, .nil, fun e => absurd rfl e, fun c => ?_, fun c hc => by cases hc⟩
      rw [atPowerOn_chan]
      exact ⟨fun e => (List.not_mem_nil e).elim, fun e => by cases e⟩
    exact this
  | raise =>
    exact recordsOk_stayed (s := s) rfl (fun c => by rw [raiseCycleStart_chan]) (fun c _ => by rw [raiseCycleStart_chan]) k

/-- Settles O53: every kind of change keeps the filing list the FILING channels and the queue full under it. -/
theorem stepKeepsRecordQueue : Obligations.StepKeepsRecordQueue := fun _ _ hs hst =>
  step_keeps (fun _ _ hu he => recordsOk_event he hu) hs hst

end Sys2Proof.Machine.Laws
end

section
/-! PROOFS. Each claim stands at its pump's Arbiter (R70, R78 to R83): first for one Arbiter and the places the channels
hold at it, then for the operations of the part. -/

namespace Sys2Proof.Machine.Laws

open Function (update)

/-! ### One Arbiter and the places at it -/

/-- The wait queue of `a` is the channels whose place is QUEUED, and a place is held by the channels of `live` alone. -/
def Queued (live : Chan → Prop) (a : Arbiter) (place : Chan → Standing) : Prop :=
  (∀ c, c ∈ a.queue ↔ place c = .queued) ∧ a.queue.Nodup ∧ ∀ c, place c ≠ .none → live c

/-- The Arbiter `a` and the places at it agree. -/
def Agrees (live : Chan → Prop) (a : Arbiter) (place : Chan → Standing) : Prop :=
  Queued live a place ∧ (∀ c, a.state = .switching c ↔ place c = .switching) ∧
    (∀ c, a.state = .granted c ↔ place c = .granted) ∧ (a.state = .free → a.queue = []) ∧
    ∀ c, a.state = .granted c → a.manifold = some c

/-- An Arbiter between two holders: no channel holds it. -/
def Vacant (live : Chan → Prop) (a : Arbiter) (place : Chan → Standing) : Prop :=
  Queued live a place ∧ ∀ c, place c ≠ .switching ∧ place c ≠ .granted

/-- R82: a channel gives up its place, and may be live no more. -/
theorem queued_update_none {live : Chan → Prop} {a : Arbiter} {place : Chan → Standing} {c : Chan}
    (h : Queued (fun d => live d ∨ d = c) a place) (hq : place c ≠ .queued) : Queued live a (update place c .none) := by
  obtain ⟨h1, h2, h3⟩ := h
  refine ⟨fun d => ?_, h2, fun d hd => ?_⟩ <;> by_cases e : d = c
  · subst e; simp [h1, hq]
  · simp [e, h1]
  · subst e; simp at hd
  · exact (h3 d (by simpa [e] using hd)).resolve_right e

/-- R82: a channel that does not hold the pump leaves its queue. -/
theorem agrees_dequeue {live : Chan → Prop} {a : Arbiter} {place : Chan → Standing} {c : Chan}
    (h : Agrees (fun d => live d ∨ d = c) a place) (hs : a.state ≠ .switching c) (hg : a.state ≠ .granted c) :
    Agrees live { a with queue := a.queue.filter (· ≠ c) } (update place c .none) := by
  obtain ⟨⟨h1, h2, h3⟩, h4, h5, h6, h7⟩ := h
  refine ⟨⟨fun d => ?_, h2.filter _, fun d hd => ?_⟩, fun d => ?_, fun d => ?_, fun e => by simp [h6 e], h7⟩ <;>
    by_cases e : d = c
  · subst e; simp
  · simp [e, h1]
  · subst e; simp at hd
  · exact (h3 d (by simpa [e] using hd)).resolve_right e
  · subst e; simp [hs]
  · simpa [e] using h4 d
  · subst e; simp [hg]
  · simpa [e] using h5 d

/-- R82: the pump its holder gives up. -/
theorem vacant_of_holder {live : Chan → Prop} {a : Arbiter} {place : Chan → Standing} {c : Chan}
    (h : Agrees (fun d => live d ∨ d = c) a place) (held : a.state = .switching c ∨ a.state = .granted c) :
    Vacant live a (update place c .none) := by
  obtain ⟨hq, h4, h5, -, -⟩ := h
  have hc : place c ≠ .queued := by
    rcases held with e | e
    · rw [(h4 c).mp e]; simp
    · rw [(h5 c).mp e]; simp
  refine ⟨queued_update_none hq hc, fun d => ?_⟩
  by_cases e : d = c
  · subst e; simp
  · simp only [ne_eq, e, not_false_eq_true, Function.update_of_ne, ← h4, ← h5]
    rcases held with k | k <;> simp [k, Ne.symm e]

/-- R79: the standing that a grant gives its channel. -/
def grantedStanding (a : Arbiter) : Standing :=
  match a.state with
  | .granted _ => .granted
  | .free | .switching _ => .switching

/-- R79: a grant on a vacant pump to a channel that does not wait. -/
theorem agrees_grant {live : Chan → Prop} {a : Arbiter} {place : Chan → Standing} {d : Chan} (tenure switchTime : Nat)
    (h : Vacant live a place) (hd : place d ≠ .queued) (hl : live d) :
    Agrees live (a.grant d tenure switchTime) (update place d (grantedStanding (a.grant d tenure switchTime))) := by
  obtain ⟨⟨h1, h2, h3⟩, hv⟩ := h
  obtain ⟨hq, -, -, hdir, hsw⟩ := grant_spec d tenure switchTime a
  generalize a.grant d tenure switchTime = g at hq hdir hsw ⊢
  have queue {st : Standing} (hst : st ≠ .queued) : Queued live g (update place d st) := by
    refine ⟨fun e => ?_, by rwa [hq], fun e he => ?_⟩ <;> by_cases k : e = d
    · subst k; simp [hq, h1, hd, hst]
    · simp [k, hq, h1]
    · subst k; exact hl
    · exact h3 e (by simpa [k] using he)
  by_cases direct : a.manifold = some d ∨ switchTime = 0
  · obtain ⟨hs, hm, -⟩ := hdir direct
    have hst : grantedStanding g = .granted := by simp [grantedStanding, hs]
    rw [hst]
    refine ⟨queue (by simp), fun e => ?_, fun e => ?_, by simp [hs], fun e he => ?_⟩
    · by_cases k : e = d
      · subst k; simp [hs]
      · simp [k, hs, hv e]
    · by_cases k : e = d
      · subst k; simp [hs]
      · simp [k, hs, hv e, Ne.symm k]
    · rw [hs] at he; cases he; exact hm
  · obtain ⟨hs, -, -⟩ := hsw direct
    have hst : grantedStanding g = .switching := by simp [grantedStanding, hs]
    rw [hst]
    refine ⟨queue (by simp), fun e => ?_, fun e => ?_, by simp [hs], fun e he => by rw [hs] at he; cases he⟩
    · by_cases k : e = d
      · subst k; simp [hs]
      · simp [k, hs, hv e, Ne.symm k]
    · by_cases k : e = d
      · subst k; simp [hs]
      · simp [k, hs, hv e]

/-- R82: the head of the queue leaves it. -/
theorem vacant_head {live : Chan → Prop} {a : Arbiter} {place : Chan → Standing} {d : Chan} {rest : List Chan}
    (h : Vacant live a place) (hq : a.queue = d :: rest) :
    Vacant live { a with queue := rest } (update place d .none) := by
  obtain ⟨⟨h1, h2, h3⟩, hv⟩ := h
  have hnd := List.nodup_cons.mp (hq ▸ h2)
  refine ⟨⟨fun e => ?_, hnd.2, fun e he => ?_⟩, fun e => ?_⟩ <;> by_cases k : e = d
  · subst k; simp [hnd.1]
  · simp [k, ← h1, hq]
  · subst k; simp at he
  · exact h3 e (by simpa [k] using he)
  · subst k; simp
  · simpa [k] using hv e

/-- R82: with no channel waiting the pump is FREE. -/
theorem agrees_free {live : Chan → Prop} {a b : Arbiter} {place : Chan → Standing} (h : Vacant live a place)
    (hq : a.queue = []) (hs : b.state = .free) (hb : b.queue = a.queue) : Agrees live b place := by
  obtain ⟨⟨h1, h2, h3⟩, hv⟩ := h
  rw [← hb] at h1 h2 hq
  exact ⟨⟨h1, h2, h3⟩, by simp [hs, hv], by simp [hs, hv], fun _ => hq, by simp [hs]⟩

/-- R78: a claim on a pump in use waits at the tail. -/
theorem agrees_join {live : Chan → Prop} {a : Arbiter} {place : Chan → Standing} {c : Chan} (h : Agrees live a place)
    (hc : place c = .none) (hl : live c) (hs : a.state ≠ .free) :
    Agrees live { a with queue := a.queue ++ [c] } (update place c .queued) := by
  obtain ⟨⟨h1, h2, h3⟩, h4, h5, h6, h7⟩ := h
  have hnot : c ∉ a.queue := by rw [h1, hc]; simp
  refine ⟨⟨fun d => ?_, ?_, fun d hd => ?_⟩, fun d => ?_, fun d => ?_, fun e => absurd e hs, h7⟩
  · by_cases e : d = c
    · subst e; simp
    · simp [e, h1]
  · exact List.nodup_append.mpr ⟨h2, by simp, fun x hx y hy e => hnot (by simp_all)⟩
  · by_cases e : d = c
    · subst e; exact hl
    · exact h3 d (by simpa [e] using hd)
  · by_cases e : d = c
    · subst e; simp [h4, hc]
    · simpa [e] using h4 d
  · by_cases e : d = c
    · subst e; simp [h5, hc]
    · simpa [e] using h5 d

/-- R80: the switch completes. -/
theorem agrees_complete {live : Chan → Prop} {a b : Arbiter} {place : Chan → Standing} {c : Chan}
    (h : Agrees live a place) (hs : a.state = .switching c) (hb : b.state = .granted c) (hm : b.manifold = some c)
    (hq : b.queue = a.queue) : Agrees live b (update place c .granted) := by
  obtain ⟨⟨h1, h2, h3⟩, h4, h5, -, -⟩ := h
  have hc := (h4 c).mp hs
  refine ⟨⟨fun d => ?_, by rwa [hq], fun d hd => ?_⟩, fun d => ?_, fun d => ?_, by simp [hb], fun d hd => ?_⟩
  · by_cases e : d = c
    · subst e; simp [hq, h1, hc]
    · simp [e, hq, h1]
  · by_cases e : d = c
    · subst e; exact h3 d (by simp [hc])
    · exact h3 d (by simpa [e] using hd)
  · by_cases e : d = c
    · subst e; simp [hb]
    · simp [e, hb, ← h4, hs, Ne.symm e]
  · by_cases e : d = c
    · subst e; simp [hb]
    · simp [e, hb, ← h5, hs, Ne.symm e]
  · rw [hb] at hd; cases hd; exact hm

/-- R81: the holder whose tenure has expired joins the tail. -/
theorem vacant_requeue {live : Chan → Prop} {a : Arbiter} {place : Chan → Standing} {c : Chan} (h : Agrees live a place)
    (hs : a.state = .granted c) : Vacant live { a with queue := a.queue ++ [c] } (update place c .queued) := by
  obtain ⟨⟨h1, h2, h3⟩, h4, h5, -, -⟩ := h
  have hc := (h5 c).mp hs
  have hnot : c ∉ a.queue := by rw [h1, hc]; simp
  refine ⟨⟨fun d => ?_, ?_, fun d hd => ?_⟩, fun d => ?_⟩
  · by_cases e : d = c
    · subst e; simp
    · simp [e, h1]
  · exact List.nodup_append.mpr ⟨h2, by simp, fun x hx y hy e => hnot (by simp_all)⟩
  · by_cases e : d = c
    · subst e; exact h3 d (by simp [hc])
    · exact h3 d (by simpa [e] using hd)
  · by_cases e : d = c
    · subst e; simp
    · simp [e, ← h4, ← h5, hs, Ne.symm e]

/-! ### The places of the part's channels -/

/-- The standing of a channel at pump `x`, NONE where its pump is another; `none` stands for no pump. -/
def placeAt (s : State) (x : Option Pump) (c : Chan) : Standing :=
  if (s.chan c).config.pump = x then standingOf (s.chan c).work else .none

theorem placeAt_pump (s : State) (c : Chan) : placeAt s (s.chan c).config.pump c = standingOf (s.chan c).work := by
  simp [placeAt]

/-- R70, R83, with a place held by the channels of `live` alone. -/
def Claims (live : Chan → Prop) (s : State) : Prop :=
  (∀ p, Agrees live (s.arb p) (placeAt s (some p))) ∧ (∀ c, placeAt s none c = .none) ∧ ∀ c, WorkOk (s.chan c)

/-- The channels that are RUNNING. -/
def Runs (s : State) (c : Chan) : Prop := (s.chan c).state = .running

theorem standing_eq (s : State) (c : Chan) : s.standing c = standingOf (s.chan c).work := by
  unfold State.standing standingOf
  cases (s.chan c).work <;> rfl

theorem placeAt_eq_iff {s : State} {p : Pump} {c : Chan} {st : Standing} (h : st ≠ .none) :
    placeAt s (some p) c = st ↔ (s.chan c).config.pump = some p ∧ s.standing c = st := by
  unfold placeAt
  rw [standing_eq]
  split <;> simp_all [eq_comm]

theorem pumpsOk_iff (s : State) : s.pumpsOk ↔ Claims (Runs s) s := by
  constructor
  · rintro ⟨h1, h2, h3, h4, h5, h6, h7, h8⟩
    refine ⟨fun p => ⟨⟨fun c => ?_, h4 p, fun c hc => ?_⟩, fun c => ?_, fun c => ?_, h5 p, h6 p⟩, fun c => ?_, h8⟩
    · rw [h1, placeAt_eq_iff (by simp)]
    · have hne : s.standing c ≠ .none := fun e => hc (by simp [placeAt, ← standing_eq, e])
      exact (h7 c hne).1
    · rw [h2, placeAt_eq_iff (by simp)]
    · rw [h3, placeAt_eq_iff (by simp)]
    · by_contra hc
      have hp : (s.chan c).config.pump = none := by by_contra k; simp [placeAt, k] at hc
      have hne : s.standing c ≠ .none := by simpa [placeAt, hp, ← standing_eq] using hc
      exact (h7 c hne).2 hp
  · rintro ⟨ha, hn, hw⟩
    refine ⟨fun p c => ?_, fun p c => ?_, fun p c => ?_, fun p => (ha p).1.2.1, fun p => (ha p).2.2.2.1,
      fun p => (ha p).2.2.2.2, fun c hc => ?_, hw⟩
    · rw [(ha p).1.1, placeAt_eq_iff (by simp)]
    · rw [(ha p).2.1, placeAt_eq_iff (by simp)]
    · rw [(ha p).2.2.1, placeAt_eq_iff (by simp)]
    · rw [standing_eq, ← placeAt_pump] at hc
      cases hp : (s.chan c).config.pump with
      | none => rw [hp] at hc; exact absurd (hn c) hc
      | some p => rw [hp] at hc; exact ⟨(ha p).1.2.2 c hc, by simp⟩

/-! ### Operations that touch one pump -/

/-- `t` differs from `s` at pump `p` alone: the other Arbiter and the places at it, and the channels without a pump, are as
they were. -/
def AtPump (p : Pump) (s t : State) : Prop :=
  (∀ q, q ≠ p → t.arb q = s.arb q) ∧ ∀ x, x ≠ some p → placeAt t x = placeAt s x

theorem AtPump.trans {p : Pump} {s t u : State} (h : AtPump p s t) (k : AtPump p t u) : AtPump p s u :=
  ⟨fun q hq => (k.1 q hq).trans (h.1 q hq), fun x hx => (k.2 x hx).trans (h.2 x hx)⟩

theorem placeAt_congr {s t : State} (h : t.chans = s.chans) (x : Option Pump) : placeAt t x = placeAt s x := by
  funext c
  have hc : t.chan c = s.chan c := by simp only [State.chan, h]
  unfold placeAt
  rw [hc]

theorem updArb_chans (s : State) (p : Pump) (f : Arbiter → Arbiter) : (s.updArb p f).chans = s.chans := by
  cases p <;> rfl

theorem atPump_updArb (s : State) (p : Pump) (f : Arbiter → Arbiter) : AtPump p s (s.updArb p f) :=
  ⟨fun q hq => by rw [updArb_eq, arb_setArb_ne _ _ hq], fun x _ => placeAt_congr (updArb_chans s p f) x⟩

/-- R70: the places once the standing of an INJECT is written. -/
theorem placeAt_setStanding {s : State} {c : Chan} {w : InjectWork} {p : Pump} (hw : (s.chan c).work = .inject w)
    (hp : (s.chan c).config.pump = some p) (st : Standing) :
    placeAt (s.setStanding c st) (some p) = update (placeAt s (some p)) c st := by
  funext d
  by_cases h : d = c
  · subst h; simp [placeAt, State.setStanding, hw, hp, standingOf]
  · simp [placeAt, State.setStanding, h, chan_setChan_ne _ _ h]

theorem placeAt_setStanding_ne {s : State} {c : Chan} {x : Option Pump} (h : (s.chan c).config.pump ≠ x) (st : Standing) :
    placeAt (s.setStanding c st) x = placeAt s x := by
  funext d
  by_cases hd : d = c
  · subst hd
    have hc := ((claimsOnly_setStanding d st s).1 d).1
    have hpump : ((s.setStanding d st).chan d).config.pump = (s.chan d).config.pump := by rw [hc]
    simp [placeAt, hpump, h]
  · simp [placeAt, State.setStanding, chan_setChan_ne _ _ hd]

theorem atPump_setStanding {s : State} {c : Chan} {p : Pump} (hp : (s.chan c).config.pump = some p) (st : Standing) :
    AtPump p s (s.setStanding c st) :=
  ⟨fun q _ => arb_setStanding _ _ _ _, fun x hx => placeAt_setStanding_ne (by rw [hp]; exact Ne.symm hx) st⟩

/-- A place that is held belongs to an INJECT of a channel at that pump. -/
theorem inject_of_place {s : State} {p : Pump} {c : Chan} (h : placeAt s (some p) c ≠ .none) :
    (s.chan c).config.pump = some p ∧ ∃ w, (s.chan c).work = .inject w := by
  unfold placeAt at h
  split at h
  · rename_i hp
    refine ⟨hp, ?_⟩
    unfold standingOf at h
    split at h
    · exact ⟨_, ‹_›⟩
    all_goals exact absurd rfl h
  · exact absurd rfl h

theorem updArb_chan (s : State) (p : Pump) (f : Arbiter → Arbiter) (c : Chan) : (s.updArb p f).chan c = s.chan c := by
  cases p <;> rfl

theorem updArb_arb (s : State) (p : Pump) (f : Arbiter → Arbiter) : (s.updArb p f).arb p = f (s.arb p) := by
  cases p <;> rfl

/-- R79: what the start of a grant does at its pump. -/
theorem startGrant_places {s : State} {d : Chan} {p : Pump} {w : InjectWork} (hw : (s.chan d).work = .inject w)
    (hp : (s.chan d).config.pump = some p) :
    AtPump p s (startGrant p d s) ∧
      placeAt (startGrant p d s) (some p) =
        update (placeAt s (some p)) d
          (grantedStanding ((s.arb p).grant d s.mgmt.config.tenure s.mgmt.config.switchTime)) := by
  have hu := atPump_updArb s p (·.grant d s.mgmt.config.tenure s.mgmt.config.switchTime)
  have hc := updArb_chan s p (·.grant d s.mgmt.config.tenure s.mgmt.config.switchTime) d
  have ha := updArb_arb s p (·.grant d s.mgmt.config.tenure s.mgmt.config.switchTime)
  have hpl := placeAt_congr (updArb_chans s p (·.grant d s.mgmt.config.tenure s.mgmt.config.switchTime)) (some p)
  refine ⟨hu.trans (atPump_setStanding (by rw [hc]; exact hp) _), ?_⟩
  unfold startGrant
  dsimp only
  rw [placeAt_setStanding (hc ▸ hw) (by rw [hc]; exact hp), hpl, ha]
  rfl

/-- R82: a pump that channel `c` gives up is passed on to the head of its queue or goes FREE; `c` still shows its old
place. -/
theorem agrees_passOn {live : Chan → Prop} {s : State} {p : Pump} {c : Chan}
    (h : Vacant live (s.arb p) (update (placeAt s (some p)) c .none)) :
    AtPump p s (passOn p s) ∧ Agrees live ((passOn p s).arb p) (update (placeAt (passOn p s) (some p)) c .none) := by
  unfold passOn
  split
  · rename_i d rest hq
    have hd : d ≠ c ∧ placeAt s (some p) d = .queued := by
      have := (h.1.1 d).mp (by simp [hq])
      by_cases e : d = c
      · subst e; simp at this
      · exact ⟨e, by simpa [e] using this⟩
    obtain ⟨hp, w, hw⟩ := inject_of_place (s := s) (p := p) (c := d) (by simp [hd.2])
    have hl : live d := h.1.2.2 d (by simp [hd])
    have hu := atPump_updArb s p fun a => { a with queue := rest }
    have hc := updArb_chan s p (fun a => { a with queue := rest }) d
    have ha := updArb_arb s p fun a => { a with queue := rest }
    have hm : (s.updArb p fun a => { a with queue := rest }).mgmt = s.mgmt := by cases p <;> rfl
    have hpl := placeAt_congr (updArb_chans s p fun a => { a with queue := rest }) (some p)
    obtain ⟨k1, k2⟩ := startGrant_places (hc ▸ hw) (by rw [hc]; exact hp)
    refine ⟨hu.trans k1, ?_⟩
    have hv := vacant_head h hq
    rw [arb_startGrant, k2, ha, hm, hpl]
    have hg := agrees_grant s.mgmt.config.tenure s.mgmt.config.switchTime hv (by simp) hl
    rw [Function.update_comm hd.1]
    rw [Function.update_idem] at hg
    exact hg
  · rename_i hq
    refine ⟨atPump_updArb s p _, ?_⟩
    rw [updArb_arb, placeAt_congr (updArb_chans s p _)]
    exact agrees_free h hq rfl rfl

/-- R82: a withdrawal at its pump. -/
theorem agrees_withdrawPump {live : Chan → Prop} {s : State} {p : Pump} {c : Chan} {w : InjectWork}
    (hw : (s.chan c).work = .inject w) (hp : (s.chan c).config.pump = some p)
    (h : Agrees (fun d => live d ∨ d = c) (s.arb p) (placeAt s (some p))) :
    AtPump p s (withdrawPump p c s) ∧ Agrees live ((withdrawPump p c s).arb p) (placeAt (withdrawPump p c s) (some p)) := by
  have last {t : State} (hc : ClaimsOnly s t) (k : AtPump p s t)
      (ka : Agrees live (t.arb p) (update (placeAt t (some p)) c .none)) :
      AtPump p s (t.setStanding c .none) ∧
        Agrees live ((t.setStanding c .none).arb p) (placeAt (t.setStanding c .none) (some p)) := by
    have hcp : (t.chan c).config.pump = some p := by rw [(hc.1 c).1]; exact hp
    have hcw : ∃ x, (t.chan c).work = .inject x := by
      rcases (hc.1 c).2 with e | ⟨x, st, r, -, e, -⟩
      · exact ⟨w, e.trans hw⟩
      · exact ⟨_, e⟩
    obtain ⟨x, hx⟩ := hcw
    refine ⟨k.trans (atPump_setStanding hcp _), ?_⟩
    rw [arb_setStanding, placeAt_setStanding hx hcp]
    exact ka
  have dequeue (hs : (s.arb p).state ≠ .switching c) (hg : (s.arb p).state ≠ .granted c) :
      Agrees live ((s.updArb p fun a => { a with queue := a.queue.filter (· ≠ c) }).arb p)
        (update (placeAt (s.updArb p fun a => { a with queue := a.queue.filter (· ≠ c) }) (some p)) c .none) := by
    rw [updArb_arb, placeAt_congr (updArb_chans s p _)]
    exact agrees_dequeue h hs hg
  have holder (held : (s.arb p).state = .switching c ∨ (s.arb p).state = .granted c) (f : Arbiter → Arbiter)
      (hf : ∀ a, (f a).queue = a.queue) :
      AtPump p s (passOn p (s.updArb p f)) ∧
        Agrees live ((passOn p (s.updArb p f)).arb p) (update (placeAt (passOn p (s.updArb p f)) (some p)) c .none) := by
    have hv : Vacant live ((s.updArb p f).arb p) (update (placeAt (s.updArb p f) (some p)) c .none) := by
      rw [updArb_arb, placeAt_congr (updArb_chans s p _)]
      obtain ⟨⟨k1, k2, k3⟩, k4⟩ := vacant_of_holder h held
      exact ⟨⟨by rwa [hf], by rwa [hf], k3⟩, k4⟩
    obtain ⟨k1, k2⟩ := agrees_passOn hv
    exact ⟨(atPump_updArb s p f).trans k1, k2⟩
  unfold withdrawPump
  split <;> rename_i hst
  · split <;> rename_i e
    · subst e
      obtain ⟨k1, k2⟩ := holder (.inl hst) (fun a => { a with switchCount := 0 }) fun _ => rfl
      exact last ((claimsOnly_updArb s p _).trans (claimsOnly_passOn _ _)) k1 k2
    · exact last (claimsOnly_updArb s p _) (atPump_updArb s p _)
        (dequeue (by simpa [hst] using e) (by simp [hst]))
  · split <;> rename_i e
    · subst e
      obtain ⟨k1, k2⟩ := holder (.inr hst) (fun a => { a with tenureCount := 0 }) fun _ => rfl
      exact last ((claimsOnly_updArb s p _).trans (claimsOnly_passOn _ _)) k1 k2
    · exact last (claimsOnly_updArb s p _) (atPump_updArb s p _)
        (dequeue (by simp [hst]) (by simpa [hst] using e))
  · exact last (claimsOnly_updArb s p _) (atPump_updArb s p _) (dequeue (by simp [hst]) (by simp [hst]))

end Sys2Proof.Machine.Laws
end

section
/-! PROOFS. Every kind of change keeps each claim at its pump's Arbiter. -/

namespace Sys2Proof.Machine.Laws

open Function (update)

/-! ### Changes that keep the places -/

theorem agrees_mono {live live' : Chan → Prop} {a : Arbiter} {place : Chan → Standing}
    (hl : ∀ d, place d ≠ .none → live d → live' d) (h : Agrees live a place) : Agrees live' a place :=
  ⟨⟨h.1.1, h.1.2.1, fun d hd => hl d hd (h.1.2.2 d hd)⟩, h.2⟩

theorem standing_of_place {s : State} {x : Option Pump} {c : Chan} (h : placeAt s x c ≠ .none) :
    standingOf (s.chan c).work ≠ .none := by
  intro e
  exact h (by simp [placeAt, e])

theorem claims_mono {live live' : Chan → Prop} {s : State}
    (hl : ∀ d, standingOf (s.chan d).work ≠ .none → live d → live' d) (h : Claims live s) : Claims live' s :=
  ⟨fun p => agrees_mono (fun d hd => hl d (standing_of_place hd)) (h.1 p), h.2⟩

/-- A claim is held by a channel of `live`. -/
theorem live_of_standing {live : Chan → Prop} {s : State} (h : Claims live s) {c : Chan}
    (hc : standingOf (s.chan c).work ≠ .none) : live c := by
  rw [← placeAt_pump] at hc
  cases hp : (s.chan c).config.pump with
  | none => rw [hp] at hc; exact absurd (h.2.1 c) hc
  | some p => rw [hp] at hc; exact (h.1 p).1.2.2 c hc

theorem standing_of_not_live {live : Chan → Prop} {s : State} (h : Claims live s) {c : Chan} (hc : ¬ live c) :
    standingOf (s.chan c).work = .none := by
  by_contra k
  exact hc (live_of_standing h k)

/-- The same Arbiters, and the same places of the same channels. -/
theorem claims_congr {live : Chan → Prop} {s t : State} (ha : ∀ p, t.arb p = s.arb p)
    (hp : ∀ x, placeAt t x = placeAt s x) (hw : ∀ c, WorkOk (t.chan c)) (h : Claims live s) : Claims live t :=
  ⟨fun p => by rw [ha, hp]; exact h.1 p, fun c => by rw [hp]; exact h.2.1 c, hw⟩

/-- One channel changed: its pump and its standing are the same, or it has no claim before and after. -/
theorem claims_setChan {live : Chan → Prop} {s : State} {c : Chan} {b : Channel} (hw : WorkOk b)
    (hb : standingOf b.work = standingOf (s.chan c).work)
    (hp : b.config.pump = (s.chan c).config.pump ∨ standingOf b.work = .none) (h : Claims live s) :
    Claims live (s.setChan c b) := by
  refine claims_congr (fun p => by cases p <;> rfl) (fun x => funext fun d => ?_) (fun d => ?_) h
  · by_cases hd : d = c
    · subst hd
      unfold placeAt
      rw [chan_setChan, hb]
      rcases hp with hp | hp
      · rw [hp]
      · rw [← hb, hp]; split <;> split <;> rfl
    · unfold placeAt
      rw [chan_setChan_ne _ _ hd]
  · by_cases hd : d = c
    · subst hd; rwa [chan_setChan]
    · rw [chan_setChan_ne _ _ hd]; exact h.2.2 d

/-- Nothing but fields beside the channels and the Arbiters changed. -/
theorem claims_beside {live : Chan → Prop} {s t : State} (hc : t.chans = s.chans) (ha : ∀ p, t.arb p = s.arb p)
    (h : Claims live s) : Claims live t :=
  claims_congr ha (placeAt_congr hc) (fun c => by
    have : t.chan c = s.chan c := by simp only [State.chan, hc]
    rw [this]; exact h.2.2 c) h

theorem workOk_keptAs {a b : Channel} (h : KeptAs a b) (k : WorkOk a) : WorkOk b := by
  intro hp
  have ha := k (by rwa [show b.phase = a.phase by rw [h.1]] at hp)
  rcases h.2 with e | ⟨x, st, r, e, -⟩
  · rw [e, ha]
  · rw [e] at ha; cases ha

/-- An operation at one pump that leaves its Arbiter in agreement. -/
theorem claims_atPump {live live' : Chan → Prop} {p : Pump} {s t : State} (h : Claims live s)
    (hk : ∀ d, KeptAs (s.chan d) (t.chan d)) (ho : AtPump p s t) (ha : Agrees live' (t.arb p) (placeAt t (some p)))
    (hl : ∀ d, (s.chan d).config.pump ≠ some p → live d → live' d) : Claims live' t := by
  refine ⟨fun q => ?_, fun c => by rw [ho.2 none (by simp)]; exact h.2.1 c, fun c => workOk_keptAs (hk c) (h.2.2 c)⟩
  by_cases hq : q = p
  · subst hq; exact ha
  · rw [ho.1 q hq, ho.2 (some q) (by simpa using hq)]
    refine agrees_mono (fun d hd => hl d fun e => hd ?_) (h.1 q)
    unfold placeAt
    rw [e]
    simp [Ne.symm hq]

/-! ### The Arbiters' operations -/

theorem standingOf_setStanding_none (c : Chan) (s : State) :
    standingOf ((s.setStanding c .none).chan c).work = .none := by
  simp only [State.setStanding, updChan_eq, chan_setChan]
  split
  · rfl
  all_goals rename_i h; rw [h]; rfl

/-- R16, R75, R82: a channel that need not be live any more withdraws its claim. -/
theorem claims_withdrawClaim {live : Chan → Prop} {s : State} {c : Chan} (h : Claims (fun d => live d ∨ d = c) s) :
    Claims live (withdrawClaim c s) ∧ standingOf ((withdrawClaim c s).chan c).work = .none := by
  have without (hc : standingOf (s.chan c).work = .none) : Claims live s :=
    claims_mono (fun d hd hl => hl.resolve_right fun e => hd (e ▸ hc)) h
  by_cases hi : ∃ w, (s.chan c).work = .inject w
  · obtain ⟨w, hw⟩ := hi
    have clear : standingOf ((s.setStanding c .none).chan c).work = .none := standingOf_setStanding_none c s
    unfold withdrawClaim
    rw [hw]
    dsimp only
    split
    · rename_i hs
      have hc : standingOf (s.chan c).work = .none := by rw [hw]; exact hs
      refine ⟨?_, clear⟩
      have hk := claimsOnly_setStanding c .none s
      have hset : s.setStanding c .none = s.setChan c ((s.setStanding c .none).chan c) := by
        simp [State.setStanding]
      rw [hset]
      exact claims_setChan (workOk_keptAs (hk.1 c) (h.2.2 c)) (clear.trans hc.symm) (.inr clear) (without hc)
    · rename_i hs
      split
      · rename_i p hp
        obtain ⟨k1, k2⟩ := agrees_withdrawPump hw hp (h.1 p)
        have hk := claimsOnly_withdrawClaim c s
        simp only [withdrawClaim, hw, hs, if_false, hp] at hk
        refine ⟨claims_atPump h hk.1 k1 k2 fun d hd hl => hl.resolve_right fun e => hd (e ▸ hp), ?_⟩
        exact standingOf_setStanding_none c _
      · rename_i hp
        have := h.2.1 c
        rw [← hp, placeAt_pump, hw] at this
        exact absurd this hs
  · rw [withdrawClaim_of_notInject c s fun w hw => hi ⟨w, hw⟩]
    have hc : standingOf (s.chan c).work = .none := by
      unfold standingOf
      split
      · exact absurd ⟨_, ‹_›⟩ hi
      all_goals rfl
    exact ⟨without hc, hc⟩

/-- R69, R78: a RUNNING INJECT without a claim makes one. -/
theorem claims_makeClaim {live : Chan → Prop} {s : State} {c : Chan} {w : InjectWork} (h : Claims live s) (hl : live c)
    (hw : (s.chan c).work = .inject w) (hn : w.standing = .none) : Claims live (makeClaim c s) := by
  have hk := (claimsOnly_makeClaim c s).1
  unfold makeClaim claimPump at hk ⊢
  split <;> rename_i hp
  · rename_i p
    have hplace : placeAt s (some p) c = .none := by rw [← hp, placeAt_pump, hw]; exact hn
    simp only [hp] at hk
    have hag := h.1 p
    have waits (hs : (s.arb p).state ≠ .free)
        (hk : ∀ d, KeptAs (s.chan d) (((s.updArb p fun a => { a with queue := a.queue ++ [c] }).setStanding c .queued).chan d)) :
        Claims live ((s.updArb p fun a => { a with queue := a.queue ++ [c] }).setStanding c .queued) := by
      have hc := updArb_chan s p (fun a => { a with queue := a.queue ++ [c] }) c
      have hpc : ((s.updArb p fun a => { a with queue := a.queue ++ [c] }).chan c).config.pump = some p := by
        rw [hc]; exact hp
      refine claims_atPump h hk ((atPump_updArb s p _).trans (atPump_setStanding hpc _)) ?_ fun _ _ k => k
      rw [arb_setStanding, updArb_arb, placeAt_setStanding (hc ▸ hw) hpc, placeAt_congr (updArb_chans s p _)]
      exact agrees_join hag hplace hl hs
    split <;> rename_i hs <;> simp only [hs] at hk
    · obtain ⟨k1, k2⟩ := startGrant_places hw hp
      refine claims_atPump h hk k1 ?_ fun _ _ k => k
      rw [arb_startGrant, k2]
      refine agrees_grant _ _ ⟨hag.1, fun d => ?_⟩ (by simp [hplace]) hl
      rw [ne_eq, ne_eq, ← hag.2.1, ← hag.2.2.1, hs]
      simp
    · exact waits (by simp [hs]) hk
    · exact waits (by simp [hs]) hk
  · exact h

theorem claims_completeSwitch {live : Chan → Prop} {s : State} (p : Pump) (h : Claims live s) :
    Claims live (completeSwitch p s) := by
  have hk := (claimsOnly_completeSwitch p s).1
  unfold completeSwitch at hk ⊢
  split <;> rename_i hs
  · rename_i c
    simp only [hs] at hk
    have hag := h.1 p
    have hplace := (hag.2.1 c).mp hs
    obtain ⟨hp, w, hw⟩ := inject_of_place (s := s) (p := p) (c := c) (by simp [hplace])
    generalize hf : (fun a : Arbiter =>
      { a with state := .granted c, manifold := some c, switchCount := 0, tenureCount := 0 }) = f at hk ⊢
    have hc := updArb_chan s p f c
    have hpc : ((s.updArb p f).chan c).config.pump = some p := by rw [hc]; exact hp
    refine claims_atPump h hk ((atPump_updArb s p f).trans (atPump_setStanding hpc _)) ?_ fun _ _ k => k
    rw [arb_setStanding, updArb_arb, placeAt_setStanding (hc ▸ hw) hpc, placeAt_congr (updArb_chans s p _)]
    exact agrees_complete hag hs (by rw [← hf]) (by rw [← hf]) (by rw [← hf])
  all_goals exact h

/-- A change of an Arbiter's counts and of what it last demanded. -/
theorem claims_counts {live : Chan → Prop} {s : State} (p : Pump) (f : Arbiter → Arbiter)
    (hf : ∀ a, (f a).state = a.state ∧ (f a).queue = a.queue ∧ (f a).manifold = a.manifold) (h : Claims live s) :
    Claims live (s.updArb p f) := by
  refine claims_atPump h (claimsOnly_updArb s p f).1 (atPump_updArb s p f) ?_ fun _ _ k => k
  rw [updArb_arb, placeAt_congr (updArb_chans s p f)]
  obtain ⟨h1, h2, h3⟩ := hf (s.arb p)
  have := h.1 p
  unfold Agrees Queued at this ⊢
  rwa [h1, h2, h3]

theorem claims_expireTenure {live : Chan → Prop} {s : State} (p : Pump) (h : Claims live s) :
    Claims live (expireTenure p s) := by
  unfold expireTenure
  split <;> rename_i hs
  · rename_i c
    split <;> rename_i hq
    · exact claims_counts p _ (fun _ => ⟨rfl, rfl, rfl⟩) h
    · rename_i d rest
      have hag := h.1 p
      have hplace := (hag.2.2.1 c).mp hs
      have hpd : placeAt s (some p) d = .queued := (hag.1.1 d).mp (by simp [hq])
      have hdc : d ≠ c := fun e => by rw [e, hplace] at hpd; cases hpd
      obtain ⟨hp, w, hw⟩ := inject_of_place (s := s) (p := p) (c := c) (by simp [hplace])
      generalize hf : (fun a : Arbiter => { a with queue := rest ++ [c] }) = f
      have hc := updArb_chan s p f c
      have hpc : ((s.updArb p f).chan c).config.pump = some p := by rw [hc]; exact hp
      have hk := (claimsOnly_updArb s p f).trans (claimsOnly_setStanding c .queued _)
      have ho := (atPump_updArb s p f).trans (atPump_setStanding hpc .queued)
      have hpl : placeAt ((s.updArb p f).setStanding c .queued) (some p) = update (placeAt s (some p)) c .queued := by
        rw [placeAt_setStanding (hc ▸ hw) hpc, placeAt_congr (updArb_chans s p _)]
      have ha : ((s.updArb p f).setStanding c .queued).arb p = { s.arb p with queue := rest ++ [c] } := by
        rw [arb_setStanding, updArb_arb, ← hf]
      generalize (s.updArb p f).setStanding c .queued = u at hk ho hpl ha ⊢
      obtain ⟨hpu, x, hx⟩ := inject_of_place (s := u) (p := p) (c := d) (by rw [hpl]; simp [hdc, hpd])
      obtain ⟨k1, k2⟩ := startGrant_places hx hpu
      refine claims_beside (s := startGrant p d u) rfl (fun q => by cases q <;> rfl) ?_
      refine claims_atPump h (hk.trans (claimsOnly_startGrant p d u)).1 (ho.trans k1) ?_ fun _ _ k => k
      have hv := vacant_head (vacant_requeue hag hs) (d := d) (rest := rest ++ [c]) (by simp [hq])
      have hg := agrees_grant (d := d) u.mgmt.config.tenure u.mgmt.config.switchTime hv (by simp)
        (hag.1.2.2 d (by simp [hpd]))
      rw [Function.update_idem] at hg
      rw [arb_startGrant, k2, ha, hpl]
      exact hg
  all_goals exact h

theorem claims_arbiterCycle {live : Chan → Prop} {s : State} (p : Pump) (h : Claims live s) :
    Claims live (arbiterCycle p s) := by
  unfold arbiterCycle
  dsimp only
  split
  · exact h
  · split
    · exact claims_completeSwitch p h
    · split
      · exact claims_expireTenure p h
      · split
        · exact claims_counts p _ (fun _ => ⟨rfl, rfl, rfl⟩) h
        · exact claims_counts p _ (fun _ => ⟨rfl, rfl, rfl⟩) h
        · exact h

/-! ### The channels' operations -/

/-- Each claim at its Arbiter, held by RUNNING channels. -/
abbrev Claimed (s : State) : Prop := Claims (Runs s) s

/-- The RUNNING channels of a part that differs in claims alone are the same. -/
theorem runs_of_keptAs {s t : State} (h : ∀ d, KeptAs (s.chan d) (t.chan d)) (d : Chan) : Runs t d ↔ Runs s d := by
  unfold Runs
  rw [keptAs_state (h d)]

theorem claimed_of_claims {s t : State} (hk : ∀ d, KeptAs (s.chan d) (t.chan d)) (h : Claims (Runs s) t) : Claimed t :=
  claims_mono (fun d _ => (runs_of_keptAs hk d).mpr) h

/-- One channel changed, whose claim goes on only while it is RUNNING. -/
theorem claimed_setChan {s : State} {c : Chan} {b : Channel} (hw : WorkOk b)
    (hb : standingOf b.work = standingOf (s.chan c).work)
    (hp : b.config.pump = (s.chan c).config.pump ∨ standingOf b.work = .none)
    (hr : standingOf b.work ≠ .none → b.state = .running) (h : Claimed s) : Claimed (s.setChan c b) := by
  refine claims_mono (fun d hd hl => ?_) (claims_setChan hw hb hp h)
  unfold Runs at *
  by_cases e : d = c
  · subst e; rw [chan_setChan] at hd ⊢; exact hr hd
  · rwa [chan_setChan_ne _ _ e]

/-- R18, R75: a channel in a new state withdraws its claim. -/
theorem claimed_withdrawn {s u : State} {c : Chan} {b : Channel} (hu : u.chans = (s.setChan c b).chans)
    (ha : ∀ p, u.arb p = s.arb p) (hw : b.work = (s.chan c).work) (hc : b.config = (s.chan c).config)
    (hp : b.phase = (s.chan c).phase) (h : Claimed s) : Claimed (withdrawClaim c u) := by
  have hb : WorkOk b := by unfold WorkOk; rw [hw, hp]; exact h.2.2 c
  have h1 : Claims (Runs s) (s.setChan c b) := claims_setChan hb (by rw [hw]) (.inl (by rw [hc])) h
  have h2 : Claims (Runs s) u := claims_beside hu (fun p => (ha p).trans (by cases p <;> rfl)) h1
  have h3 : Claims (fun d => Runs u d ∨ d = c) u := claims_mono (fun d _ hl => by
    by_cases e : d = c
    · exact .inr e
    · refine .inl ?_
      have : u.chan d = s.chan d := by simp only [State.chan, hu]; exact chan_setChan_ne _ _ e
      unfold Runs at *
      rwa [this]) h2
  exact claimed_of_claims (claimsOnly_withdrawClaim c u).1 (claims_withdrawClaim h3).1

theorem latchStale_chans (k : FreezeCause) (s : State) :
    (latchStale k s).chans = s.chans ∧ ∀ p, (latchStale k s).arb p = s.arb p := by
  unfold latchStale
  split
  · exact ⟨rfl, fun p => by cases p <;> rfl⟩
  · exact ⟨rfl, fun _ => rfl⟩

theorem claimed_addCause (k : FreezeCause) (c : Chan) {s : State} (h : Claimed s) : Claimed (addCause k c s) := by
  unfold addCause
  dsimp only
  split
  · exact h
  · obtain ⟨hl, ha⟩ := latchStale_chans k (s.updChan c fun ch => { ch with freeze := ch.freeze.add k })
    have arbs (p : Pump) : (latchStale k (s.updChan c fun ch => { ch with freeze := ch.freeze.add k })).arb p = s.arb p :=
      (ha p).trans (setChan_arb _ _ _ p)
    split <;> rename_i hr
    · refine claimed_withdrawn (s := s) (b := { s.chan c with freeze := (s.chan c).freeze.add k, state := .frozen })
        ?_ (fun p => ?_) rfl rfl rfl h
      · have hf (a b : State) (e : a.chans = b.chans) (f : Channel → Channel) :
            (a.updChan c f).chans = (b.updChan c f).chans := by simp only [updChan_eq, setChan_chans, State.chan, e]
        refine (hf _ _ hl _).trans ?_
        simp only [updChan_eq, chan_setChan, setChan_setChan]
      · exact (setChan_arb _ _ _ p).trans (arbs p)
    · have hs : Claimed (s.updChan c fun ch => { ch with freeze := ch.freeze.add k }) :=
        claimed_setChan (h.2.2 c) rfl (.inl rfl) (fun k => live_of_standing h k) h
      have hch (d : Chan) : (latchStale k (s.updChan c fun ch => { ch with freeze := ch.freeze.add k })).chan d =
          (s.updChan c fun ch => { ch with freeze := ch.freeze.add k }).chan d := by simp only [State.chan, hl]
      refine claims_mono (fun d _ hd => ?_) (claims_beside hl ha hs)
      unfold Runs at *
      rwa [hch]

theorem claimed_fault (cause : FaultCause) (c : Chan) {s : State} (h : Claimed s) : Claimed (faultChannel cause c s) := by
  unfold faultChannel
  dsimp only
  split
  · exact claimed_withdrawn (s := s) rfl (fun p => by cases p <;> rfl) rfl rfl rfl h
  · exact h

theorem claimed_removeCauses (g : FreezeSet) (c : Chan) {s : State} (h : Claimed s) : Claimed (removeCauses g c s) := by
  unfold removeCauses
  simp only [updChan_eq, chan_setChan, setChan_setChan]
  split <;> rename_i hf
  · have hn : standingOf (s.chan c).work = .none := standing_of_not_live h (by unfold Runs; rw [hf.1]; simp)
    have hv : Claimed (s.setChan c { s.chan c with freeze := (s.chan c).freeze.without g, state := .running }) :=
      claimed_setChan (h.2.2 c) rfl (.inl rfl) (fun _ => rfl) h
    generalize hu : s.setChan c { s.chan c with freeze := (s.chan c).freeze.without g, state := .running } = u at hv
    have huc : u.chan c = { s.chan c with freeze := (s.chan c).freeze.without g, state := .running } := by
      rw [← hu, chan_setChan]
    unfold thawEffect
    split <;> rename_i hw
    · refine claimed_setChan (fun hp => ?_) (by rw [hw]; rfl) (.inl rfl) (fun k => absurd rfl k) hv
      have := hv.2.2 c hp
      rw [hw] at this; cases this
    · have hws : (u.chan c).work = (s.chan c).work := by rw [huc]
      rw [← hws, hw] at hn
      exact claimed_of_claims (claimsOnly_makeClaim c u).1 (claims_makeClaim hv (by unfold Runs; rw [huc]) hw hn)
    all_goals exact hv
  · exact claimed_setChan (h.2.2 c) rfl (.inl rfl) (fun k => live_of_standing h k) h

/-- R13: after the accounting of a step its claim is withdrawn. -/
theorem claimed_stepAccounting (c : Chan) {s : State} (h : Claimed s) :
    Claimed (stepAccounting c s) ∧ standingOf ((stepAccounting c s).chan c).work = .none := by
  have keep {b : Channel} (hb : b.work = (s.chan c).work) (hp : b.phase = (s.chan c).phase)
      (hc : b.config = (s.chan c).config) (hn : standingOf (s.chan c).work = .none) :
      Claimed (s.setChan c b) ∧ standingOf ((s.setChan c b).chan c).work = .none := by
    refine ⟨claimed_setChan ?_ (by rw [hb]) (.inl (by rw [hc])) (fun k => absurd (by rw [hb]; exact hn) k) h, ?_⟩
    · unfold WorkOk; rw [hb, hp]; exact h.2.2 c
    · rw [chan_setChan, hb]; exact hn
  unfold stepAccounting
  split <;> rename_i hw
  · exact keep rfl rfl rfl (by rw [hw]; rfl)
  · exact keep rfl rfl rfl (by rw [hw]; rfl)
  · simp only [updRecord_eq, updProfile_eq, setChan_setChan]
    exact keep (by simp) (by simp) (by simp) (by rw [hw]; rfl)
  · exact keep rfl rfl rfl (by rw [hw]; rfl)
  · obtain ⟨k1, k2⟩ := claims_withdrawClaim (live := Runs s) (c := c) (claims_mono (fun d _ => .inl) h)
    have k3 := claimed_of_claims (claimsOnly_withdrawClaim c s).1 k1
    refine ⟨claimed_setChan (k3.2.2 c) rfl (.inl rfl) (fun k => absurd k2 k) k3, ?_⟩
    rw [updRecord_eq, chan_setChan]
    exact k2
  all_goals exact ⟨h, by rw [hw]; rfl⟩

theorem claimed_leaveStep (phase : StepPhase) (index : Nat) (c : Chan) {s : State} (h : Claimed s) :
    Claimed (leaveStep phase index c s) := by
  obtain ⟨h1, h2⟩ := claimed_stepAccounting c h
  unfold leaveStep
  refine claimed_removeCauses _ c (claimed_setChan (fun _ => rfl) ?_ (.inr rfl) (fun k => absurd rfl k) h1)
  rw [h2]
  rfl

/-- A channel without a claim replaced by one without a claim. -/
theorem claimed_replace {s t : State} {c : Chan} (ha : ∀ p, t.arb p = s.arb p) (ho : ∀ d, d ≠ c → t.chan d = s.chan d)
    (hs : standingOf (s.chan c).work = .none) (ht : standingOf (t.chan c).work = .none) (hw : WorkOk (t.chan c))
    (h : Claimed s) : Claimed t := by
  have hc : Claimed (s.setChan c (t.chan c)) :=
    claimed_setChan hw (ht.trans hs.symm) (.inr ht) (fun k => absurd ht k) h
  have hch (d : Chan) : t.chan d = (s.setChan c (t.chan c)).chan d := by
    by_cases e : d = c
    · subst e; rw [chan_setChan]
    · rw [chan_setChan_ne _ _ e, ho d e]
  refine claims_mono (live := Runs (s.setChan c (t.chan c))) (fun d _ hd => by unfold Runs at *; rwa [hch]) ?_
  refine claims_congr (fun p => (ha p).trans (setChan_arb _ _ _ p).symm) (fun x => funext fun d => ?_) (fun d => ?_) hc
  · unfold placeAt; rw [hch]
  · rw [hch]; exact hc.2.2 d

/-! ### Every kind of change -/

theorem claimed_addCauses (k : FreezeCause) : ∀ (l : List Chan) {s : State}, Claimed s →
    Claimed (l.foldl (fun s c => addCause k c s) s)
  | [], _, h => h
  | c :: l, _, h => claimed_addCauses k l (claimed_addCause k c h)

theorem claimed_changeWall (w : Point) (x : WallPoint) {s : State} (h : Claimed s) : Claimed (s.changeWall w x) := by
  unfold State.changeWall wallChanged
  split
  · refine claimed_addCauses _ _ (s := (s.setWall w x).freezeTaken) ?_
    exact claims_beside (s := s) rfl (fun p => by cases p <;> rfl) h
  · exact claims_beside (s := s) rfl (fun p => by cases p <;> rfl) h

theorem claimed_endProgram (o : RunOutcome) (c : Chan) {s : State} (h : Claimed s)
    (hp : (s.chan c).phase ≠ .active ∨ (s.chan c).work = .finish) : Claimed (endProgram o c s) := by
  obtain ⟨he, ho⟩ := endProgram_ended o c s
  have ha (p : Pump) : (endProgram o c s).arb p = s.arb p := by
    obtain ⟨b, q, hb⟩ := endProgram_keeps o c s
    rw [hb, unlockCurrent_keeps]
    cases p <;> rfl
  have hs : standingOf (s.chan c).work = .none := by
    rcases hp with hp | hp
    · rw [h.2.2 c hp]; rfl
    · rw [hp]; rfl
  have hend : WorkOk (ended (s.chan c)) := fun _ => rfl
  rcases he with ⟨l, hf, -, -⟩ | ⟨r, hc, -, -⟩
  · exact claimed_replace ha ho hs (hf.work.2 rfl) (hf.work.1 hend) h
  · exact claimed_replace ha ho hs (by rw [hc]; rfl) (by rw [hc]; exact fun _ => rfl) h

theorem claimed_freePlace {s : State} (h : Claimed s) (hk : s.recordsOk) : Claimed (freePlace s) := by
  have ha (p : Pump) : (freePlace s).arb p = s.arb p := by rw [freePlace_keeps]; cases p <;> rfl
  rcases freePlace_cases s with ⟨-, hch, -⟩ | ⟨c, rest, hf, -, hfresh, ho⟩
  · have hc (d : Chan) : (freePlace s).chan d = s.chan d := by simp only [State.chan, hch]
    exact claims_mono (fun d _ hd => by unfold Runs at *; rwa [hc]) (claims_beside hch ha h)
  · have hfil : (s.chan c).state = .filing := (hk.2.2.2.1 c).mp (by simp [hf])
    have hs : standingOf (s.chan c).work = .none := standing_of_not_live h (by unfold Runs; rw [hfil]; simp)
    exact claimed_replace ha ho hs (hfresh.work.2 hs) (hfresh.work.1 (h.2.2 c)) h

end Sys2Proof.Machine.Laws
end

section
/-! PROOFS. Claims at their Arbiters over a step: kept together with the Record Queue's invariant, and not without it. -/

namespace Sys2Proof.Machine.Laws

theorem claimed_work {s t : State} (h : Work true s t) (k : Claimed s) (hr : s.recordsOk) : Claimed t := by
  cases h with
  | tables same _ _ _ =>
    have ha (p : Pump) : t.arb p = s.arb p := by cases p; exacts [same.2.1, same.2.2.1]
    exact claims_mono (fun d _ hd => by unfold Runs at *; rwa [chan_congr same]) (claims_beside same.1 ha k)
  | note c h =>
    obtain ⟨hs, hw⟩ := h.claim (k.2.2 c)
    refine claimed_setChan hw hs (.inl (by rw [h.config])) (fun e => ?_) k
    rw [h.state]
    exact live_of_standing k (by rwa [← hs])
  | cause f c => exact claimed_addCause f c k
  | uncause g c _ => exact claimed_removeCauses g c k
  | fault cause c => exact claimed_fault cause c k
  | unfault c hf h _ _ =>
    have hn : standingOf (s.chan c).work = .none := standing_of_not_live k (by unfold Runs; rw [hf]; simp)
    obtain ⟨hs, hw⟩ := h.claim (k.2.2 c)
    exact claimed_setChan hw hs (.inl (by rw [h.config])) (fun e => absurd (hs.trans hn) e) k
  | leave phase index c _ => exact claimed_leaveStep phase index c k
  | configure c x hi _ =>
    have hn : standingOf (s.chan c).work = .none := standing_of_not_live k (by unfold Runs; rw [hi]; simp)
    exact claimed_setChan (k.2.2 c) rfl (.inr hn) (fun e => absurd hn e) k
  | claim c run hw hn => exact claimed_of_claims (claimsOnly_makeClaim c s).1 (claims_makeClaim k run hw hn)
  | arbiter p => exact claimed_of_claims (arbiterCycle_spec p s).1 (claims_arbiterCycle p k)
  | demand p d =>
    exact claimed_of_claims (claimsOnly_updArb s p _).1 (claims_counts p _ (fun _ => ⟨rfl, rfl, rfl⟩) k)
  | @wall w x _ => exact claimed_changeWall w x k
  | start i c hi =>
    have hn : standingOf (s.chan c).work = .none := standing_of_not_live k (by unfold Runs; rw [hi]; simp)
    have hf := (fresh_startProgram i c s).work
    rw [startProgram_others]
    exact claimed_setChan (hf.1 (k.2.2 c)) ((hf.2 hn).trans hn.symm) (.inr (hf.2 hn)) (fun e => absurd (hf.2 hn) e) k
  | finish o c _ hp => exact claimed_endProgram o c k hp
  | free => exact claimed_freePlace k hr

/-- R88: after a reset no channel has a claim and both pumps are FREE. -/
theorem claimed_afterReset {t : State} (ha : ∀ p, t.arb p = Arbiter.afterReset)
    (hc : ∀ c, ∃ k, t.chan c = Channel.afterReset k) : Claimed t := by
  have hn (x : Option Pump) (c : Chan) : placeAt t x c = .none := by
    obtain ⟨k, hk⟩ := hc c
    unfold placeAt
    rw [hk]
    split <;> rfl
  refine ⟨fun p => ?_, hn none, fun c => ?_⟩
  · rw [ha]
    refine ⟨⟨fun c => ?_, .nil, fun c hp => absurd (hn _ c) hp⟩, fun c => ?_, fun c => ?_, fun _ => rfl, fun c e => ?_⟩
    · rw [hn]; simp [Arbiter.afterReset]
    · rw [hn]; simp [Arbiter.afterReset]
    · rw [hn]; simp [Arbiter.afterReset]
    · cases e
  · obtain ⟨k, hk⟩ := hc c
    rw [hk]
    exact fun _ => rfl

/-- R80, R81: the marks that a cycle start takes away are no part of a claim. -/
theorem claimed_raiseCycleStart {s : State} (h : Claimed s) : Claimed (raiseCycleStart s) := by
  have hp (x : Option Pump) : placeAt (raiseCycleStart s) x = placeAt s x := by
    funext c
    unfold placeAt
    rw [raiseCycleStart_chan]
  refine ⟨fun p => ?_, fun c => by rw [hp]; exact h.2.1 c, fun c => by rw [raiseCycleStart_chan]; exact h.2.2 c⟩
  rw [hp]
  have := agrees_mono (live' := Runs (raiseCycleStart s)) (fun d _ hd => by
    unfold Runs at *; rwa [raiseCycleStart_chan]) (h.1 p)
  cases p <;> exact this

theorem claimed_event {s t : State} (h : Event s t) (k : Claimed s) (hr : s.recordsOk) : Claimed t := by
  cases h with
  | work h => exact claimed_work h k hr
  | beside same _ =>
    have ha (p : Pump) : t.arb p = s.arb p := by cases p; exacts [same.2.1, same.2.2.1]
    exact claims_mono (fun d _ hd => by unfold Runs at *; rwa [chan_congr same]) (claims_beside same.1 ha k)
  | reset => exact claimed_afterReset (fun p => by cases p <;> rfl) fun c => ⟨_, deviceReset_chan s c⟩
  | powerOn strap panel =>
    exact claimed_afterReset (fun p => by cases p <;> rfl) fun c => ⟨_, atPowerOn_chan strap panel c⟩
  | raise => exact claimed_raiseCycleStart k

/-- Every step keeps the claims at their Arbiters and the filing list the FILING channels, together: the freed place then
goes to a FILING channel, which holds no claim. -/
theorem step_keeps_claims_and_records {s t : State} (hp : s.pumpsOk) (hr : s.recordsOk) (hst : step s = .next t) :
    t.pumpsOk ∧ t.recordsOk := by
  rw [pumpsOk_iff] at hp ⊢
  exact step_keeps (P := fun s => Claimed s ∧ s.recordsOk)
    (fun _ _ hu he => ⟨claimed_event he hu.1 hu.2, recordsOk_event he hu.2⟩) ⟨hp, hr⟩ hst

/-! ### A filing list that names a holder -/

/-- Channel 0 RUNNING in an INJECT, GRANTED pump A. -/
def holder : Channel :=
  { Channel.afterReset { ChannelConfig.defaults with pump := some .a } with
    state := .running, phase := .active
    work := .inject { standing := .granted, volume := 0, refusals := 0, overs := 0, endReason := none } }

/-- A part whose filing list names that channel, though it is not FILING, with a TAKE_RECORD to come. Its claims stand at
their Arbiters; the Record Queue's own invariant fails. -/
def strayFiling : State :=
  { State.reset with
    line := { State.reset.line with alignment := .locked, heldN := some 240 }
    mgmt := { State.reset.mgmt with address := 5 }
    chans := State.reset.chans.set 0 holder
    pumpA := { Arbiter.afterReset with state := .granted 0, manifold := some 0 }
    records := { queue := [Record.opened 1 2 3], filing := [0] }
    pending := [.takeRecord (requestWindow 5 15 9#8 [])] }

theorem strayFiling_pumpsOk : strayFiling.pumpsOk := by
  refine ⟨?_, ?_, ?_, ?_, ?_, ?_, ?_, ?_⟩
  · intro p; cases p <;> decide
  · intro p; cases p <;> decide
  · intro p; cases p <;> decide
  · intro p; cases p <;> decide
  · intro p; cases p <;> decide
  · intro p; cases p <;> decide
  · decide
  · decide

/-- The freed place goes to the holder, which goes IDLE and keeps the pump. -/
theorem step_strayFiling :
    ∃ t, step strayFiling = .next t ∧ (t.chan 0).state = .idle ∧ t.standing 0 = .granted := by
  refine ⟨requestEvent (ofKind 15 (requestWindow 5 15 9#8 [])) takeRecord (requestWindow 5 15 9#8 [])
    { strayFiling with pending := [] }, rfl, ?_, ?_⟩ <;> decide +kernel

/-- Refutes O57: a filing list may name, in a part that no command reaches, a channel that holds a pump, and a TAKE_RECORD
then makes it IDLE with its claim. With the invariant of the Record Queue beside it the claim holds:
`step_keeps_claims_and_records`. -/
theorem not_stepKeepsClaimsAtArbiters : ¬ Obligations.StepKeepsClaimsAtArbiters := by
  unfold Obligations.StepKeepsClaimsAtArbiters
  intro h
  obtain ⟨t, ht, idle, granted⟩ := step_strayFiling
  obtain ⟨-, -, -, -, -, -, run, -⟩ := h strayFiling t strayFiling_pumpsOk ht
  have := (run 0 (by rw [granted]; simp)).1
  rw [idle] at this
  cases this

end Sys2Proof.Machine.Laws
end

section
/-! PROOFS. The position of the part on the line over a step (R149 to R152, R154, R156). -/

namespace Sys2Proof.Machine.Laws

/-! ### Work of the blocks and of a cycle start -/

/-- The blocks' work leaves the line where it is. -/
theorem lineOk_samePlace {s t : State} (h : SamePlace s t) (k : s.lineOk) : t.lineOk := by
  obtain ⟨hl, hd, hw, hp⟩ := h
  obtain ⟨k1, k2, k3, k4⟩ := k
  have ha : t.line.alignment = s.line.alignment := by rw [hl]
  have hn : t.line.heldN = s.line.heldN := by rw [hl]
  have hs : t.line.slotPos = s.line.slotPos := by rw [hl]
  unfold State.lineOk LinePort.handedOver at *
  rw [ha, hn, hs, hd, hw, hp]
  exact ⟨k1, k2, k3, k4⟩

theorem lineOk_works {s t : State} (h : Works true s t) (k : s.lineOk) : t.lineOk := lineOk_samePlace (works_samePlace h) k

/-- Less work due. -/
theorem lineOk_due {s : State} {l : List CycleWork} (hl : ∀ w ∈ l, w ∈ s.due ∨ w = .deviceReset) (k : s.lineOk) :
    ({ s with due := l } : State).lineOk := by
  obtain ⟨k1, k2, k3, k4⟩ := k
  refine ⟨k1, fun w hw => ?_, k3, k4⟩
  rcases hl w hw with h | h
  · exact k2 w h
  · exact .inl h

/-- R163: a part after a device reset is in HUNT with nothing due and no window. -/
theorem lineOk_hunt {s : State} (ha : s.line.alignment = .hunt) (hd : ∀ w ∈ s.due, w = .deviceReset)
    (hw : s.mgmt.window = []) : s.lineOk := by
  refine ⟨fun k => absurd ha k, fun w k => .inl (hd w k), ?_, fun _ => ha⟩
  unfold LinePort.handedOver
  rw [ha, hw]
  simp

theorem lineOk_requestReset (strap : BitVec 6) (panel : Bool) (s : State) : (requestReset strap panel s).lineOk :=
  lineOk_hunt rfl (fun _ h => by cases h) rfl

theorem lineOk_performWork (w : CycleWork) {s : State} (k : s.lineOk) : (performWork w s).lineOk := by
  by_cases h : w = .deviceReset
  · subst h; exact lineOk_requestReset _ _ _
  · exact lineOk_works (works_performWork h s) k

theorem lineOk_doWork (w : CycleWork) {s : State} (k : s.lineOk) : (doWork w s).lineOk := by
  unfold doWork
  split
  · exact lineOk_performWork w (lineOk_due (fun x hx => .inl (List.mem_filter.mp hx).1) k)
  · exact k

theorem lineOk_foldl {α : Type} {f : State → α → State} (hf : ∀ s a, s.lineOk → (f s a).lineOk) :
    ∀ (l : List α) {s : State}, s.lineOk → (l.foldl f s).lineOk
  | [], _, k => k
  | a :: l, s, k => lineOk_foldl hf l (hf s a k)

theorem lineOk_takeWork (w : CycleWork) {s : State} (k : s.lineOk) : (takeWork w s).lineOk := by
  refine lineOk_doWork w ?_
  unfold prepareWork
  split
  · exact lineOk_foldl (fun s w k => lineOk_doWork w k) _ k
  · exact k

theorem lineOk_finishCycleStart {s : State} (k : s.lineOk) : (finishCycleStart s).lineOk := by
  unfold finishCycleStart
  split
  · exact k
  · exact lineOk_due (fun w hw => .inr (by simpa using (List.mem_filter.mp hw).2))
      (lineOk_foldl (fun s w k => lineOk_takeWork w k) cycleStartWork k)

theorem lineOk_settle {s : State} (k : s.lineOk) : (settle s).lineOk := by
  unfold settle
  split
  · exact lineOk_requestReset _ _ _
  · exact lineOk_finishCycleStart k

/-- R154: a LOCKED or FLYWHEEL part that raises a cycle start at its sync position. -/
theorem lineOk_cycleStart (order : List CycleWork) {s : State} {n : Nat} (hn : s.line.heldN = some n) (h32 : 32 ≤ n)
    (h240 : n ≤ 240) (ha : s.line.alignment = .locked ∨ s.line.alignment = .flywheel) (hw : s.mgmt.window = [])
    (hr : s.pins.resetIn = false) : (cycleStart order s).lineOk := by
  refine lineOk_foldl (fun s w k => lineOk_takeWork w k) order ?_
  refine ⟨fun _ => ⟨n, hn, h32, h240, ?_⟩, fun _ _ => .inr ha, ?_, fun e => ?_⟩
  · show 0 < n; omega
  · show s.mgmt.window.length = _
    simp [LinePort.handedOver, raiseCycleStart, hw]
  · have e' : s.pins.resetIn = true := e
    rw [hr] at e'; cases e'

/-! ### The fall to HUNT -/

theorem lineOk_dropReplies {s : State} (ha : s.line.alignment = .hunt) (hd : ∀ w ∈ s.due, w = .deviceReset) :
    (dropReplies s).lineOk := by
  unfold dropReplies
  dsimp only
  split
  · refine lineOk_hunt ha (fun w hw => ?_) rfl
    rcases List.mem_append.mp hw with h | h
    · exact hd w h
    · exact List.mem_singleton.mp h
  · exact lineOk_hunt ha hd rfl

theorem lineOk_fallToHunt {s : State} (hd : ∀ w ∈ s.due, w = .deviceReset) : (fallToHunt s).lineOk := by
  unfold fallToHunt
  dsimp only
  obtain ⟨-, hk, -⟩ := addCauseToAll_spec .lineLost
    ((s.updLine fun l => { l with alignment := .hunt }).updLatched fun l => { l with lineLost := true })
  obtain ⟨h1, -, -, -, -, -, -, -, h9, -⟩ := hk
  refine lineOk_dropReplies (by rw [h1]; rfl) ?_
  rw [h9]
  exact hd

/-- R163, R156: a part that is not worked has no window in hand. -/
theorem window_of_not_worked {s : State} (k : s.lineOk) (h : s.worked = false) : s.mgmt.window = [] := by
  obtain ⟨-, -, k3, k4⟩ := k
  rw [← List.length_eq_zero_iff, k3]
  unfold LinePort.handedOver
  refine if_neg fun hc => ?_
  unfold State.worked at h
  have hr : s.pins.resetIn ≠ true := fun e => by
    rw [k4 e] at hc; rcases hc.1 with e | e <;> cases e
  rcases hc.1 with e | e <;> simp [e, hr] at h

theorem mem_finishCycleStart_due (s : State) : ∀ w ∈ (finishCycleStart s).due, w = .deviceReset := by
  rw [finishCycleStart_due]
  intro w hw
  simpa using (List.mem_filter.mp hw).2

theorem lineOk_loseSignal {s : State} (k : s.lineOk) (hd : ∀ w ∈ s.due, w = .deviceReset) : (loseSignal s).lineOk := by
  unfold loseSignal
  split <;> rename_i h
  · exact lineOk_fallToHunt hd
  · have hw := window_of_not_worked k (by simpa using h)
    exact lineOk_hunt rfl hd hw

/-! ### The slot at the sync position -/

/-- R149: a good sync states an N of the range. -/
theorem goodSync_range {slot : Slot} {n number : Nat} (h : goodSync slot = some (n, number)) : 32 ≤ n ∧ n ≤ 240 := by
  unfold goodSync at h
  split at h
  · rename_i hs
    simp only [Option.some.injEq, Prod.mk.injEq] at h
    obtain ⟨rfl, -⟩ := h
    exact hs.2.2
  · cases h

theorem lineOk_huntExamine (slot : Slot) {s : State} (k : s.lineOk) (ha : s.line.alignment = .hunt)
    (hr : s.pins.resetIn = false) (hd : s.due = []) : (huntExamine slot s).lineOk := by
  unfold huntExamine
  split
  · rename_i n number hs
    obtain ⟨h32, h240⟩ := goodSync_range hs
    have hw := window_of_not_worked k (by simp [State.worked, ha])
    refine ⟨fun _ => ⟨n, rfl, h32, h240, ?_⟩, ?_, ?_, fun e => ?_⟩
    · show 0 < n; omega
    · intro w hw; rw [show (s.updLine _).due = s.due from rfl, hd] at hw; cases hw
    · show s.mgmt.window.length = _
      rw [hw]; simp [LinePort.handedOver]
    · have e' : s.pins.resetIn = true := e
      rw [hr] at e'; cases e'
  · exact k

/-- R147: a slot that leaves the part moves nothing. -/
theorem lineOk_emit (out : Slot) {s : State} (k : s.lineOk) : (s.emit out).lineOk := k

theorem heldN_of_syncPosition {s : State} (k : s.lineOk) (ha : s.line.alignment ≠ .hunt) (hs : s.atSync = true) :
    ∃ n, s.line.heldN = some n ∧ 32 ≤ n ∧ n ≤ 240 ∧ s.line.slotPos + 1 = n := by
  obtain ⟨n, hn, h32, h240, hlt⟩ := k.1 ha
  refine ⟨n, hn, h32, h240, ?_⟩
  have : n ≤ s.line.slotPos + 1 := by simpa [State.atSync, State.nextPos, hn] using hs
  omega

/-- R156: at the sync position the window of the cycle has been taken. -/
theorem window_at_sync {s : State} (k : s.lineOk) (ha : s.line.alignment ≠ .hunt) (hs : s.atSync = true) :
    s.mgmt.window = [] := by
  obtain ⟨n, -, h32, -, hp⟩ := heldN_of_syncPosition k ha hs
  rw [← List.length_eq_zero_iff, k.2.2.1]
  unfold LinePort.handedOver
  exact if_neg (by omega)

theorem lineOk_confirmExamine (order : List CycleWork) (slot : Slot) {s : State} (k : s.lineOk)
    (ha : s.line.alignment = .confirm) (hs : s.atSync = true) (hr : s.pins.resetIn = false) (hd : s.due = []) :
    (confirmExamine order slot s).lineOk := by
  have hne : s.line.alignment ≠ .hunt := by rw [ha]; simp
  obtain ⟨n, hn, h32, h240, -⟩ := heldN_of_syncPosition k hne hs
  have hw := window_at_sync k hne hs
  unfold confirmExamine
  split
  · exact lineOk_cycleStart order (n := n) hn h32 h240 (.inl rfl) hw hr
  · exact lineOk_hunt rfl (fun w h => by rw [show (s.updLine _).due = s.due from rfl, hd] at h; cases h) hw

theorem lineOk_judgeMiss (m : Nat) (order : List CycleWork) {s : State} (k : s.lineOk) (ha : s.line.alignment ≠ .hunt)
    (hs : s.atSync = true) (hr : s.pins.resetIn = false) (hd : s.due = []) : (judgeMiss m order s).lineOk := by
  obtain ⟨n, hn, h32, h240, -⟩ := heldN_of_syncPosition k ha hs
  have hw := window_at_sync k ha hs
  unfold judgeMiss
  dsimp only
  split
  · exact lineOk_cycleStart order (n := n) hn h32 h240 (.inr rfl) hw hr
  · exact lineOk_fallToHunt fun w h => by rw [show (s.updLine _).due = s.due from rfl, hd] at h; cases h

theorem lineOk_lockedExamine (order : List CycleWork) (slot : Slot) {s : State} (k : s.lineOk)
    (ha : s.line.alignment = .locked) (hs : s.atSync = true) (hr : s.pins.resetIn = false) (hd : s.due = []) :
    (lockedExamine order slot s).lineOk := by
  have hne : s.line.alignment ≠ .hunt := by rw [ha]; simp
  obtain ⟨n, hn, h32, h240, -⟩ := heldN_of_syncPosition k hne hs
  unfold lockedExamine
  split
  · exact lineOk_cycleStart order (n := n) hn h32 h240 (.inl ha) (window_at_sync k hne hs) hr
  · exact lineOk_judgeMiss _ _ k hne hs hr hd

theorem lineOk_flywheelExamine (order : List CycleWork) (slot : Slot) {s : State} (k : s.lineOk)
    (ha : s.line.alignment = .flywheel) (hs : s.atSync = true) (hr : s.pins.resetIn = false) (hd : s.due = []) :
    (flywheelExamine order slot s).lineOk := by
  have hne : s.line.alignment ≠ .hunt := by rw [ha]; simp
  obtain ⟨n, hn, h32, h240, -⟩ := heldN_of_syncPosition k hne hs
  have hw := window_at_sync k hne hs
  unfold flywheelExamine
  split
  · exact lineOk_cycleStart order (n := n) hn h32 h240 (.inl rfl) hw hr
  · exact lineOk_judgeMiss _ _ k hne hs hr hd

/-! ### Slots before the sync position -/

/-- R148: a slot before the sync position leaves and is counted; it is not one of the request window, or the part is in
CONFIRM. -/
theorem lineOk_sendNext (out : Slot) {s : State} (k : s.lineOk) (ha : s.line.alignment ≠ .hunt) (hs : s.atSync = false)
    (hw : s.line.alignment = .confirm ∨ 8 ≤ s.line.slotPos) : (s.sendNext out).lineOk := by
  obtain ⟨k1, k2, k3, k4⟩ := k
  obtain ⟨n, hn, h32, h240, hlt⟩ := k1 ha
  refine ⟨fun _ => ⟨n, hn, h32, h240, ?_⟩, k2, ?_, k4⟩
  · have : ¬ n ≤ s.line.slotPos + 1 := by simpa [State.atSync, State.nextPos, hn] using hs
    show s.line.slotPos + 1 < n
    omega
  · show s.mgmt.window.length = _
    rw [k3]
    unfold LinePort.handedOver
    show _ = if (s.line.alignment = .locked ∨ s.line.alignment = .flywheel) ∧ s.line.slotPos + 1 < 8 then _ else 0
    rcases hw with hw | hw
    · rw [if_neg (by simp [hw]), if_neg (by simp [hw])]
    · rw [if_neg (by omega), if_neg (by omega)]

theorem lineOk_replySlot (slot : Slot) {s : State} (k : s.lineOk) (ha : s.line.alignment ≠ .hunt) (hs : s.atSync = false)
    (hp : 8 ≤ s.line.slotPos) : (replySlot slot s).lineOk := by
  unfold replySlot
  split
  · split
    · exact lineOk_sendNext (s := s.updMgmt fun m => { m with replyWritten := true }) _ k ha hs (.inr hp)
    · exact lineOk_sendNext _ k ha hs (.inr hp)
  · exact lineOk_sendNext _ k ha hs (.inr hp)

/-- R156: a slot of the request window is handed over, and the last one takes the request. -/
theorem lineOk_requestSlot (slot : Slot) {s : State} (k : s.lineOk)
    (ha : s.line.alignment = .locked ∨ s.line.alignment = .flywheel) (hp : s.line.slotPos < 8) :
    (requestSlot slot s).lineOk := by
  obtain ⟨k1, k2, k3, k4⟩ := k
  have hne : s.line.alignment ≠ .hunt := by rcases ha with e | e <;> rw [e] <;> simp
  obtain ⟨n, hn, h32, h240, hlt⟩ := k1 hne
  have hlen : s.mgmt.window.length = s.line.slotPos := by rw [k3]; exact if_pos ⟨ha, hp⟩
  unfold requestSlot
  dsimp only
  split <;> rename_i hnext
  · have hnext' : s.line.slotPos + 1 < 8 := hnext
    refine ⟨fun _ => ⟨n, hn, h32, h240, ?_⟩, k2, ?_, k4⟩
    · show s.line.slotPos + 1 < n; omega
    · show (s.mgmt.window ++ [slot]).length = _
      unfold LinePort.handedOver
      rw [List.length_append, hlen]
      exact (if_pos ⟨ha, hnext'⟩).symm
  · have hnext' : ¬ s.line.slotPos + 1 < 8 := hnext
    have last : ((s.sendNext slot).updMgmt fun m => { m with window := [] }).lineOk := by
      refine ⟨fun _ => ⟨n, hn, h32, h240, ?_⟩, k2, ?_, k4⟩
      · show s.line.slotPos + 1 < n; omega
      · show 0 = _
        unfold LinePort.handedOver
        exact (if_neg fun h => hnext' h.2).symm
    split
    · exact lineOk_works (works_takeWindow _ _) last
    · exact last

theorem lineOk_entrySlot (e : SlotEntry) (slot : Slot) {s : State} (k : s.lineOk) (ha : s.line.alignment ≠ .hunt)
    (hs : s.atSync = false) (hp : 16 ≤ s.line.slotPos) : (entrySlot e slot s).lineOk := by
  have hp' : 8 ≤ s.line.slotPos := by omega
  unfold entrySlot
  split
  · exact lineOk_sendNext _ k ha hs (.inr hp')
  · exact lineOk_works (works_takeSample _ _ _ _) (lineOk_sendNext _ k ha hs (.inr hp'))
  · exact lineOk_sendNext (s := s.updJack _ _) _ k ha hs (.inr hp')
  · exact lineOk_sendNext (s := s.updChan _ _) _ k ha hs (.inr hp')
  · rename_i p
    cases p
    · exact lineOk_sendNext (s := s.updArb .a _) _ k ha hs (.inr hp')
    · exact lineOk_sendNext (s := s.updArb .b _) _ k ha hs (.inr hp')
  · exact lineOk_sendNext (s := s.updReports _) _ k ha hs (.inr hp')

/-- R158: an entry is met at a mapped position alone. -/
theorem nextEntry_position {s : State} {e : SlotEntry} (h : s.nextEntry = some e) : 16 ≤ s.line.slotPos := by
  unfold State.nextEntry at h
  split at h
  · rename_i hc
    have h17 : 17 ≤ s.line.slotPos + 1 := by simpa [State.nextPos] using (Bool.and_eq_true_iff.mp hc).2
    omega
  · cases h

theorem lineOk_workSlot (slot : Slot) {s : State} (k : s.lineOk)
    (ha : s.line.alignment = .locked ∨ s.line.alignment = .flywheel) (hs : s.atSync = false) :
    (workSlot slot s).lineOk := by
  have hne : s.line.alignment ≠ .hunt := by rcases ha with e | e <;> rw [e] <;> simp
  unfold workSlot
  split
  · rename_i e he
    exact lineOk_entrySlot e slot k hne hs (nextEntry_position he)
  · split <;> rename_i hp
    · exact lineOk_replySlot slot k hne hs (by unfold State.nextPos at hp; omega)
    · exact lineOk_requestSlot slot k ha (by unfold State.nextPos at hp; omega)

theorem lineOk_slotArrives (order : List CycleWork) (slot : Slot) {s : State} (k : s.lineOk) (hd : s.due = []) :
    (slotArrives order slot s).lineOk := by
  unfold slotArrives
  split <;> rename_i hr
  · exact k
  · have hr' : s.pins.resetIn = false := by simpa using hr
    split <;> rename_i ha
    · exact lineOk_huntExamine slot (lineOk_emit slot k) ha hr' hd
    · split <;> rename_i hs
      · exact lineOk_confirmExamine order slot (lineOk_emit slot k) ha hs hr' hd
      · exact lineOk_sendNext slot k (by rw [ha]; simp) (by simpa using hs) (.inl ha)
    · split <;> rename_i hs
      · exact lineOk_lockedExamine order slot (lineOk_emit slot k) ha hs hr' hd
      · exact lineOk_workSlot slot k (.inl ha) (by simpa using hs)
    · split <;> rename_i hs
      · exact lineOk_flywheelExamine order slot (lineOk_emit slot k) ha hs hr' hd
      · exact lineOk_workSlot slot k (.inr ha) (by simpa using hs)

/-! ### Commands -/

theorem lineOk_slotEvent (order : List CycleWork) (slot : Slot) {s : State} (k : s.lineOk) :
    (slotEvent order slot s).lineOk :=
  lineOk_slotArrives order slot (s := s.listening) (lineOk_settle k) (settle_due s)

theorem lineOk_looseSlots (w : Window) {s : State} (k : s.lineOk) : (looseSlots w s).lineOk :=
  lineOk_foldl (fun s x k => lineOk_slotArrives [] x (lineOk_settle k) (settle_due s)) w.slots
    (s := s.listening) (lineOk_settle k)

theorem lineOk_slotOutcome (pos : Nat) (q : Slot → State → Bool) (slot : Slot) {s : State} (k : s.lineOk) :
    (slotOutcome pos q slot s).lineOk := by
  unfold slotOutcome
  split
  · exact lineOk_slotEvent _ _ k
  · exact k

theorem lineOk_takeOccurrence (w : CycleWork) (q : State → Bool) {s : State} (k : s.lineOk) :
    (takeOccurrence w q s).lineOk := by
  unfold takeOccurrence
  split
  · exact lineOk_takeWork w k
  · exact k

/-- R156, R157: eight slots pass at once, and none of them is kept. -/
theorem lineOk_passed {s t : State} (k : s.lineOk) (hw : s.worked = true) (p : Nat) (h8 : 8 ≤ p) (h16 : p ≤ 16)
    (hl : t.line = { s.line with slotPos := p }) (hd : t.due = s.due) (hm : t.mgmt.window = [])
    (hp : t.pins = s.pins) : t.lineOk := by
  obtain ⟨k1, k2, -, k4⟩ := k
  have hne : s.line.alignment ≠ .hunt := by
    intro e
    simp [State.worked, e] at hw
  obtain ⟨n, hn, h32, h240, -⟩ := k1 hne
  unfold State.lineOk
  rw [hl, hd, hm, hp]
  refine ⟨fun _ => ⟨n, hn, h32, h240, ?_⟩, k2, ?_, k4⟩
  · show p < n; omega
  · unfold LinePort.handedOver
    exact (if_neg fun h => by have : p < 8 := h.2; omega).symm

/-- The window in hand is empty at its first position, and from position 8 on. -/
theorem window_between {s : State} (k : s.lineOk) (h : s.line.slotPos = 0 ∨ 8 ≤ s.line.slotPos) : s.mgmt.window = [] := by
  rw [← List.length_eq_zero_iff, k.2.2.1]
  unfold LinePort.handedOver
  rcases h with h | h
  · rw [h]; simp
  · exact if_neg (by omega)

theorem lineOk_passWindow (w : Window) {s : State} (k : s.lineOk) (h : s.atRequestWindow = true) :
    (passWindow w s).lineOk := by
  obtain ⟨hw, h0⟩ : s.worked = true ∧ s.line.slotPos = 0 := by simpa [State.atRequestWindow] using h
  have hwin := window_between k (.inl h0)
  exact lineOk_passed k hw 8 (by omega) (by omega) rfl rfl hwin rfl

theorem lineOk_requestEvent {mine : Bool} {act : List Byte → State → Answer} (h : Acts act) (w : Window) {s : State}
    (k : s.lineOk) : (requestEvent mine act w s).lineOk := by
  unfold requestEvent
  split <;> rename_i hr
  · have hp := lineOk_passWindow w (lineOk_settle k) hr
    split
    · exact lineOk_works (works_takeRequest h w _) hp
    · exact lineOk_works (works_takeWindow w _) hp
  · exact lineOk_looseSlots w k

theorem lineOk_ignoredEvent (w : Window) {s : State} (k : s.lineOk) : (ignoredEvent w s).lineOk := by
  unfold ignoredEvent
  split <;> rename_i hr
  · exact lineOk_works (works_takeWindow w _) (lineOk_passWindow w (lineOk_settle k) hr)
  · exact lineOk_looseSlots w k

theorem lineOk_unknownEvent (w : Window) {s : State} (k : s.lineOk) : (unknownEvent w s).lineOk := by
  unfold unknownEvent
  split <;> rename_i hr
  · exact lineOk_works (works_takeUnknown w _)
      (lineOk_passWindow w (lineOk_settle k) (by simp only [Bool.and_eq_true] at hr; exact hr.1))
  · exact lineOk_ignoredEvent w k

theorem lineOk_writeReply (w : Window) {s : State} (k : s.lineOk) (h : s.atReplyWindow = true) :
    (writeReply w s).lineOk := by
  obtain ⟨hw, h8⟩ : s.worked = true ∧ s.line.slotPos = 8 := by simpa [State.atReplyWindow] using h
  have hwin := window_between k (.inr h8.ge)
  unfold writeReply
  dsimp only
  split
  · exact lineOk_passed k hw 16 (by omega) (by omega) rfl rfl hwin rfl
  · exact lineOk_passed k hw 16 (by omega) (by omega) rfl rfl hwin rfl

theorem lineOk_resetDue {s : State} (k : s.lineOk) : s.resetDue.lineOk :=
  lineOk_due (fun w hw => by
    rcases List.mem_append.mp hw with h | h
    · exact .inl h
    · exact .inr (List.mem_singleton.mp h)) k

theorem lineOk_replyGone {s : State} (k : s.lineOk) : (replyGone s).lineOk := by
  unfold replyGone
  split
  · dsimp only
    split
    · exact lineOk_resetDue (s := s.updMgmt fun m => { m with owed := none, replyWritten := false }) k
    · exact k
  · exact k

/-- Every command keeps the position of the part on the line. -/
theorem lineOk_exec {i : Instr} {s t : State} (k : s.lineOk) (h : exec i s = .next t) : t.lineOk := by
  cases i <;> simp only [exec] at h <;> injection h with h <;> subst h
  case powerOn => exact lineOk_hunt rfl (fun _ h => by cases h) rfl
  case resetInAssert =>
    split
    · exact k
    · exact lineOk_hunt rfl (fun _ h => by cases h) rfl
  case resetInRelease =>
    split
    · obtain ⟨k1, k2, k3, -⟩ := k
      exact ⟨k1, k2, k3, fun e => by cases e⟩
    · exact k
  case deviceReset =>
    split
    · exact lineOk_requestReset _ _ _
    · exact k
  case panelHoldAssert =>
    split
    · exact k
    · exact lineOk_works (s := { s with pins := { s.pins with panel := true } }) (works_addCauseToAll _ _) k
  case panelHoldRelease =>
    split
    · exact k
    · exact k
  case lossOfSignal => exact lineOk_loseSignal (lineOk_finishCycleStart k) (mem_finishCycleStart_due s)
  case huntSlot | confirmSyncPosition | lockedSyncPosition | flywheelSyncPosition => exact lineOk_slotEvent _ _ k
  case flywheelEnd =>
    split
    · exact lineOk_slotEvent _ _ k
    · exact k
  case reportListSwap moment =>
    cases moment with
    | cycleStart => exact lineOk_takeOccurrence _ _ k
    | reportSlot pos slot => exact lineOk_slotOutcome _ _ _ k
  case replyWindow w =>
    split <;> rename_i hr
    · exact lineOk_writeReply w (lineOk_settle k) hr
    · exact lineOk_looseSlots w k
  case replyLeft => exact lineOk_replyGone (lineOk_settle k)
  case sampleSlot | overload | rampSettled | refusal | overpressure | tensionLimit | jackCommand | winchCommand
      | pumpCommand | reportSlot => exact lineOk_slotOutcome _ _ _ k
  case ignoredRequest => exact lineOk_ignoredEvent _ k
  case unknownRequest => exact lineOk_unknownEvent _ k
  case loadEntryHeader => exact lineOk_requestEvent acts_loadHeader _ k
  case loadEntryStep => exact lineOk_requestEvent acts_loadStep _ k
  case loadEntrySegment => exact lineOk_requestEvent acts_loadSegment _ k
  case loadEntryMarkset => exact lineOk_requestEvent acts_loadMarkSet _ k
  case loadEntryScale => exact lineOk_requestEvent acts_loadScale _ k
  case loadEntryChannelConfig => exact lineOk_requestEvent acts_loadChannelConfig _ k
  case loadEntryWallPoint => exact lineOk_requestEvent acts_loadWallPoint _ k
  case loadEntrySlotMap => exact lineOk_requestEvent acts_loadSlotMap _ k
  case loadEntryReportList => exact lineOk_requestEvent acts_loadReportList _ k
  case loadEntryPartConfig => exact lineOk_requestEvent acts_loadPartConfig _ k
  case swapBanksSlotMap => exact lineOk_requestEvent acts_swapMap _ k
  case swapBanksReportList => exact lineOk_requestEvent acts_swapList _ k
  case swapBanksBoth => exact lineOk_requestEvent acts_swapBoth _ k
  case readEntry => exact lineOk_requestEvent (acts_requestAct 2) _ k
  case startProgram => exact lineOk_requestEvent (acts_requestAct 4) _ k
  case abortProgram => exact lineOk_requestEvent (acts_requestAct 5) _ k
  case skipStep => exact lineOk_requestEvent (acts_requestAct 6) _ k
  case freeze => exact lineOk_requestEvent (acts_requestAct 7) _ k
  case resume => exact lineOk_requestEvent (acts_requestAct 8) _ k
  case release => exact lineOk_requestEvent (acts_requestAct 9) _ k
  case retargetAtEnd => exact lineOk_requestEvent (acts_onChannel acts_retargetAtEnd) _ k
  case retargetNow => exact lineOk_requestEvent (acts_onChannel acts_retargetNow) _ k
  case setPace => exact lineOk_requestEvent (acts_requestAct 11) _ k
  case readChannel => exact lineOk_requestEvent (acts_requestAct 12) _ k
  case readPump => exact lineOk_requestEvent (acts_requestAct 13) _ k
  case readRecord => exact lineOk_requestEvent (acts_requestAct 14) _ k
  case takeRecord => exact lineOk_requestEvent (acts_requestAct 15) _ k
  case setBaseline => exact lineOk_requestEvent (acts_requestAct 16) _ k
  case clearWallStop => exact lineOk_requestEvent (acts_requestAct 17) _ k
  case readStatus => exact lineOk_requestEvent (acts_requestAct 18) _ k
  case clearNotices => exact lineOk_requestEvent (acts_requestAct 19) _ k
  case resetPart => exact lineOk_requestEvent (acts_requestAct 20) _ k
  all_goals exact lineOk_takeOccurrence _ _ k

/-- Settles O58, over the front command of the queue. -/
theorem stepKeepsLinePosition : Obligations.StepKeepsLinePosition := by
  intro s t k h
  unfold step at h
  split at h
  · injection h with h; subst h; exact k
  · rename_i c rest _
    exact lineOk_exec (s := { s with pending := rest }) k h

end Sys2Proof.Machine.Laws
end

section
/-! PROOFS. The step, power-on and the work of a cycle start that is due (R137, R154, R182). -/

namespace Sys2Proof.Machine.Laws

/-! ### The step and power-on -/

/-- Settles O1: both halves are the two cases of `step`. -/
theorem stepRunsFrontCommand : Obligations.StepRunsFrontCommand := by
  refine ⟨fun c q s h => ?_, fun s h => ?_⟩ <;> unfold step <;> rw [h]

theorem mem_allChans (c : Chan) : c ∈ allChans := by revert c; decide

/-- R119: with every point NORMAL the wall state is NORMAL. -/
theorem wallState_of_normal {s : State} (h : ∀ w, (s.wall w).state = .normal) : s.wallState = .normal := by
  simp [State.wallState, State.anyPoint, h]

/-- Settles O2, block by block. -/
theorem powerOnSetsEveryBlock : Obligations.PowerOnSetsEveryBlock := by
  intro strap panel s
  refine ⟨_, rfl, fun c => ?_, fun p => ?_, fun w => ?_, ?_, ?_⟩
  · have hc : State.chan { State.atPowerOn strap panel with pending := s.pending, freezeOrders := s.freezeOrders } c =
        Channel.afterReset ChannelConfig.defaults := atPowerOn_chan strap panel c
    rw [hc]
    simp [Channel.afterReset, ChannelConfig.defaults, Profile.cleared]
  · cases p <;> simp [State.arb, State.atPowerOn, Arbiter.afterReset]
  · have hw : State.wall { State.atPowerOn strap panel with pending := s.pending, freezeOrders := s.freezeOrders } w =
        { config := WallConfig.defaults, state := .normal, latch := false } := atPowerOn_wall strap panel w
    rw [hw]
    simp [WallConfig.defaults]
  · refine wallState_of_normal fun w => ?_
    have hw : State.wall { State.atPowerOn strap panel with pending := s.pending, freezeOrders := s.freezeOrders } w =
        { config := WallConfig.defaults, state := .normal, latch := false } := atPowerOn_wall strap panel w
    rw [hw]
  · refine ⟨fun i => ⟨rfl, rfl, rfl, rfl⟩, fun k i => by cases k <;> rfl, fun i => rfl, fun x => rfl, rfl, rfl, rfl, rfl, rfl,
      rfl, rfl, rfl, rfl, rfl, rfl, rfl⟩

/-- Settles O60: the part after power-on, one invariant after another. -/
theorem resetMeetsInvariants : Obligations.ResetMeetsInvariants := by
  have hc (c : Chan) : State.reset.chan c = Channel.afterReset ChannelConfig.defaults := atPowerOn_chan 63 false c
  have hw (w : Point) : State.reset.wall w = { config := WallConfig.defaults, state := .normal, latch := false } :=
    atPowerOn_wall 63 false w
  have hg (c : Chan) : Guarded (State.reset.wallState = .stop) (State.reset.chan c) := by
    rw [hc]; exact guarded_afterReset _ _
  obtain ⟨freeze, stop⟩ := (guarded_iff State.reset).mp hg
  refine ⟨tablesCanonical_atPowerOn 63 false, ⟨Nat.zero_le _, .nil, fun e => absurd rfl e, fun c => ?_, fun c k => by cases k⟩,
    fun c => ?_, fun c => ?_, fun w => ?_, freeze, stop, (pumpsOk_iff _).mpr ?_, lineOk_hunt rfl (fun _ k => by cases k) rfl⟩
  · rw [hc]
    exact ⟨fun e => (List.not_mem_nil e).elim, fun e => by cases e⟩
  · rw [hc]; exact Nat.zero_le _
  · exact (by rw [hc]; exact loopOk_afterReset _ : LoopOk (State.reset.chan c))
  · exact (by rw [hw]; exact ⟨by simp, by simp⟩ : PointOk (State.reset.wall w))
  · exact claimed_afterReset (fun p => by cases p <;> rfl) fun c => ⟨_, hc c⟩

/-! ### Due work -/

theorem mem_cycleStartWork {w : CycleWork} (h : w ≠ .deviceReset) : w ∈ cycleStartWork := by
  have hc := mem_allChans
  have hw := mem_allPoints
  cases w with
  | deviceReset => exact absurd rfl h
  | arbiter p => cases p <;> simp [cycleStartWork]
  | ageing | mapSwap | listSwap | wallStale _ | inputStale _ | profile _ | echo _ | sequencer _ =>
    simp [cycleStartWork, hc, hw]

theorem deviceReset_not_mem_cycleStartWork : CycleWork.deviceReset ∉ cycleStartWork := by decide

/-- The blocks' work takes no due work. -/
theorem performWork_due {w : CycleWork} (h : w ≠ .deviceReset) (s : State) : (performWork w s).due = s.due :=
  (works_samePlace (works_performWork h s)).2.1

/-- A piece that is done is not due any more, and the others are as they were. -/
theorem doWork_due {w : CycleWork} (h : w ≠ .deviceReset) (s : State) :
    (doWork w s).due = s.due.filter (· ≠ w) := by
  unfold doWork
  split <;> rename_i hd
  · exact performWork_due h _
  · exact (List.filter_eq_self.mpr fun x hx => by simpa using fun e : x = w => hd (e ▸ hx)).symm

/-- R11, R66, R78, R117, R141: what comes before a piece is another piece of the cycle start. -/
theorem mem_workBefore {w v : CycleWork} {s : State} (h : v ∈ workBefore w s) : v ≠ w ∧ v ≠ .deviceReset := by
  unfold workBefore at h
  split at h
  · rw [List.mem_singleton.mp h]; simp
  · rw [List.mem_singleton.mp h]; simp
  · rename_i c
    split at h
    · rw [List.mem_singleton.mp h]; simp
    all_goals
      unfold lowerClaimants at h
      split at h
      · obtain ⟨d, hd, rfl⟩ := List.mem_map.mp h
        have hlt : d < c := by
          have := (List.mem_filter.mp hd).2
          simp only [decide_eq_true_eq] at this
          exact this.1
        exact ⟨by simpa using hlt.ne, by simp⟩
      · cases h
  all_goals cases h

theorem foldl_doWork_due : ∀ (l : List CycleWork) (s : State), CycleWork.deviceReset ∉ l → ∀ w,
    w ∈ (l.foldl (fun s w => doWork w s) s).due ↔ w ∈ s.due ∧ w ∉ l
  | [], s, _, w => by simp
  | v :: l, s, h, w => by
    have hv : v ≠ .deviceReset := fun e => h (by simp [e])
    rw [List.foldl_cons, foldl_doWork_due l _ (fun k => h (by simp [k])), doWork_due hv]
    simp only [List.mem_filter, decide_eq_true_eq, List.mem_cons, not_or]
    tauto

/-- What is due once the work before `w` has been done. -/
theorem mem_prepareWork_due {w v : CycleWork} {s : State} (h : w ∈ s.due) :
    v ∈ (prepareWork w s).due ↔ v ∈ s.due ∧ v ∉ workBefore w s := by
  rw [prepareWork, if_pos h]
  exact foldl_doWork_due _ s (fun k => (mem_workBefore k).2 rfl) v

/-- A due piece is taken: it is performed on the part prepared for it, where it is due no more. -/
theorem takeWork_of_due {w : CycleWork} {s : State} (h : w ∈ s.due) :
    takeWork w s = performWork w { prepareWork w s with due := (prepareWork w s).due.filter (· ≠ w) } := by
  rw [takeWork, doWork, if_pos ((mem_prepareWork_due h).mpr ⟨h, fun k => (mem_workBefore k).1 rfl⟩)]

theorem mem_takeWork_due {w v : CycleWork} {s : State} (hw : w ≠ .deviceReset) (h : w ∈ s.due) :
    v ∈ (takeWork w s).due ↔ v ∈ s.due ∧ v ∉ workBefore w s ∧ v ≠ w := by
  rw [takeWork_of_due h, performWork_due hw]
  simp only [List.mem_filter, decide_eq_true_eq, mem_prepareWork_due h, and_assoc]

theorem takeWork_due_subset {w v : CycleWork} {s : State} (hw : w ≠ .deviceReset) (h : v ∈ (takeWork w s).due) :
    v ∈ s.due := by
  by_cases hd : w ∈ s.due
  · exact ((mem_takeWork_due hw hd).mp h).1
  · rwa [takeWork_of_not_due hd] at h

/-- A round over pieces none of which is due changes nothing. -/
theorem foldl_takeWork_of_not_due : ∀ (l : List CycleWork) {s : State}, (∀ v ∈ l, v ∉ s.due) →
    l.foldl (fun s w => takeWork w s) s = s
  | [], _, _ => rfl
  | v :: l, s, h => by
    rw [List.foldl_cons, takeWork_of_not_due (h v (by simp))]
    exact foldl_takeWork_of_not_due l fun x hx => h x (by simp [hx])

/-- R154: the round over the model's order, whether anything is due or not. -/
theorem finishCycleStart_eq (s : State) :
    finishCycleStart s =
      { cycleStartWork.foldl (fun s w => takeWork w s) s with due := s.due.filter (· = .deviceReset) } := by
  unfold finishCycleStart
  split <;> rename_i h
  · rw [foldl_takeWork_of_nothing_due h, h, List.filter_nil, ← h]
  · rfl

theorem settle_eq (s : State) :
    settle s = if CycleWork.deviceReset ∈ s.due then performWork .deviceReset (finishCycleStart s)
      else finishCycleStart s := rfl

/-- The device reset that a RESET_PART set going is due as often after a piece of the cycle start as before. -/
theorem filter_deviceReset_takeWork {w : CycleWork} (hw : w ≠ .deviceReset) (s : State) :
    (takeWork w s).due.filter (· = .deviceReset) = s.due.filter (· = .deviceReset) := by
  have one {v : CycleWork} (hv : v ≠ .deviceReset) (u : State) :
      (doWork v u).due.filter (· = .deviceReset) = u.due.filter (· = .deviceReset) := by
    rw [doWork_due hv, List.filter_filter]
    refine List.filter_congr fun x _ => ?_
    by_cases e : x = .deviceReset
    · subst e; simpa using Ne.symm hv
    · simp [e]
  have all : ∀ (l : List CycleWork) (u : State), CycleWork.deviceReset ∉ l →
      (l.foldl (fun s w => doWork w s) u).due.filter (· = .deviceReset) = u.due.filter (· = .deviceReset) := by
    intro l
    induction l with
    | nil => exact fun _ _ => rfl
    | cons v l ih =>
      intro u h
      rw [List.foldl_cons, ih _ fun k => h (by simp [k])]
      exact one (fun e => h (by simp [e])) u
  unfold takeWork
  rw [one hw]
  unfold prepareWork
  split
  · exact all _ s fun k => (mem_workBefore k).2 rfl
  · rfl

/-- The first piece that is due, in the model's order, is taken, and then the rest. -/
theorem settle_takeWork {pre post : List CycleWork} {w : CycleWork} {s : State} (ho : cycleStartWork = pre ++ w :: post)
    (hpre : ∀ v ∈ pre, v ∉ s.due) (h : w ∈ s.due) : settle s = settle (takeWork w s) := by
  have hw : w ≠ .deviceReset := fun e => deviceReset_not_mem_cycleStartWork (by rw [ho, ← e]; simp)
  have round : cycleStartWork.foldl (fun s w => takeWork w s) s =
      cycleStartWork.foldl (fun s w => takeWork w s) (takeWork w s) := by
    have gone : w ∉ (takeWork w s).due := fun k => ((mem_takeWork_due hw h).mp k).2.2 rfl
    rw [ho, List.foldl_append, List.foldl_append, foldl_takeWork_of_not_due pre hpre,
      foldl_takeWork_of_not_due pre fun v hv k => hpre v hv (takeWork_due_subset hw k), List.foldl_cons, List.foldl_cons,
      takeWork_of_not_due gone]
  have due := filter_deviceReset_takeWork hw s
  have reset : CycleWork.deviceReset ∈ (takeWork w s).due ↔ CycleWork.deviceReset ∈ s.due := by
    have := congrArg (CycleWork.deviceReset ∈ ·) due
    simpa [List.mem_filter] using this
  have finish : finishCycleStart (takeWork w s) = finishCycleStart s := by
    rw [finishCycleStart_eq, finishCycleStart_eq, due, round]
  rw [settle_eq, settle_eq, finish]
  simp only [reset]

/-- One piece that is due is performed on the part without it. -/
theorem settle_one {w : CycleWork} {s : State} (h : s.due = [w]) :
    settle s = performWork w { s with due := [] } := by
  by_cases hw : w = .deviceReset
  · subst hw
    have round := foldl_takeWork_of_not_due cycleStartWork (s := s) fun v hv k => by
      rw [h, List.mem_singleton] at k
      exact deviceReset_not_mem_cycleStartWork (k ▸ hv)
    rw [settle_eq, if_pos (by simp [h]), finishCycleStart_eq, round]
    rfl
  · have hm : w ∈ s.due := by simp [h]
    have prepared : prepareWork w s = s := by
      rw [prepareWork, if_pos hm]
      have : ∀ l : List CycleWork, w ∉ l → l.foldl (fun s w => doWork w s) s = s := by
        intro l
        induction l with
        | nil => exact fun _ => rfl
        | cons v l ih =>
          intro hl
          have hv : v ∉ s.due := fun k => hl (by rw [h, List.mem_singleton] at k; simp [k])
          rw [List.foldl_cons, show doWork v s = s from if_neg hv]
          exact ih fun k => hl (by simp [k])
      exact this _ fun k => (mem_workBefore k).1 rfl
    have taken := takeWork_of_prepared hm prepared
    have empty : s.due.filter (· ≠ w) = [] := by simp [h]
    rw [empty] at taken
    rw [settle_of_one_due h (mem_cycleStartWork hw) hw (by rw [taken, performWork_due hw]), taken]

/-- R117, R141: the ageing of the same cycle start comes before the work that looks for stale inputs. -/
theorem prepareWork_stale {w : CycleWork} {s : State} (h : w ∈ s.due) (hb : workBefore w s = [.ageing]) :
    (CycleWork.ageing ∈ s.due →
      prepareWork w s = ageRecords { s with due := s.due.filter (· ≠ CycleWork.ageing) }) ∧
    (CycleWork.ageing ∉ s.due → prepareWork w s = s) := by
  rw [prepareWork, if_pos h, hb, List.foldl_cons, List.foldl_nil, doWork]
  exact ⟨fun k => if_pos k, fun k => if_neg k⟩

theorem settleTakesAllDueWork : SettleTakesAllDueWork := by
  refine ⟨settle_of_nothing_due, settle_due, fun w s h => settle_one h, fun pre w post s ho h hpre =>
    settle_takeWork ho hpre h, fun w s h => takeWork_of_due h, fun w s h hk => prepareWork_stale h ?_⟩
  rcases hk with ⟨p, rfl⟩ | ⟨c, rfl⟩ <;> rfl

/-- R137: the record of each target after the ageing. -/
theorem ageRecords_input (x : Target) (s : State) :
    (ageRecords s).input x = (s.input x).map fun r => { r with age := min 255 (r.age + 1) } :=
  sparse_get_map none (Option.map fun r : InputRecord => { r with age := satAdd 255 r.age 1 }) rfl s.inputs x.code

theorem ageingAgesEveryRecord : AgeingAgesEveryRecord := by
  refine ⟨ageRecords_input, fun s h => ?_⟩
  rw [settle_one h]
  exact ⟨rfl, fun x => ageRecords_input x _⟩

/-- Settles O18. -/
theorem cycleStartWorkIsTakenOnce : Obligations.CycleStartWorkIsTakenOnce :=
  ⟨settleTakesAllDueWork, ageingAgesEveryRecord⟩

end Sys2Proof.Machine.Laws
end

section
/-! PROOFS. The notices (R188, R189), the device resets (R26, R164, R180, R181) and the panel button (R123). -/

namespace Sys2Proof.Machine.Laws

/-! ### Notices (R188, R189) -/

theorem mem_allNotices (k : NoticeKind) : k ∈ allNotices := by cases k <;> decide

/-- The first kind in the order of priorities that `q` holds of. -/
theorem find_allNotices_iff (q : NoticeKind → Bool) (k : NoticeKind) :
    allNotices.find? q = some k ↔ q k = true ∧ ∀ j : NoticeKind, j.priority < k.priority → ¬ q j = true := by
  have before : ∀ j : NoticeKind, j.priority < k.priority ↔ j ∈ allNotices.take k.priority := by
    intro j; cases k <;> cases j <;> decide
  have split : allNotices = allNotices.take k.priority ++ k :: allNotices.drop (k.priority + 1) := by
    cases k <;> rfl
  constructor
  · intro h
    refine ⟨List.find?_some h, fun j hj hq => ?_⟩
    have first : (allNotices.take k.priority).find? q ≠ none := by
      rw [ne_eq, List.find?_eq_none]
      exact fun n => n j ((before j).mp hj) hq
    obtain ⟨i, hi⟩ := Option.ne_none_iff_exists'.mp first
    have found : allNotices.find? q = some i := by rw [split, List.find?_append, hi]; rfl
    obtain rfl : i = k := Option.some.inj (found.symm.trans h)
    exact absurd ((before i).mpr (List.mem_of_find?_eq_some hi)) (Nat.lt_irrefl _)
  · rintro ⟨hk, hlow⟩
    have none_before : (allNotices.take k.priority).find? q = none :=
      List.find?_eq_none.mpr fun j hj => hlow j ((before j).mpr hj)
    rw [split, List.find?_append, none_before, List.find?_cons_of_pos hk]; rfl

/-- R189: the digest passes over the kinds of higher priority, none of which is shown. -/
theorem digest_eq_some_iff (s : State) (k : NoticeKind) :
    s.digest = some k ↔
      (s.pendingNotice k = true ∧ s.mgmt.config.mask.getLsbD k.priority = false) ∧
        ∀ j : NoticeKind, j.priority < k.priority →
          ¬ (s.pendingNotice j = true ∧ s.mgmt.config.mask.getLsbD j.priority = false) := by
  rw [State.digest, find_allNotices_iff]
  simp

theorem digest_eq_none_iff (s : State) :
    s.digest = none ↔
      ∀ k : NoticeKind, ¬ (s.pendingNotice k = true ∧ s.mgmt.config.mask.getLsbD k.priority = false) := by
  simp [State.digest, List.find?_eq_none, mem_allNotices]

/-- Settles O49, by the place of each kind in the order of priorities. -/
theorem digestIsHighestPendingNotice : Obligations.DigestIsHighestPendingNotice := fun s =>
  ⟨by simp [State.pendingNotice], by simp [State.pendingNotice], by simp [State.pendingNotice],
    by simp [State.pendingNotice], rfl, rfl, rfl, rfl, rfl, rfl, digest_eq_some_iff s, digest_eq_none_iff s⟩

/-! ### Device resets (R26, R164, R180, R181) -/

/-- R145: the records that exist are invalidated. -/
theorem get_invalidateRecords (i : Nat) : ∀ t : SparseTable (Option InputRecord),
    Sparse.get none (invalidateRecords t) i = (Sparse.get none t i).map fun _ => InputRecord.fresh
  | [] => rfl
  | (k, v) :: t => by
    have rest := get_invalidateRecords i t
    simp only [invalidateRecords, List.map_cons, Sparse.get] at rest ⊢
    split <;> [rfl; exact rest]

theorem deviceResetLeaves_deviceReset (s : State) : DeviceResetLeaves s (deviceReset s) :=
  ⟨deviceReset_chan s, rfl, rfl, rfl, rfl, rfl, fun x => get_invalidateRecords x.code s.inputs,
    fun w => by rw [deviceReset_wall]; exact ⟨rfl, rfl, rfl⟩,
    rfl, rfl, rfl, rfl, rfl, rfl, rfl, rfl, rfl, rfl, rfl, rfl, rfl, rfl, rfl, rfl⟩

theorem deviceResetByPinOrRequest : DeviceResetByPinOrRequest := by
  refine ⟨fun s released => ?_, fun s held => ?_, fun strap panel s due => ?_⟩
  · refine ⟨{ deviceReset s with pins := { s.pins with resetIn := true } }, ?_, deviceResetLeaves_deviceReset s, rfl,
      rfl, rfl⟩
    simp [exec, execResetInAssert, released]
  · simp [exec, execResetInAssert, held]
  · refine ⟨requestReset strap panel s, ?_, deviceResetLeaves_deviceReset s, rfl, rfl, rfl, rfl, rfl⟩
    simp [exec, execDeviceReset, due]

theorem resetReleaseTakesStrapAndCause : ResetReleaseTakesStrapAndCause := fun strap panel s held => by
  simp [exec, execResetInRelease, held, endReset]

/-- Settles O3, by the one reset of every block that the pin and the request share. -/
theorem deviceResetSetsEveryBlock : Obligations.DeviceResetSetsEveryBlock :=
  ⟨deviceResetByPinOrRequest, resetReleaseTakesStrapAndCause⟩

/-! ### The panel button (R123) -/

/-- Settles O4: the level is taken, and the cause reaches the channels whatever order they take it in. -/
theorem panelHoldFreezesEveryChannel : Obligations.PanelHoldFreezesEveryChannel := by
  refine ⟨fun s released open_ => ?_, fun s released => ?_, fun s held => ?_⟩
  · obtain ⟨reaches, ⟨hline, hstore, hscales, hinputs, hwalls, hrecords, hreports, hpins, hdue, hsent, -⟩, hmgmt⟩ :=
      addCauseToAll_spec .panel { s with pins := { s.pins with panel := true } }
    exact ⟨_, by simp [exec, execPanelHoldAssert, released, open_], reaches, hpins, hline, hstore, hscales,
      hinputs, hwalls, hrecords, hreports, hmgmt (by simp), hdue, hsent⟩
  · simp [exec, execPanelHoldRelease, released]
  · simp [exec, execPanelHoldAssert, execPanelHoldRelease, held]

end Sys2Proof.Machine.Laws
end

section
/-! PROOFS. RELEASE and SET_PACE (R30, R108) and RETARGET (R40 to R43, R54). -/

namespace Sys2Proof.Machine.Laws

/-! ### An addressed request of a row that is alone of its kind -/

/-- R166, R167: the row of a kind other than LOAD_ENTRY answers what its owner answers. -/
theorem requestEvent_ofKind {k : Nat} {p : List Byte} {w : Window} {s : State} {act : List Byte → State → Answer}
    (h : Addressed k p w (settle s)) (hk : k ≠ 1) (hl : kindLength k = some p.length) :
    requestEvent (ofKind k w) act w s = State.prepare w (act p (passed w (settle s))) :=
  requestEvent_settled h (ofKind_addressed h) (lengthRight_addressed h hk hl)

theorem natAt_one (b c : Byte) (bs : List Byte) : natAt (b :: c :: bs) 1 1 = c.toNat := by simp [natAt, bytesNat]

theorem natAt_pair (b hi lo : Byte) (bs : List Byte) : natAt (b :: hi :: lo :: bs) 1 2 = 256 * hi.toNat + lo.toNat := by
  simp [natAt, bytesNat]

@[simp] theorem passed_chan (w : Window) (u : State) (c : Chan) : (passed w u).chan c = u.chan c := rfl

@[simp] theorem passed_currentStep (w : Window) (u : State) (c : Chan) :
    (passed w u).currentStep c = u.currentStep c := rfl

theorem live_iff (ch : Channel) : ch.live = true ↔ ch.state = .running ∨ ch.state = .frozen := by
  simp [Channel.live]

/-! ### RELEASE (R108) -/

/-- R108: the AWAIT that a RELEASE reaches. -/
theorem releasable_eq_some_iff (s : State) (c : Chan) (x : AwaitWork) :
    s.releasable c = some x ↔
      ((s.chan c).state = .running ∨ (s.chan c).state = .frozen) ∧ (s.chan c).work = .await x ∧
        ∃ st p, s.currentStep c = some st ∧ st.body = .await p ∧ p.releaseSet.release = true := by
  unfold State.releasable
  split
  · rename_i f d p y hs hw
    rw [hs, hw, ← live_iff]
    simp only [Option.some.injEq, StepWork.await.injEq]
    constructor
    · intro h
      split at h <;> rename_i met
      · simp only [Bool.and_eq_true] at met
        exact ⟨met.1, Option.some.inj h, _, p, rfl, rfl, met.2⟩
      · exact absurd h (by simp)
    · rintro ⟨live, rfl, _, _, rfl, hb, release⟩
      cases hb
      simp [live, release]
  · rename_i other
    refine ⟨nofun, fun ⟨_, hw, st, p, hs, hb, _⟩ => ?_⟩
    obtain ⟨f, d, body⟩ := st
    subst hb
    exact absurd hw (other f d p x hs)

theorem releaseRequest_met {c : Chan} {bs : List Byte} {s : State} {x : AwaitWork} (h : s.releasable c = some x) :
    releaseRequest c bs s = accept [] (s.setWork c (.await { x with latch := true })) := by
  simp [releaseRequest, h]

theorem releaseRequest_refused {c : Chan} {bs : List Byte} {s : State} (h : s.releasable c = none) :
    releaseRequest c bs s = refuse .wrongState s := by
  simp [releaseRequest, h]

theorem exec_release {b : Byte} {w : Window} {s : State} (h : Addressed 9 [b] w (settle s)) :
    exec (.release w) s = .next (State.prepare w (onChannel releaseRequest [b] (passed w (settle s)))) :=
  congrArg Host.Outcome.next (requestEvent_ofKind h (by decide) rfl)

/-! ### SET_PACE (R30) -/

theorem exec_setPace {b hi lo : Byte} {w : Window} {s : State} (h : Addressed 11 [b, hi, lo] w (settle s)) :
    exec (.setPace w) s = .next (State.prepare w (onChannel paceRequest [b, hi, lo] (passed w (settle s)))) :=
  congrArg Host.Outcome.next (requestEvent_ofKind h (by decide) rfl)

/-- Settles O43, each request by its checks in order. -/
theorem releaseAndPaceRequests : Obligations.ReleaseAndPaceRequests := by
  constructor
  · intro b w s u h
    refine ⟨fun hb => ?_, fun c hc => ?_⟩
    · rw [exec_release h, onChannel_badIndex _ hb, prepare_refuse]
    intro met
    rw [exec_release h, onChannel_eq _ hc]
    refine ⟨fun x hx => ?_, fun none_ => ?_⟩
    · rw [releaseRequest_met (s := passed w u) ((releasable_eq_some_iff u c x).mpr hx)]
      rfl
    · have unmet : u.releasable c = none :=
        Option.eq_none_iff_forall_ne_some.mpr fun x hx => none_ x ((releasable_eq_some_iff u c x).mp hx)
      rw [releaseRequest_refused (s := passed w u) unmet, prepare_refuse]
  · intro b hi lo w s u pace h
    refine ⟨fun hb => ?_, fun c hc => ⟨fun far => ?_, fun near => ?_⟩⟩
    · rw [exec_setPace h, onChannel_badIndex _ hb, prepare_refuse]
    · rw [exec_setPace h, onChannel_eq _ hc, paceRequest, natAt_pair, if_pos far, prepare_refuse]
    · rw [exec_setPace h, onChannel_eq _ hc, paceRequest, natAt_pair, if_neg (Nat.not_lt.mpr near)]
      rfl

/-! ### RETARGET (R40 to R43, R54) -/

/-- R197: the selection byte of an addressed request stands in its payload. -/
theorem payloadByte_addressed {k : Nat} {p : List Byte} {w : Window} {u : State} (h : Addressed k p w u) (off : Nat) :
    payloadByte off w = (p[off]?).map BitVec.toNat := by
  obtain ⟨-, -, -, -, -, -, -, -, -, payload, -⟩ := h
  rw [payloadByte, payload]

/-- A RETARGET is a row's own when it names the row's timing, or none. -/
theorem ofRetarget_addressed {t : Timing} {b timing : Byte} {entry : List Byte} {w : Window} {u : State}
    (h : Addressed 10 (b :: timing :: entry) w u)
    (ht : timingOf timing.toNat = some t ∨ timingOf timing.toNat = none) : ofRetarget t w = true := by
  have named : payloadByte 1 w = some timing.toNat := payloadByte_addressed h 1
  simp [ofRetarget, ofKind_addressed h, named, ht]

/-- R40: the request of a RETARGET, of the timing `t` that the row names. -/
theorem requestEvent_retarget {t : Timing} {b timing : Byte} {entry : List Byte} {w : Window} {s : State}
    {act : List Byte → State → Answer} (h : Addressed 10 (b :: timing :: entry) w (settle s)) (hl : entry.length = 8)
    (ht : timingOf timing.toNat = some t ∨ timingOf timing.toNat = none) :
    requestEvent (ofRetarget t w) act w s =
      State.prepare w (act (b :: timing :: entry) (passed w (settle s))) :=
  requestEvent_settled h (ofRetarget_addressed h ht) (lengthRight_addressed h (by decide) (by simp [hl, kindLength]))

/-- The step of a channel is a RAMP or a PAYOUT. -/
def InProfile (s : State) (c : Chan) : Prop :=
  ((s.chan c).state = .running ∨ (s.chan c).state = .frozen) ∧ ∃ st, s.currentStep c = some st ∧
    ((∃ p, st.body = .ramp p) ∨ ∃ p, st.body = .payout p)

/-- R40: the channels that a RETARGET reaches. -/
theorem retargetable_iff (s : State) (c : Chan) : s.retargetable c = true ↔ InProfile s c := by
  unfold State.retargetable InProfile
  rw [Bool.and_eq_true, live_iff]
  refine and_congr_right fun _ => ?_
  cases hs : s.currentStep c with
  | none => simp
  | some st => obtain ⟨f, d, body⟩ := st; cases body <;> simp

/-- R40: a segment that is read and lies within its ranges. -/
theorem retargetSegment_eq {b timing : Byte} {entry : List Byte} {g : Segment} (hd : decodeSegment entry = some g)
    (hg : g.ok = true) : retargetSegment (b :: timing :: entry) = some g := by
  simp [retargetSegment, hd, hg]

theorem retargetSegment_none {b timing : Byte} {entry : List Byte}
    (h : ¬ ∃ g, decodeSegment entry = some g ∧ g.ok = true) : retargetSegment (b :: timing :: entry) = none := by
  cases hd : decodeSegment entry with
  | none => simp [retargetSegment, hd]
  | some g => simp_all [retargetSegment]

section
variable {act : Segment → Profile → Profile} {c : Chan} {b timing : Byte} {entry : List Byte} {s : State}

theorem retargetRequest_badTiming (ht : timingOf timing.toNat = none) :
    retargetRequest act c (b :: timing :: entry) s = refuse .badValue s := by
  simp [retargetRequest, natAt_one, ht]

theorem retargetRequest_badSegment (hg : ¬ ∃ g, decodeSegment entry = some g ∧ g.ok = true) :
    retargetRequest act c (b :: timing :: entry) s = refuse .badValue s := by
  simp only [retargetRequest, retargetSegment_none hg]
  split <;> rfl

theorem retargetRequest_wrongState (ht : timingOf timing.toNat ≠ none)
    (hg : ∃ g, decodeSegment entry = some g ∧ g.ok = true) (hs : ¬ InProfile s c) :
    retargetRequest act c (b :: timing :: entry) s = refuse .wrongState s := by
  obtain ⟨g, hd, hok⟩ := hg
  have refused : s.retargetable c = false := by simpa [← retargetable_iff] using hs
  simp [retargetRequest, natAt_one, ht, retargetSegment_eq hd hok, refused]

theorem retargetRequest_accepted {g : Segment} (ht : timingOf timing.toNat ≠ none) (hd : decodeSegment entry = some g)
    (hok : g.ok = true) (hs : InProfile s c) :
    retargetRequest act c (b :: timing :: entry) s = accept [] (retarget act g c s) := by
  simp [retargetRequest, natAt_one, ht, retargetSegment_eq hd hok, (retargetable_iff s c).mpr hs]

/-- R41, R42: a profile in progress is retargeted alone. -/
theorem retarget_of_active (g : Segment) (h : (s.chan c).profile.status = .active) :
    retarget act g c s = s.setChan c { s.chan c with profile := act g (s.chan c).profile } := by
  simp [retarget, h]

/-- R43, R54: a finished profile is restarted, and a RAMP is PROFILING again. -/
theorem retarget_of_finished_ramp {g : Segment} {x : RampWork} (h : (s.chan c).profile.status = .finished)
    (hw : (s.chan c).work = .ramp x) :
    retarget act g c s = s.setChan c { s.chan c with
      profile := act g (s.chan c).profile, work := .ramp { phase := .profiling, settle := 0, unsettled := 0 } } := by
  simp [retarget, h, restartRamp, hw]

theorem retarget_of_finished {g : Segment} (h : (s.chan c).profile.status = .finished)
    (hw : ∀ x, (s.chan c).work ≠ .ramp x) :
    retarget act g c s = s.setChan c { s.chan c with profile := act g (s.chan c).profile } := by
  have same : restartRamp c (s.updProfile c (act g)) = s.updProfile c (act g) := by
    unfold restartRamp
    split
    · rename_i x hx; simp only [updProfile_eq, chan_setChan] at hx; exact absurd hx (hw x)
    all_goals rfl
  rw [retarget, if_pos h, same, updProfile_eq]

end

theorem retargetAtEnd_active {g : Segment} {p : Profile} (h : p.status = .active) :
    p.retargetAtEnd g = { p with reload := some g, segsLeft := 0 } := by simp [Profile.retargetAtEnd, h]

theorem retargetAtEnd_finished {g : Segment} {p : Profile} (h : p.status = .finished) :
    p.retargetAtEnd g = p.restart g := by simp [Profile.retargetAtEnd, h]

theorem retargetNow_active {g : Segment} {p : Profile} (h : p.status = .active) :
    p.retargetNow g = { p with staged := some g, reload := none, segsLeft := 0 } := by simp [Profile.retargetNow, h]

theorem retargetNow_finished {g : Segment} {p : Profile} (h : p.status = .finished) :
    p.retargetNow g = p.restart g := by simp [Profile.retargetNow, h]

theorem exec_retargetAtEnd {b timing : Byte} {entry : List Byte} {w : Window} {s : State}
    (h : Addressed 10 (b :: timing :: entry) w (settle s)) (hl : entry.length = 8)
    (ht : timingOf timing.toNat = some .atEnd ∨ timingOf timing.toNat = none) :
    exec (.retargetAtEnd w) s = .next (State.prepare w
      (onChannel (retargetRequest Profile.retargetAtEnd) (b :: timing :: entry) (passed w (settle s)))) :=
  congrArg Host.Outcome.next (requestEvent_retarget h hl ht)

theorem exec_retargetNow {b timing : Byte} {entry : List Byte} {w : Window} {s : State}
    (h : Addressed 10 (b :: timing :: entry) w (settle s)) (hl : entry.length = 8)
    (ht : timingOf timing.toNat = some .now ∨ timingOf timing.toNat = none) :
    exec (.retargetNow w) s = .next (State.prepare w
      (onChannel (retargetRequest Profile.retargetNow) (b :: timing :: entry) (passed w (settle s)))) :=
  congrArg Host.Outcome.next (requestEvent_retarget h hl ht)

theorem timingOf_none {n : Nat} (h : 1 < n) : timingOf n = none := by
  match n, h with
  | n + 2, _ => rfl

/-- What a RETARGET of either timing answers on the row of that timing, by the checks of R40 in order and the state of
the profile; `act` is the timing's own change of a profile. -/
def RetargetAnswers (act : Segment → Profile → Profile) (active : Segment → Profile → Profile) (c : Chan) (u : State)
    (entry : List Byte) (done : Status → State → Prop) : Prop :=
  ((¬ ∃ g, decodeSegment entry = some g ∧ g.ok = true) → done .badValue u) ∧
  ((∃ g, decodeSegment entry = some g ∧ g.ok = true) → ¬ InProfile u c → done .wrongState u) ∧
  ∀ g, decodeSegment entry = some g → g.ok = true → InProfile u c →
    ((u.chan c).profile.status = .active →
      done .ok (u.setChan c { u.chan c with profile := active g (u.chan c).profile })) ∧
    ((u.chan c).profile.status = .finished →
      (∀ x, (u.chan c).work = .ramp x → done .ok (u.setChan c { u.chan c with
        work := .ramp { phase := .profiling, settle := 0, unsettled := 0 }
        profile := act g (u.chan c).profile })) ∧
      ((∀ x, (u.chan c).work ≠ .ramp x) →
        done .ok (u.setChan c { u.chan c with profile := act g (u.chan c).profile })))

theorem retargetAnswers {act active : Segment → Profile → Profile} {b timing : Byte} {entry : List Byte} {w : Window}
    {u : State} {c : Chan} (hc : c.val = b.toNat) (ht : timingOf timing.toNat ≠ none)
    (ha : ∀ g (p : Profile), p.status = .active → act g p = active g p) :
    RetargetAnswers act active c u entry fun status t =>
      State.prepare w (onChannel (retargetRequest act) (b :: timing :: entry) (passed w u)) =
        answered w status [] t := by
  rw [onChannel_eq _ hc]
  refine ⟨fun bad => ?_, fun good dead => ?_, fun g hd hok live => ⟨fun h => ?_, fun h => ⟨fun x hx => ?_, fun hx => ?_⟩⟩⟩
  · rw [retargetRequest_badSegment bad, prepare_refuse]
  · rw [retargetRequest_wrongState (s := passed w u) ht good dead, prepare_refuse]
  · rw [retargetRequest_accepted (s := passed w u) ht hd hok live, retarget_of_active g (s := passed w u) h,
      passed_chan, ha g _ h]; rfl
  · rw [retargetRequest_accepted (s := passed w u) ht hd hok live,
      retarget_of_finished_ramp (s := passed w u) h hx]; rfl
  · rw [retargetRequest_accepted (s := passed w u) ht hd hok live, retarget_of_finished (s := passed w u) h hx]; rfl

/-- Settles O44: the two rows share the checks and the restart, and differ in what they change of a profile in
progress. -/
theorem retargetChangesProfile : Obligations.RetargetChangesProfile := by
  intro b timing entry w s u done h hl
  have atEnd : timing = 0#8 → ∀ {a}, State.prepare w
      (onChannel (retargetRequest Profile.retargetAtEnd) (b :: timing :: entry) (passed w u)) = a →
      exec (.retargetAtEnd w) s = .next a := by
    rintro rfl a rfl; exact exec_retargetAtEnd h hl (.inl rfl)
  have now : timing = 1#8 → ∀ {a}, State.prepare w
      (onChannel (retargetRequest Profile.retargetNow) (b :: timing :: entry) (passed w u)) = a →
      exec (.retargetNow w) s = .next a := by
    rintro rfl a rfl; exact exec_retargetNow h hl (.inl rfl)
  refine ⟨fun hb ht => atEnd ht (by rw [onChannel_badIndex _ hb, prepare_refuse]),
    fun hb ht => now ht (by rw [onChannel_badIndex _ hb, prepare_refuse]), fun c hc => ?_⟩
  intro good ch live
  have first := fun (ht : timing = 0#8) => retargetAnswers (w := w) (u := u) (entry := entry)
    (act := Profile.retargetAtEnd) (timing := timing) hc (by rw [ht]; decide)
    (fun g p (hp : p.status = .active) => retargetAtEnd_active hp)
  have second := fun (ht : timing = 1#8) => retargetAnswers (w := w) (u := u) (entry := entry)
    (act := Profile.retargetNow) (timing := timing) hc (by rw [ht]; decide)
    (fun g p (hp : p.status = .active) => retargetNow_active hp)
  refine ⟨fun ht => ?_, fun ht hg => atEnd ht ((first ht).1 hg), fun ht hg => now ht ((second ht).1 hg),
    fun ht hg dead => atEnd ht ((first ht).2.1 hg dead), fun ht hg dead => now ht ((second ht).2.1 hg dead),
    fun g hd hok running => ⟨fun hp ht => ?_, fun hp ht => ?_, fun hp => ?_⟩⟩
  · have none_ := timingOf_none ht
    refine ⟨(exec_retargetAtEnd h hl (.inr none_)).trans ?_, (exec_retargetNow h hl (.inr none_)).trans ?_⟩
    all_goals rw [onChannel_eq _ hc, retargetRequest_badTiming none_, prepare_refuse]
  · obtain ⟨active, -⟩ := (first ht).2.2 g hd hok running
    exact atEnd ht (active hp)
  · obtain ⟨active, -⟩ := (second ht).2.2 g hd hok running
    exact now ht (active hp)
  · intro restarted settling
    have ended := retargetAtEnd_finished (g := g) hp
    have begun := retargetNow_finished (g := g) hp
    refine ⟨fun ⟨x, hx⟩ ht => atEnd ht ?_, fun ⟨x, hx⟩ ht => now ht ?_, fun hx ht => atEnd ht ?_,
      fun hx ht => now ht ?_⟩
    · obtain ⟨-, finished⟩ := (first ht).2.2 g hd hok running
      exact ((finished hp).1 x hx).trans (by rw [ended]; rfl)
    · obtain ⟨-, finished⟩ := (second ht).2.2 g hd hok running
      exact ((finished hp).1 x hx).trans (by rw [begun]; rfl)
    · obtain ⟨-, finished⟩ := (first ht).2.2 g hd hok running
      exact ((finished hp).2 hx).trans (by rw [ended]; rfl)
    · obtain ⟨-, finished⟩ := (second ht).2.2 g hd hok running
      exact ((finished hp).2 hx).trans (by rw [begun]; rfl)

end Sys2Proof.Machine.Laws
end

section
/-! PROOFS. SWAP_BANKS, CLEAR_NOTICES and RESET_PART (R161, R173, R178, R180, R193), FREEZE and RESUME (R124 to
R126). -/

namespace Sys2Proof.Machine.Laws

/-! ### SWAP_BANKS (R161, R173, R193) -/

/-- A SWAP_BANKS is a row's own when it names the row's bank pairs, or none. -/
theorem requestEvent_swap {x : BankSet} {sel : Byte} {w : Window} {s : State} {set : State → State}
    (h : Addressed 3 [sel] w (settle s)) (hx : bankSetOf sel.toNat = some x ∨ bankSetOf sel.toNat = none) :
    requestEvent (ofSwap x w) (swapBanks set) w s = State.prepare w (swapBanks set [sel] (passed w (settle s))) := by
  have named : payloadByte 0 w = some sel.toNat := payloadByte_addressed h 0
  have mine : ofSwap x w = true := by simp [ofSwap, ofKind_addressed h, named, hx]
  exact requestEvent_settled h mine (lengthRight_addressed h (by decide) rfl)

theorem swapBanks_named {set : State → State} {sel : Byte} {x : BankSet} {s : State}
    (hx : bankSetOf sel.toNat = some x) : swapBanks set [sel] s = accept [] (set s) := by
  simp [swapBanks, natAt_head, hx]

theorem swapBanks_unnamed {set : State → State} {sel : Byte} {s : State} (hx : bankSetOf sel.toNat = none) :
    swapBanks set [sel] s = refuse .badValue s := by
  simp [swapBanks, natAt_head, hx]

theorem bankSetOf_none {n : Nat} (h : 2 < n) : bankSetOf n = none := by
  match n, h with
  | n + 3, _ => rfl

/-- A row of SWAP_BANKS whose selector names its bank pairs sets their flags. -/
theorem answer_swap {x : BankSet} {sel : Byte} {w : Window} {s : State} {set : State → State}
    (h : Addressed 3 [sel] w (settle s)) (hx : bankSetOf sel.toNat = some x) :
    requestEvent (ofSwap x w) (swapBanks set) w s = State.prepare w (accept [] (set (passed w (settle s)))) := by
  rw [requestEvent_swap h (.inl hx), swapBanks_named hx]

/-- A row of SWAP_BANKS whose selector names nothing refuses it. -/
theorem answer_badSwap {x : BankSet} {sel : Byte} {w : Window} {s : State} {set : State → State}
    (h : Addressed 3 [sel] w (settle s)) (hx : 2 < sel.toNat) :
    requestEvent (ofSwap x w) (swapBanks set) w s = answered w .badValue [] (settle s) := by
  rw [requestEvent_swap h (.inr (bankSetOf_none hx)), swapBanks_unnamed (bankSetOf_none hx), prepare_refuse]

theorem swapBanksSetsFlags : SwapBanksSetsFlags := by
  intro sel w s u map list h
  refine ⟨?_, ?_, ?_, fun hx => ⟨?_, ?_, ?_⟩⟩
  · rintro rfl; exact congrArg Host.Outcome.next (answer_swap h rfl)
  · rintro rfl; exact congrArg Host.Outcome.next (answer_swap h rfl)
  · rintro rfl; exact congrArg Host.Outcome.next (answer_swap h rfl)
  all_goals exact congrArg Host.Outcome.next (answer_badSwap h hx)

/-! ### CLEAR_NOTICES and RESET_PART (R178, R180) -/

theorem natAt_two (hi lo : Byte) (bs : List Byte) : natAt (hi :: lo :: bs) 0 2 = 256 * hi.toNat + lo.toNat := by
  simp [natAt, bytesNat]

/-- R178: the latches that a set of notice kinds, given by its mask, leaves. -/
theorem latched_clear_ofNat (l : Latched) (n : Nat) :
    l.clear (BitVec.ofNat 10 n) =
      { lineLost := l.lineLost && !n.testBit 1, channelFault := l.channelFault && !n.testBit 2
        sampleStale := l.sampleStale && !n.testBit 6, pumpTenure := l.pumpTenure && !n.testBit 7
        mgmtGarbled := l.mgmtGarbled && !n.testBit 8, reset := l.reset && !n.testBit 9 } := by
  simp only [Latched.clear, BitVec.getLsbD_ofNat, Nat.reduceLT, decide_true, Bool.true_and]

theorem clearNoticesAndResetPart : ClearNoticesAndResetPart := by
  constructor
  · intro hi lo w s u named h
    have answer : exec (.clearNotices w) s = .next (State.prepare w (noticesRequest [hi, lo] (passed w u))) :=
      congrArg Host.Outcome.next (requestEvent_ofKind h (by decide) rfl)
    refine ⟨fun far => ?_, fun near => ?_⟩
    · rw [answer, noticesRequest, natAt_two, noticeSetOf, if_neg (Nat.not_lt.mpr far)]
      rfl
    · intro l t
      have cleared : clearNotices (BitVec.ofNat 10 named) (passed w u) = passed w t :=
        congrArg (fun x => passed w { u with mgmt := { u.mgmt with latched := x } }) (latched_clear_ofNat l named)
      rw [answer, noticesRequest, natAt_two, noticeSetOf, if_pos near]
      dsimp only
      rw [cleared]
      rfl
  · intro w s h
    exact congrArg Host.Outcome.next (requestEvent_ofKind h (by decide) rfl)

/-- Settles O48: each request sets or clears its flags alone. -/
theorem swapNoticeAndResetRequests : Obligations.SwapNoticeAndResetRequests :=
  ⟨swapBanksSetsFlags, clearNoticesAndResetPart⟩

/-! ### Masks of channels (R196) -/

theorem maskOf_lt : ∀ bits : List Bool, maskOf bits < 2 ^ bits.length
  | [] => by simp [maskOf]
  | b :: bits => by
    have := maskOf_lt bits
    simp only [maskOf, List.length_cons, Nat.pow_succ]
    split <;> omega

theorem maskOf_testBit : ∀ (bits : List Bool) (i : Nat), (maskOf bits).testBit i = bits.getD i false
  | [], i => by simp [maskOf]
  | b :: bits, 0 => by cases b <;> simp [maskOf, Nat.testBit_zero, Nat.add_mod]
  | b :: bits, i + 1 => by
    have half : (maskOf (b :: bits)) / 2 = maskOf bits := by simp only [maskOf]; split <;> omega
    rw [Nat.testBit_succ, half, maskOf_testBit bits i]; rfl

theorem channelMask_lt (q : Chan → Bool) : channelMask q < 256 :=
  lt_of_lt_of_eq (maskOf_lt _) (by simp [allChans])

theorem channelMask_testBit (q : Chan → Bool) (c : Chan) : (channelMask q).testBit c.val = q c := by
  have place : allChans[c.val]? = some c := by revert c; decide
  rw [channelMask, maskOf_testBit, List.getD_eq_getElem?_getD, List.getElem?_map, place]
  rfl

/-! ### A broadcast request (R165) -/

/-- R156, R165: the window of a broadcast FREEZE or RESUME of one payload byte, at the request window of a worked part. -/
structure Broadcast (k : Nat) (b : Byte) (w : Window) (u : State) : Prop where
  worked : u.worked = true
  first : u.line.slotPos = 0
  running : u.mgmt.resetPending = false
  good : slotGood w.s1 = true
  all : requestDestination w = 63
  kind : requestKind w = k
  length : requestLength w = 1
  clean : slotGood w.s2 = true
  byte : w.s2.b0 = b

/-- R165: a broadcast request is acted on without a reply. -/
theorem requestEvent_broadcast {k : Nat} {b : Byte} {w : Window} {s : State} {act : List Byte → State → Answer}
    (h : Broadcast k b w (settle s)) (hk : k = 7 ∨ k = 8) :
    requestEvent (ofKind k w) act w s = (act [b] (passed w (settle s))).state := by
  obtain ⟨worked, first, running, good, all, kind, length, clean, byte⟩ := h
  have used : usedSlots w = [w.s2] := by simp [usedSlots, payloadSlots, length]
  have atWindow : (settle s).atRequestWindow = true := by simp [State.atRequestWindow, worked, first]
  have taken : (passed w (settle s)).taking w = .broadcast := by
    have known : requestKind w = freezeKind ∨ requestKind w = resumeKind := kind ▸ hk
    simp [State.taking, passed, good, running, all, known]
  have right : lengthRight w = true := by rcases hk with rfl | rfl <;> simp [lengthRight, length, kind, kindLength]
  have payload : requestPayload w = [b] := by simp [requestPayload, used, slotData, length, byte]
  have unspoiled : garbledPayload w = false := by simp [garbledPayload, used, clean]
  simp [requestEvent, atWindow, ofKind, kind, takeRequest, taken, takeBroadcast, unspoiled, right, payload]

/-- R167, R168: an answer whose work leaves the line alone, of whatever status. -/
theorem prepare_answer {w : Window} {u v : State} (st : Status) (fs : List Field) (h : FreezeKeeps (passed w u) v) :
    State.prepare w { status := st, payload := fs, state := v } = answered w st fs (unpassed u v) := by
  obtain ⟨hline, -, -, -, -, -, -, -, -, hsent, -⟩ := h
  have hv : v = { v with line := (passed w u).line, sent := (passed w u).sent } := by rw [← hline, ← hsent]
  rw [hv]; rfl

/-! ### FREEZE (R124) -/

/-- R124: SUPERVISOR reaches the named channels, in whatever order. -/
theorem freezeChannels_spec (set : Nat) (s : State) :
    CauseReaches .supervisor (fun c => set.testBit c.val = true) s (freezeChannels set s) ∧
      FreezeKeeps s (freezeChannels set s) ∧ (freezeChannels set s).mgmt = s.mgmt := by
  obtain ⟨reaches, keeps, hmgmt⟩ :=
    addCauses_spec .supervisor ((freezeTurn s).filter (inSet set)) s.freezeTaken
  have named : ∀ c, c ∈ (freezeTurn s).filter (inSet set) ↔ set.testBit c.val = true := fun c => by
    simp [mem_freezeTurn, inSet]
  refine ⟨fun c => ⟨fun hc => (reaches c).1 ((named c).mpr hc), fun hc => (reaches c).2 ?_⟩, keeps, hmgmt (by decide)⟩
  exact hc.imp_left fun n m => n ((named c).mp m)

/-- Settles O41: the row and the broadcast share the freezing of the named channels. -/
theorem freezeAddsSupervisor : Obligations.FreezeAddsSupervisor := by
  intro b w s u named
  obtain ⟨reaches, keeps, hmgmt⟩ := freezeChannels_spec b.toNat (passed w u)
  have set_eq : natAt [b] 0 1 = b.toNat := natAt_head b []
  refine ⟨fun h => ?_, fun worked first running good all kind length clean byte => ?_⟩
  · have answer : exec (.freeze w) s = .next (State.prepare w (freezeRequest [b] (passed w u))) :=
      congrArg Host.Outcome.next (requestEvent_ofKind h (by decide) rfl)
    obtain ⟨-, hstore, -, hinputs, hwalls, hrecords, hreports, -, -, -, -⟩ := id keeps
    refine ⟨channelMask fun c => inSet b.toNat c && ((freezeChannels b.toNat (passed w u)).chan c).freeze.supervisor,
      unpassed u (freezeChannels b.toNat (passed w u)), answer.trans ?_, reaches, channelMask_lt _, fun c => ?_, rfl, hstore, hwalls, hrecords, hmgmt,
      hinputs, hreports⟩
    · rw [freezeRequest, set_eq, prepare_accept _ keeps]
    · rw [channelMask_testBit, Bool.and_eq_true]; rfl
  · have answer : exec (.freeze w) s = .next (freezeRequest [b] (passed w u)).state :=
      congrArg Host.Outcome.next (requestEvent_broadcast
        ⟨worked, first, running, good, all, kind, length, clean, byte⟩ (.inl rfl))
    obtain ⟨-, -, -, -, -, -, -, -, -, hsent, -⟩ := keeps
    refine ⟨_, answer, ?_⟩
    rw [show (freezeRequest [b] (passed w u)).state = freezeChannels b.toNat (passed w u) by
      rw [freezeRequest, set_eq]; rfl]
    exact ⟨reaches, hmgmt, hsent⟩

/-! ### RESUME (R125, R126) -/

/-- R61: the working fields of a step that goes on after a freeze, but for the claim of an INJECT. -/
def thawed : StepWork → StepWork
  | .hold w => .hold w.restart
  | w => w

/-- R17, R18: a channel once the causes of `g` are removed. -/
def resumedChan (g : FreezeSet) (a : Channel) : Channel :=
  let runs := a.state = .frozen ∧ (a.freeze.without g).isEmpty = true
  { a with
    freeze := a.freeze.without g, state := if runs then .running else a.state
    work := if runs then thawed a.work else a.work }

theorem keptAs_thawed {a : Channel} (h : thawed a.work = a.work) : KeptAs { a with work := thawed a.work } a := by
  rw [h]; exact keptAs_refl _

theorem thawEffect_chan (c : Chan) (s : State) :
    KeptAs { s.chan c with work := thawed (s.chan c).work } ((thawEffect c s).chan c) := by
  unfold thawEffect
  split <;> rename_i hw
  · rw [hw]; simp only [setWork_eq, chan_setChan]; exact keptAs_refl _
  · exact keptAs_trans (keptAs_thawed (by simp [hw, thawed])) ((claimsOnly_makeClaim c s).1 c)
  all_goals exact keptAs_thawed (by simp [hw, thawed])

/-- R17, R18, R125: the channel from which causes are removed. -/
theorem removeCauses_resumed (g : FreezeSet) (c : Chan) (s : State) :
    KeptAs (resumedChan g (s.chan c)) ((removeCauses g c s).chan c) := by
  unfold removeCauses
  simp only [updChan_eq, chan_setChan, setChan_setChan]
  split <;> rename_i h
  · have kept := thawEffect_chan c
      (s.setChan c { s.chan c with freeze := (s.chan c).freeze.without g, state := .running })
    simp only [chan_setChan] at kept
    simpa [resumedChan, h] using kept
  · simp only [chan_setChan]
    rw [show resumedChan g (s.chan c) = { s.chan c with freeze := (s.chan c).freeze.without g } by
      simp [resumedChan, h]]
    exact keptAs_refl _

theorem claimMoved_thawed {a b : StepWork} (h : ClaimMoved a b) : ClaimMoved (thawed a) (thawed b) := by
  rcases h with rfl | ⟨x, st, r, rfl, rfl, hr⟩
  · exact .inl rfl
  · exact .inr ⟨x, st, r, rfl, rfl, hr⟩

theorem keptAs_resumed {g : FreezeSet} {a b : Channel} (h : KeptAs a b) : KeptAs (resumedChan g a) (resumedChan g b) := by
  obtain ⟨same, moved⟩ := h
  have state : b.state = a.state := by rw [same]
  have freeze : b.freeze = a.freeze := by rw [same]
  refine ⟨?_, ?_⟩
  · conv_lhs => rw [resumedChan, state, freeze, same]
    simp [resumedChan, state, freeze]
  · simp only [resumedChan, state, freeze]
    split
    · exact claimMoved_thawed moved
    · exact moved

/-- What RESUME does to one channel of its list. -/
def resumeOne (g : FreezeSet) (s : State) (c : Chan) : State :=
  if (s.chan c).state = .idle then s else removeCauses g c s

theorem resumeOne_spec (g : FreezeSet) (c : Chan) (s : State) :
    ((s.chan c).state ≠ .idle → KeptAs (resumedChan g (s.chan c)) ((resumeOne g s c).chan c)) ∧
      (∀ d, d ≠ c ∨ (s.chan d).state = .idle → KeptAs (s.chan d) ((resumeOne g s c).chan d)) ∧
      FreezeKeeps s (resumeOne g s c) ∧ (resumeOne g s c).mgmt = s.mgmt := by
  unfold resumeOne
  split <;> rename_i h
  · exact ⟨fun n => absurd h n, fun d _ => keptAs_refl _, FreezeKeeps.refl s, rfl⟩
  · obtain ⟨others, keeps, hmgmt, -⟩ := removeCauses_spec g c s
    refine ⟨fun _ => removeCauses_resumed g c s, fun d hd => others d ?_, keeps, hmgmt⟩
    rintro rfl
    exact hd.elim (fun n => n rfl) h

/-- R78, R125: the channels of a list go on one after another, each once. -/
theorem resumeEach_spec (g : FreezeSet) : ∀ (l : List Chan) (s : State), l.Nodup →
    let t := l.foldl (resumeOne g) s
    (∀ c ∈ l, (s.chan c).state ≠ .idle → KeptAs (resumedChan g (s.chan c)) (t.chan c)) ∧
      (∀ c, c ∉ l ∨ (s.chan c).state = .idle → KeptAs (s.chan c) (t.chan c)) ∧ FreezeKeeps s t ∧ t.mgmt = s.mgmt
  | [], s, _ => ⟨by simp, fun c _ => keptAs_refl _, FreezeKeeps.refl s, rfl⟩
  | c :: l, s, nodup => by
    obtain ⟨fresh, nodup⟩ := List.nodup_cons.mp nodup
    obtain ⟨here, others, keeps, hmgmt⟩ := resumeOne_spec g c s
    obtain ⟨inList, outList, keeps', hmgmt'⟩ := resumeEach_spec g l (resumeOne g s c) nodup
    have idle : ∀ d, d ≠ c → (((resumeOne g s c).chan d).state = .idle ↔ (s.chan d).state = .idle) := fun d hd => by
      rw [keptAs_state (others d (.inl hd))]
    refine ⟨fun d hd hi => ?_, fun d hd => ?_, keeps.trans keeps', hmgmt'.trans hmgmt⟩
    · rcases List.mem_cons.mp hd with rfl | hl
      · exact keptAs_trans (here hi) (outList d (.inl fresh))
      · have hne : d ≠ c := fun e => fresh (e ▸ hl)
        exact keptAs_trans (keptAs_resumed (others d (.inl hne))) (inList d hl (by rwa [ne_eq, idle d hne]))
    · have step : KeptAs (s.chan d) ((resumeOne g s c).chan d) :=
        others d (hd.imp_left fun n e => n (e ▸ List.mem_cons_self))
      refine keptAs_trans step (outList d ?_)
      rcases hd with hd | hd
      · exact .inl fun n => hd (List.mem_cons_of_mem c n)
      · exact .inr (by rw [keptAs_state step, hd])

theorem anyStop_eq (s : State) : s.anyStop = decide (∃ p, (s.wall p).state = .stop) := by
  rw [Bool.eq_iff_iff]
  simp [State.anyStop, mem_allPoints]

/-- R125: the causes a RESUME leaves. -/
theorem without_removable (f : FreezeSet) (s : State) :
    f.without (removableCauses s) =
      { supervisor := false, panel := f.panel && s.pins.panel
        wallStop := f.wallStop && decide (∃ p, (s.wall p).state = .stop)
        lineLost := f.lineLost && decide (s.line.alignment ≠ .locked), sampleStale := f.sampleStale } := by
  simp [FreezeSet.without, removableCauses, anyStop_eq]

/-- R61: a HOLD that goes on starts again, whatever claims move. -/
theorem hold_of_claimMoved {w : HoldWork} {x : StepWork} (h : ClaimMoved (.hold w) x) : x = .hold w := by
  rcases h with h | ⟨y, st, r, hy, -, -⟩
  · exact h
  · exact absurd hy (by simp)

/-- R17, R125: what RESUME does to the channels, from the part `u` with all its work done. -/
theorem resumeChannels_spec (set : Nat) (u : State) :
    let t := resumeChannels set u
    (∀ c : Chan, set.testBit c.val = true → (u.chan c).state ≠ .idle →
      KeptAs (resumedChan (removableCauses u) (u.chan c)) (t.chan c)) ∧
      (∀ c : Chan, set.testBit c.val = false ∨ (u.chan c).state = .idle → KeptAs (u.chan c) (t.chan c)) ∧
      FreezeKeeps u t ∧ t.mgmt = u.mgmt := by
  obtain ⟨inList, outList, rest⟩ := resumeEach_spec (removableCauses u) (allChans.filter (inSet set)) u
    (List.Nodup.filter _ (by decide))
  have named : ∀ c, c ∈ allChans.filter (inSet set) ↔ set.testBit c.val = true := fun c => by
    simp [mem_allChans, inSet]
  refine ⟨fun c hc => inList c ((named c).mpr hc), fun c hc => outList c ?_, rest⟩
  rw [named]
  simpa using hc

/-- R17, R61, R125: a named channel that goes on or stays frozen, in the terms of RESUME. -/
theorem resumed_chan {u : State} {a b : Channel} (h : KeptAs (resumedChan (removableCauses u) a) b) :
    b.freeze =
      { supervisor := false, panel := a.freeze.panel && u.pins.panel
        wallStop := a.freeze.wallStop && decide (∃ p, (u.wall p).state = .stop)
        lineLost := a.freeze.lineLost && decide (u.line.alignment ≠ .locked), sampleStale := a.freeze.sampleStale } ∧
      b.state = (if a.state = .frozen ∧ b.freeze.isEmpty = true then .running else a.state) ∧
      ∀ x, a.work = .hold x → a.state = .frozen → b.freeze.isEmpty = true →
        b.work = .hold { elapsed := 0, marks := x.marks.map fun _ => none, drift := false
                         interrupted := min 255 (x.interrupted + 1) } := by
  have freeze : b.freeze = a.freeze.without (removableCauses u) := keptAs_freeze h
  have state := keptAs_state h
  refine ⟨freeze.trans (without_removable a.freeze u), ?_, fun x hx hf he => ?_⟩
  · rw [state, freeze]; rfl
  · obtain ⟨-, moved⟩ := h
    rw [freeze] at he
    have restarts : (resumedChan (removableCauses u) a).work = .hold x.restart := by
      simp [resumedChan, hf, he, hx, thawed]
    rw [restarts] at moved
    exact hold_of_claimMoved moved

/-- Settles O42: the row and the broadcast share the removal of causes from the named channels. -/
theorem resumeRemovesMetCauses : Obligations.ResumeRemovesMetCauses := by
  intro b w s u resumed
  obtain ⟨named, unnamed, keeps, hmgmt⟩ := resumeChannels_spec b.toNat (passed w u)
  obtain ⟨hline, hstore, -, hinputs, hwalls, hrecords, hreports, -, -, hsent, -⟩ := id keeps
  have set_eq : natAt [b] 0 1 = b.toNat := natAt_head b []
  have spec : resumed (resumeChannels b.toNat (passed w u)) :=
    ⟨fun c hc hi => resumed_chan (named c hc hi), unnamed, hstore, hwalls, hrecords, hmgmt, hinputs, hreports⟩
  refine ⟨fun h => ?_, fun worked first running good all kind length clean byte => ?_⟩
  · have answer : exec (.resume w) s = .next (State.prepare w (resumeRequest [b] (passed w u))) :=
      congrArg Host.Outcome.next (requestEvent_ofKind h (by decide) rfl)
    refine ⟨channelMask fun c => inSet b.toNat c && !((resumeChannels b.toNat (passed w u)).chan c).freeze.isEmpty,
      unpassed u (resumeChannels b.toNat (passed w u)), answer.trans ?_, channelMask_lt _, fun c => ?_, spec,
      rfl⟩
    · rw [resumeRequest, set_eq, prepare_answer _ _ keeps]
    · rw [channelMask_testBit, Bool.and_eq_true, Bool.not_eq_true']; rfl
  · have answer : exec (.resume w) s = .next (resumeRequest [b] (passed w u)).state :=
      congrArg Host.Outcome.next (requestEvent_broadcast
        ⟨worked, first, running, good, all, kind, length, clean, byte⟩ (.inr rfl))
    refine ⟨_, answer, ?_⟩
    rw [show (resumeRequest [b] (passed w u)).state = resumeChannels b.toNat (passed w u) by
      rw [resumeRequest, set_eq]]
    exact ⟨spec, hline, hsent⟩

end Sys2Proof.Machine.Laws
end

section
/-! PROOFS. START_PROGRAM with its lock set (R4, R5, R8 to R10) and TAKE_RECORD (R177, R186). -/

namespace Sys2Proof.Machine.Laws

/-! ### Lock counts (R4, R5) -/

/-- R5: each index listed once has its count changed once, and no other index has. -/
theorem get_changeLocks (f : Nat → Nat) (i : Nat) : ∀ (is : List Nat) (t : SparseTable Nat), is.Nodup →
    Sparse.get 0 (changeLocks f is t) i = if i ∈ is then f (Sparse.get 0 t i) else Sparse.get 0 t i
  | [], t, _ => rfl
  | k :: is, t, nodup => by
    obtain ⟨fresh, nodup⟩ := List.nodup_cons.mp nodup
    have rest := get_changeLocks f i is (Sparse.set 0 t k (f (Sparse.get 0 t k))) nodup
    rw [show changeLocks f (k :: is) t = changeLocks f is (Sparse.set 0 t k (f (Sparse.get 0 t k))) from rfl, rest]
    by_cases hik : i = k
    · subst hik; simp [fresh]
    · simp [hik, sparse_get_set_ne 0 t _ hik]

theorem windowIndices_nodup (first count : Nat) : (windowIndices first count).Nodup :=
  List.Nodup.map (fun _ _ h => Nat.add_left_cancel h) List.nodup_range

theorem mem_windowIndices (first count k : Nat) : k ∈ windowIndices first count ↔ first ≤ k ∧ k < first + count := by
  simp only [windowIndices, List.mem_map, List.mem_range]
  constructor
  · rintro ⟨n, hn, rfl⟩; omega
  · rintro ⟨h1, h2⟩; exact ⟨k - first, by omega, by omega⟩

theorem windowMarkSets_nodup (st : ProgramStore) (h : Header) : (st.windowMarkSets h).Nodup :=
  List.Nodup.filter _ List.nodup_range

theorem markSet?_eq_some_iff (st : Step) (k : Nat) : st.markSet? = some k ↔ ∃ p, st.body = .hold p ∧ p.markSet = k := by
  unfold Step.markSet?
  split <;> simp_all

/-- R4, fourth group: the mark sets that a HOLD of the window names. -/
theorem mem_windowMarkSets (st : ProgramStore) (h : Header) (k : Nat) :
    k ∈ st.windowMarkSets h ↔ k < 32 ∧ ∃ n x p, n < h.stepCount ∧ st.step (h.stepFirst + n) = some x ∧
      x.body = .hold p ∧ p.markSet = k := by
  simp only [ProgramStore.windowMarkSets, List.mem_filter, List.mem_range, List.any_eq_true, decide_eq_true_eq,
    Option.bind_eq_some_iff, markSet?_eq_some_iff]
  constructor
  · rintro ⟨hk, n, hn, x, hx, p, hp⟩; exact ⟨hk, n, x, p, hn, hx, hp⟩
  · rintro ⟨hk, n, x, p, hn, hx, hp⟩; exact ⟨hk, n, hn, x, hx, p, hp⟩

/-- R4: the entries of the lock set of the program of header `i`, which is `h`. -/
def InLockSet (i : Nat) (h : Header) (st : ProgramStore) (t : Table) (k : Nat) : Prop :=
  (t = .header ∧ k = i) ∨ (t = .step ∧ h.stepFirst ≤ k ∧ k < h.stepFirst + h.stepCount) ∨
  (t = .segment ∧ h.segFirst ≤ k ∧ k < h.segFirst + h.segCount) ∨
  (t = .markset ∧ k < 32 ∧ ∃ n x p, n < h.stepCount ∧ st.step (h.stepFirst + n) = some x ∧ x.body = .hold p ∧
    p.markSet = k)

theorem changeLockSet_eq {f : Nat → Nat} {i : Nat} {h : Header} {st : ProgramStore} (hh : st.header i = some h) :
    st.changeLockSet f i =
      { st with
        headerLocks := changeLocks f [i] st.headerLocks
        stepLocks := changeLocks f (windowIndices h.stepFirst h.stepCount) st.stepLocks
        segmentLocks := changeLocks f (windowIndices h.segFirst h.segCount) st.segmentLocks
        markSetLocks := changeLocks f (st.windowMarkSets h) st.markSetLocks } := by
  simp [ProgramStore.changeLockSet, hh]

/-- R4, R5: the counts of a lock set are changed once each, and no other. -/
theorem locks_changeLockSet {f : Nat → Nat} {i : Nat} {h : Header} {st : ProgramStore} (hh : st.header i = some h)
    (t : Table) (k : Nat) :
    (InLockSet i h st t k → (st.changeLockSet f i).locks t k = f (st.locks t k)) ∧
      (¬ InLockSet i h st t k → (st.changeLockSet f i).locks t k = st.locks t k) := by
  rw [changeLockSet_eq hh]
  cases t with
  | header =>
    simp only [ProgramStore.locks, InLockSet, get_changeLocks f k [i] _ (List.nodup_singleton i)]
    simp +contextual
  | step =>
    simp only [ProgramStore.locks, InLockSet, get_changeLocks f k _ _ (windowIndices_nodup _ _), mem_windowIndices]
    simp +contextual
  | segment =>
    simp only [ProgramStore.locks, InLockSet, get_changeLocks f k _ _ (windowIndices_nodup _ _), mem_windowIndices]
    simp +contextual
  | markset =>
    simp only [ProgramStore.locks, InLockSet, get_changeLocks f k _ _ (windowMarkSets_nodup _ _), ← mem_windowMarkSets]
    simp +contextual
  | scale | channelConfig | wallPoint | slotMap | reportList | partConfig => simp [ProgramStore.locks, InLockSet]

theorem lockSetIsCounted : LockSetIsCounted := by
  intro i h s hh inSet
  have counted := fun f => locks_changeLockSet (f := f) hh
  refine ⟨fun t k hk => ⟨(counted _ t k).1 hk, (counted _ t k).1 hk⟩,
    fun t k hk => ⟨(counted _ t k).2 hk, (counted _ t k).2 hk⟩, ?_⟩
  show (s.store.changeLockSet (· + 1) i).headers = _ ∧ (s.store.changeLockSet (· + 1) i).steps = _ ∧
    (s.store.changeLockSet (· + 1) i).segments = _ ∧ (s.store.changeLockSet (· + 1) i).markSets = _
  rw [changeLockSet_eq hh]
  exact ⟨rfl, rfl, rfl, rfl⟩

/-! ### The start of a program (R9) -/

theorem startCauses_eq (s : State) (f : FreezeSet) :
    startCauses s f =
      { f with wallStop := f.wallStop || decide (s.wallState = .stop), panel := f.panel || s.pins.panel } := by
  unfold startCauses
  by_cases hw : s.wallState = .stop <;> cases hp : s.pins.panel <;> simp [hw, FreezeSet.add]

/-- R9: the model's start is the manual's. -/
theorem startProgram_eq {i : Nat} {h : Header} {s : State} (hh : s.store.header i = some h) (c : Chan) :
    startProgram i c s = s.setChan c (Started i h.tag c s) := by
  simp only [startProgram, hh, updChan_eq, startCauses_eq]
  rfl

theorem header_lockProgram (i j : Nat) (s : State) : (s.lockProgram i).store.header j = s.store.header j := by
  show (s.store.changeLockSet (· + 1) i).header j = _
  unfold ProgramStore.changeLockSet
  split <;> rfl

/-! ### START_PROGRAM (R8 to R10) -/

theorem exec_startProgram {b₁ b₂ : Byte} {w : Window} {s : State} (h : Addressed 4 [b₁, b₂] w (settle s)) :
    exec (.startProgram w) s = .next (State.prepare w (onChannel startRequest [b₁, b₂] (passed w (settle s)))) :=
  congrArg Host.Outcome.next (requestEvent_ofKind h (by decide) rfl)

section
variable {c : Chan} {b₁ b₂ : Byte} {s : State}

theorem startRequest_badIndex (hi : 31 < b₂.toNat) : startRequest c [b₁, b₂] s = refuse .badIndex s := by
  simp [startRequest, natAt_one, hi]

theorem startRequest_pendingFull (hi : b₂.toNat ≤ 31) (hs : (s.chan c).state ≠ .idle)
    (hp : (s.chan c).pendingProgram ≠ none) : startRequest c [b₁, b₂] s = refuse .pendingFull s := by
  simp [startRequest, natAt_one, Nat.not_lt.mpr hi, hs, Option.isSome_iff_ne_none, hp]

/-- R8: the channel can take a program, at once or in its pending slot. -/
def TakesProgram (s : State) (c : Chan) : Prop := (s.chan c).state = .idle ∨ (s.chan c).pendingProgram = none

theorem notFull_of_takes (h : TakesProgram s c) :
    ¬ (!decide ((s.chan c).state = .idle) && (s.chan c).pendingProgram.isSome) = true := by
  rcases h with h | h <;> simp [h]

theorem startRequest_empty (hi : b₂.toNat ≤ 31) (ht : TakesProgram s c)
    (hp : programPresent s.store b₂.toNat = false) : startRequest c [b₁, b₂] s = refuse .empty s := by
  simp only [startRequest, natAt_one, if_neg (Nat.not_lt.mpr hi), if_neg (notFull_of_takes ht), hp]
  rfl

theorem startRequest_starts (hi : b₂.toNat ≤ 31) (hs : (s.chan c).state = .idle)
    (hp : programPresent s.store b₂.toNat = true) :
    startRequest c [b₁, b₂] s =
      accept [fNat 1 0, stateField (lockAndStart b₂.toNat c s) c] (lockAndStart b₂.toNat c s) := by
  simp [startRequest, natAt_one, Nat.not_lt.mpr hi, hs, hp, startedDisposition]

theorem startRequest_waits (hi : b₂.toNat ≤ 31) (hs : (s.chan c).state ≠ .idle)
    (hn : (s.chan c).pendingProgram = none) (hp : programPresent s.store b₂.toNat = true) :
    startRequest c [b₁, b₂] s =
      accept [fNat 1 1, stateField (placePending b₂.toNat c s) c] (placePending b₂.toNat c s) := by
  simp [startRequest, natAt_one, Nat.not_lt.mpr hi, hs, hn, hp, pendingDisposition]

end

theorem lockAndStart_eq {i : Nat} {h : Header} {s : State} (hh : s.store.header i = some h) (c : Chan) :
    lockAndStart i c s = (s.lockProgram i).setChan c (Started i h.tag c s) :=
  startProgram_eq ((header_lockProgram i i s).trans hh) c

theorem startProgramStartsOrWaits : StartProgramStartsOrWaits := by
  intro b₁ b₂ w s u i done h
  have answer : ∀ {status fs t}, State.prepare w (onChannel startRequest [b₁, b₂] (passed w u)) =
      answered w status fs t → done status fs t := fun e => (exec_startProgram h).trans (congrArg _ e)
  refine ⟨fun bad => answer ?_, fun c hc hi => ⟨fun hs hp => answer ?_, fun ht =>
    ⟨fun hh => answer ?_, fun hd hh => ⟨fun hf => answer ?_, fun hf hs => answer ?_, fun hf hs => answer ?_⟩⟩⟩⟩
  · by_cases hb : 7 < b₁.toNat
    · rw [onChannel_badIndex _ hb, prepare_refuse]
    · have hb' : b₁.toNat < 8 := by omega
      rw [onChannel_eq (c := ⟨b₁.toNat, hb'⟩) _ rfl, startRequest_badIndex (bad.resolve_left hb), prepare_refuse]
  all_goals rw [onChannel_eq _ hc]
  · rw [startRequest_pendingFull (s := passed w u) hi hs hp, prepare_refuse]
  · have absent : programPresent u.store i = false := by simp [programPresent, hh]
    rw [startRequest_empty (s := passed w u) hi ht absent, prepare_refuse]
  · have absent : programPresent u.store i = false := by simp [programPresent, hh, hf]
    rw [startRequest_empty (s := passed w u) hi ht absent, prepare_refuse]
  · have present : programPresent u.store i = true := by
      simp [programPresent, hh, Option.isSome_iff_ne_none, hf]
    rw [startRequest_starts (s := passed w u) hi hs present,
      lockAndStart_eq (s := passed w u) hh, stateField, chan_setChan]
    rfl
  · have present : programPresent u.store i = true := by
      simp [programPresent, hh, Option.isSome_iff_ne_none, hf]
    rw [startRequest_waits (s := passed w u) hi hs (ht.resolve_left hs) present, placePending, updChan_eq, stateField,
      chan_setChan]
    rfl

/-- Settles O38: the lock set by the one change of each of its counts, and the request by its checks in order. -/
theorem startProgramLocksAndStarts : Obligations.StartProgramLocksAndStarts :=
  ⟨lockSetIsCounted, startProgramStartsOrWaits⟩

/-! ### TAKE_RECORD (R177, R186) -/

theorem exec_takeRecord {w : Window} {s : State} (h : Addressed 15 [] w (settle s)) :
    exec (.takeRecord w) s = .next (State.prepare w (takeRecord [] (passed w (settle s)))) :=
  congrArg Host.Outcome.next (requestEvent_ofKind h (by decide) rfl)

theorem takeRecord_empty {bs : List Byte} {s : State} (h : s.records.queue = []) :
    takeRecord bs s = refuse .empty s := by simp [takeRecord, onOldest, h]

theorem takeRecord_oldest {bs : List Byte} {s : State} {r : Record} {rest : List Record}
    (h : s.records.queue = r :: rest) :
    takeRecord bs s = accept [fNat 1 r.channel.val, fNat 2 r.tag, fNat 4 r.startCount] (freePlace s) := by
  simp [takeRecord, onOldest, h, Record.identity]

/-- R186: with no channel FILING the place stays free. -/
theorem freePlace_of_no_filing {s : State} {r : Record} {rest : List Record} (hq : s.records.queue = r :: rest)
    (hf : s.records.filing = []) : freePlace s = { s with records := { queue := rest, filing := [] } } := by
  have records : s.records = { queue := r :: rest, filing := [] } := by rw [← hq, ← hf]
  simp [freePlace, State.updRecords, records]

/-- R186: the head of the filing list pushes its record into the freed place. -/
theorem freePlace_of_filing {s : State} {r x : Record} {rest : List Record} {c : Chan} {waiting : List Chan}
    (hq : s.records.queue = r :: rest) (hf : s.records.filing = c :: waiting) (hx : (s.chan c).filed = some x) :
    freePlace s = afterFiling c { s with records := { queue := rest ++ [x], filing := waiting } } := by
  have records : s.records = { queue := r :: rest, filing := c :: waiting } := by rw [← hq, ← hf]
  have held : (State.chan { s with records := { queue := rest, filing := c :: waiting } } c).filed = some x := hx
  simp [freePlace, State.updRecords, records, held]

theorem afterFiling_idle {c : Chan} {s : State} (h : (s.chan c).pendingProgram = none) :
    afterFiling c s = s.setChan c { s.chan c with
      state := .idle, filed := none, freeze := FreezeSet.empty
      jack := { (s.chan c).jack with integral := 0, overloads := 0 } } := by
  simp [afterFiling, h, goIdle]

/-- R9, R19: a pending program starts, its slot emptied. -/
theorem afterFiling_starts {c : Chan} {s : State} {i : Nat} {h : Header} (hp : (s.chan c).pendingProgram = some i)
    (hh : s.store.header i = some h) :
    afterFiling c s = s.setChan c { Started i h.tag c s with pendingProgram := none } := by
  simp only [afterFiling, hp]
  rw [startProgram_eq (s := s.updChan c fun ch => { ch with pendingProgram := none }) hh, updChan_eq, setChan_setChan]
  simp only [Started, chan_setChan]
  rfl

/-- Settles O46, by what becomes of the freed place. -/
theorem takeRecordFreesPlace : Obligations.TakeRecordFreesPlace := by
  intro w s u h
  refine ⟨fun empty => ?_, fun r rest hq => ?_⟩
  · rw [exec_takeRecord h, takeRecord_empty (s := passed w u) empty, prepare_refuse]
  intro done
  have answer : ∀ {t}, State.prepare w (accept [fNat 1 r.channel.val, fNat 2 r.tag, fNat 4 r.startCount]
      (freePlace (passed w u))) = answered w .ok [fNat 1 r.channel.val, fNat 2 r.tag, fNat 4 r.startCount] t →
      done t := fun e => (exec_takeRecord h).trans (congrArg _ ((takeRecord_oldest (s := passed w u) hq ▸ e)))
  refine ⟨fun hf => answer ?_, fun c waiting x hf hx => ?_⟩
  · rw [freePlace_of_no_filing (s := passed w u) hq hf]
    rfl
  intro pushed
  have freed : freePlace (passed w u) = afterFiling c (passed w pushed) :=
    freePlace_of_filing (s := passed w u) hq hf hx
  rw [freed] at answer
  refine ⟨fun hp => answer ?_, fun i hd hp hh => answer ?_⟩
  · rw [afterFiling_idle (s := passed w pushed) hp]
    rfl
  · rw [afterFiling_starts (s := passed w pushed) hp hh]
    rfl

end Sys2Proof.Machine.Laws
end

section
/-! PROOFS. LOAD_ENTRY of every table (R6, R24, R114, R118, R133, R160, R171, R179, R190). -/

namespace Sys2Proof.Machine.Laws

/-! ### The row and the length of a LOAD_ENTRY (R166, R171, R197) -/

section
variable {sel hi lo : Byte} {entry : List Byte} {w : Window} {t : Table}

theorem ofLoad_addressed {u : State} (h : Addressed 1 (sel :: hi :: lo :: entry) w u)
    (ht : tableOf sel.toNat = some t) : ofLoad t w = true := by
  have payload : requestPayload w = sel :: hi :: lo :: entry := by
    obtain ⟨-, -, -, -, -, -, -, -, -, payload, -⟩ := h; exact payload
  simp [ofLoad, ofKind_addressed h, loadTable, payload, ht]

/-- R166, R197: the length of a LOAD_ENTRY is checked by the table and the entry's first byte. -/
theorem lengthRight_load {u : State} (h : Addressed 1 (sel :: hi :: lo :: entry) w u) :
    lengthRight w = loadLengthRight (sel :: hi :: lo :: entry) := by
  obtain ⟨-, -, -, -, -, -, kind, length, short, payload, -⟩ := h
  simp only [lengthRight, kind, length, payload]
  simp only [List.length_cons] at short ⊢
  simp [short]

theorem natAt_entry (entry : List Byte) : natAt (sel :: hi :: lo :: entry) 3 1 = natAt entry 0 1 := by
  simp [natAt]

theorem loadLengthRight_empty (ht : tableOf sel.toNat = some t) : loadLengthRight [sel, hi, lo] = true := by
  simp [loadLengthRight, natAt_head, ht]

theorem loadLengthRight_entry {n : Nat} (ht : tableOf sel.toNat = some t) (he : entry ≠ [])
    (hn : entryLength t (natAt entry 0 1) = some n) :
    loadLengthRight (sel :: hi :: lo :: entry) = decide (entry.length = n) := by
  have some_bytes : entry.length ≠ 0 := by simpa using he
  simp only [loadLengthRight, natAt_head, ht, natAt_entry, hn, List.length_cons]
  rw [if_neg (by omega), if_neg (by omega)]
  exact decide_eq_decide.mpr (by omega)

/-- R197: an EMPTY entry and an entry of the length its table and kind give. -/
theorem loadLengthRight_of_fits (ht : tableOf sel.toNat = some t)
    (hn : entry = [] ∨ entryLength t (natAt entry 0 1) = some entry.length) :
    loadLengthRight (sel :: hi :: lo :: entry) = true := by
  by_cases he : entry = []
  · rw [he]; exact loadLengthRight_empty ht
  · rw [loadLengthRight_entry ht he (hn.resolve_left he)]; simp

/-- R167: a LOAD_ENTRY of the right length is answered by the owner of the table. -/
theorem requestEvent_load {s : State} {act : List Byte → State → Answer}
    (h : Addressed 1 (sel :: hi :: lo :: entry) w (settle s)) (ht : tableOf sel.toNat = some t)
    (hn : entry = [] ∨ entryLength t (natAt entry 0 1) = some entry.length) :
    requestEvent (ofLoad t w) act w s = State.prepare w (act (sel :: hi :: lo :: entry) (passed w (settle s))) :=
  requestEvent_settled h (ofLoad_addressed h ht) ((lengthRight_load h).trans (loadLengthRight_of_fits ht hn))

/-- R166: an addressed request of the wrong length is refused by its row. -/
theorem requestEvent_badLength {k : Nat} {p : List Byte} {s : State} {mine : Bool} {act : List Byte → State → Answer}
    (h : Addressed k p w (settle s)) (hm : mine = true) (hl : lengthRight w = false) :
    requestEvent mine act w s = answered w .badValue [] (settle s) := by
  simp [requestEvent, h.1, hm, takeRequest, taking_addressed h, takeAddressed, garbled_addressed h, hl, prepare_refuse]

theorem requestEvent_badLoadLength {n : Nat} {s : State} {act : List Byte → State → Answer}
    (h : Addressed 1 (sel :: hi :: lo :: entry) w (settle s)) (ht : tableOf sel.toNat = some t) (he : entry ≠ [])
    (hn : entryLength t (natAt entry 0 1) = some n) (wrong : entry.length ≠ n) :
    requestEvent (ofLoad t w) act w s = answered w .badValue [] (settle s) :=
  requestEvent_badLength h (ofLoad_addressed h ht)
    (by rw [lengthRight_load h, loadLengthRight_entry ht he hn]; simpa using wrong)

/-- The entry that a LOAD_ENTRY carries. -/
theorem loadedValue_eq {α : Type} (decode : List Byte → Option α) (ok : α → Bool) (entry : List Byte) :
    loadedValue decode ok (sel :: hi :: lo :: entry) = EntryRead decode ok entry := by
  have empty : isEmptyLoad (sel :: hi :: lo :: entry) = decide (entry = []) := by
    cases entry <;> simp [isEmptyLoad]
  simp only [loadedValue, EntryRead, empty, decide_eq_true_eq, List.drop_succ_cons, List.drop_zero]
  cases decode entry <;> rfl

theorem entryIndex_eq (entry : List Byte) :
    entryIndex (sel :: hi :: lo :: entry) = 256 * hi.toNat + lo.toNat := natAt_pair _ _ _ _

end

/-! ### The Program Store (R6) -/

/-- R6: a load of a Program Store table by its checks in order. -/
theorem storeLoads {α : Type} {i : Instr} {w : Window} {s : State} {t : Table} {size index : Nat}
    {v : Option (Option α)} {write : Nat → Option α → ProgramStore → ProgramStore} {bs : List Byte}
    (hi : exec i s = .next (State.prepare w (loadStore t v write bs (passed w (settle s)))))
    (hx : entryIndex bs = index) (hr : indexInRange t index = decide (index < size)) :
    StoreLoads i w s t size index v fun e => write index e (settle s).store := by
  unfold StoreLoads
  intro u
  rw [hi]
  refine ⟨fun far => ?_, fun near hv => ?_, fun e near hv locked => ?_, fun e near hv free => ?_⟩
  all_goals simp only [loadStore, hx, hr]
  · simp [Nat.not_lt.mpr far, prepare_refuse, u]
  · simp [near, hv, prepare_refuse, u]
  · have locked' : 0 < (passed w (settle s)).store.locks t index := locked
    simp [near, hv, locked', prepare_refuse, u]
  · have free' : (passed w (settle s)).store.locks t index = 0 := free
    simp [near, hv, free']; rfl

/-- R2: an undefined step kind is refused, whether its length or its value is looked at (log entry 25). -/
theorem requestEvent_badStepKind {hi lo : Byte} {entry : List Byte} {w : Window} {s : State}
    (h : Addressed 1 (1#8 :: hi :: lo :: entry) w (settle s)) (he : entry ≠ [])
    (hn : stepLength (natAt entry 0 1) = none) (hx : 256 * hi.toNat + lo.toNat < 1024) :
    requestEvent (ofLoad .step w) loadStep w s = answered w .badValue [] (settle s) := by
  cases right : lengthRight w with
  | false => exact requestEvent_badLength h (ofLoad_addressed h rfl) right
  | true =>
    have undefined_ : decodeStepBody (natAt entry 0 1) (entry.drop 3) = none := by
      revert hn
      match natAt entry 0 1 with
      | 0 | 1 | 2 | 3 | 4 | 5 | 6 | 7 | 8 => intro hn; cases hn
      | k + 9 => intro _; rfl
    have unread : decodeStep entry = none := by
      simp [decodeStep, undefined_]
    have value : loadedValue decodeStep Step.ok (1#8 :: hi :: lo :: entry) = none := by
      rw [loadedValue_eq, EntryRead, if_neg he, unread]
    rw [requestEvent_settled h (ofLoad_addressed h rfl) right]
    simp [loadStep, value, loadStore, entryIndex_eq, indexInRange, hx, prepare_refuse]

/-- Settles O34, the four tables by the one load they share. -/
theorem storeLoadsCheckIndexValueLock : Obligations.StoreLoadsCheckIndexValueLock := by
  intro hi lo entry w s index st
  refine ⟨fun h hl => ?_, fun h hl => ?_, fun h hl => ?_, fun h hl => ?_, ?_⟩
  · exact storeLoads (write := ProgramStore.setHeader) (congrArg Host.Outcome.next
      ((requestEvent_load (t := .header) h rfl (hl.imp_right fun e => by rw [e]; rfl)).trans
        (by rw [loadHeader, loadedValue_eq]))) (entryIndex_eq entry) rfl
  · exact storeLoads (write := ProgramStore.setStep) (congrArg Host.Outcome.next
      ((requestEvent_load (t := .step) h rfl hl).trans
        (by rw [loadStep, loadedValue_eq]))) (entryIndex_eq entry) rfl
  · exact storeLoads (write := ProgramStore.setSegment) (congrArg Host.Outcome.next
      ((requestEvent_load (t := .segment) h rfl (hl.imp_right fun e => by rw [e]; rfl)).trans
        (by rw [loadSegment, loadedValue_eq]))) (entryIndex_eq entry) rfl
  · exact storeLoads (write := ProgramStore.setMarkSet) (congrArg Host.Outcome.next
      ((requestEvent_load (t := .markset) h rfl (hl.imp_right fun e => by rw [e]; rfl)).trans
        (by rw [loadMarkSet, loadedValue_eq]))) (entryIndex_eq entry) rfl
  intro short
  refine ⟨fun h he hl => ?_, fun n h he hn hl => ?_, fun h he hn hx => ?_, fun h he hl => ?_, fun h he hl => ?_⟩
  · exact congrArg Host.Outcome.next (requestEvent_badLoadLength (t := .header) h rfl he rfl hl)
  · exact congrArg Host.Outcome.next (requestEvent_badLoadLength (t := .step) h rfl he hn hl)
  · exact congrArg Host.Outcome.next (requestEvent_badStepKind h he hn hx)
  · exact congrArg Host.Outcome.next (requestEvent_badLoadLength (t := .segment) h rfl he rfl hl)
  · exact congrArg Host.Outcome.next (requestEvent_badLoadLength (t := .markset) h rfl he rfl hl)

/-! ### The tables without a lock count (R133, R160, R190, R24, R179) -/

theorem duplicateCommand_iff (bank : SparseTable SlotEntry) (pos : Nat) (e : SlotEntry) :
    duplicateCommand bank pos e = true ↔
      ∃ k p, e = .command k ∧ p ≠ pos ∧ (p, SlotEntry.command k) ∈ bank := by
  cases e with
  | command k =>
    simp only [duplicateCommand, List.any_eq_true, Bool.and_eq_true, decide_eq_true_eq, SlotEntry.command.injEq]
    constructor
    · rintro ⟨⟨p, x⟩, mem, hp, rfl⟩; exact ⟨k, p, rfl, hp, mem⟩
    · rintro ⟨_, p, rfl, hp, mem⟩; exact ⟨_, mem, hp, rfl⟩
  | pass | sample _ _ | report => simp [duplicateCommand]

theorem scaleAndSlotMapLoads : ScaleAndSlotMapLoads := by
  intro hi lo entry w s index u done
  constructor
  · intro h hl v
    have answer : exec (.loadEntryScale w) s =
        .next (State.prepare w (loadScale (4#8 :: hi :: lo :: entry) (passed w u))) :=
      congrArg Host.Outcome.next (requestEvent_load (t := .scale) h rfl (hl.imp_right fun e => by rw [e]; rfl))
    rw [loadScale, entryIndex_eq, loadedValue_eq] at answer
    refine ⟨fun far => answer.trans ?_, fun near hv => answer.trans ?_, fun e near hv => answer.trans ?_⟩
    · have far' : ¬ index < 48 := by omega
      simp only [indexInRange, index, far', decide_false, Bool.not_false, if_true, prepare_refuse]
    · simp only [indexInRange, index, near, decide_true, Bool.not_true, Bool.false_eq_true, if_false,
        show EntryRead decodeScale ScaleEntry.ok entry = none from hv, prepare_refuse]
    · simp only [indexInRange, index, near, decide_true, Bool.not_true, Bool.false_eq_true, if_false,
        show EntryRead decodeScale ScaleEntry.ok entry = some e from hv]
      rfl
  · intro h hl v stands
    have answer : exec (.loadEntrySlotMap w) s =
        .next (State.prepare w (loadSlotMap (7#8 :: hi :: lo :: entry) (passed w u))) :=
      congrArg Host.Outcome.next (requestEvent_load (t := .slotMap) h rfl hl)
    rw [loadSlotMap, entryIndex_eq, loadedValue_eq] at answer
    have inRange : 17 ≤ index → index ≤ 239 → indexInRange .slotMap index = true := fun a b => by
      simp [indexInRange, a, b]
    refine ⟨fun far => answer.trans ?_, fun a b hv => answer.trans ?_, fun e a b hv hs => answer.trans ?_,
      fun e a b hv hs => answer.trans ?_⟩
    · have outOfRange : indexInRange .slotMap index = false := by simp [indexInRange]; omega
      rw [show indexInRange .slotMap (256 * hi.toNat + lo.toNat) = false from outOfRange]
      rfl
    all_goals rw [show indexInRange .slotMap (256 * hi.toNat + lo.toNat) = true from inRange a b,
      show EntryRead decodeSlotEntry SlotEntry.ok entry = _ from hv]
    · rfl
    · have twice : duplicateCommand (passed w u).line.shadow index e = true := (duplicateCommand_iff _ _ _).mpr hs
      simp only [Option.getD_some, index] at twice ⊢
      simp only [twice, Bool.not_true, Bool.false_eq_true, if_false, if_true, prepare_refuse]
    · have once : duplicateCommand (passed w u).line.shadow index (e.getD .pass) = false := by
        rw [Bool.eq_false_iff, ne_eq, duplicateCommand_iff]; exact hs
      simp only [index] at once ⊢
      simp only [once, Bool.not_true, Bool.false_eq_true, if_false]
      rfl

theorem reportListLoads : ReportListLoads := by
  intro hi lo entry w s index u l done h hl
  have answer : exec (.loadEntryReportList w) s =
      .next (State.prepare w (loadReportList (8#8 :: hi :: lo :: entry) (passed w u))) :=
    congrArg Host.Outcome.next (requestEvent_load (t := .reportList) h rfl (hl.imp_right fun e => by rw [e]; rfl))
  rw [loadReportList, entryIndex_eq, loadedValue_eq] at answer
  have inRange : index ≤ 63 → indexInRange .reportList (256 * hi.toNat + lo.toNat) = true := fun a => by
    have : 256 * hi.toNat + lo.toNat ≤ 63 := a
    simp [indexInRange]; omega
  refine ⟨fun far => answer.trans ?_, fun near he hd => answer.trans ?_, fun e near he hd =>
    ⟨fun gap => answer.trans ?_, fun below => answer.trans ?_, fun at_ => answer.trans ?_⟩,
    fun near he => answer.trans ?_⟩
  · have outOfRange : indexInRange .reportList (256 * hi.toNat + lo.toNat) = false := by
      have : 63 < 256 * hi.toNat + lo.toNat := far
      simp [indexInRange]; omega
    rw [outOfRange]
    rfl
  all_goals rw [inRange near]
  · simp only [EntryRead, he, hd, Bool.not_true, Bool.false_eq_true, if_false, prepare_refuse]
  · have gap' : (passed w u).reports.shadow.length < 256 * hi.toNat + lo.toNat := gap
    simp only [EntryRead, he, hd, Bool.not_true, Bool.false_eq_true, if_false, if_true, Option.isSome_some, gap',
      true_and, prepare_refuse]
  · have below' : 256 * hi.toNat + lo.toNat < (passed w u).reports.shadow.length := below
    simp only [EntryRead, he, hd, Bool.not_true, Bool.false_eq_true, if_false, if_true, Option.isSome_some,
      true_and, if_neg (Nat.lt_asymm below'), reportListAfter, State.updReports, if_pos below']
    rfl
  · have at' : 256 * hi.toNat + lo.toNat = (passed w u).reports.shadow.length := at_
    simp only [EntryRead, he, hd, Bool.not_true, Bool.false_eq_true, if_false, if_true, Option.isSome_some,
      true_and, at', Nat.lt_irrefl, reportListAfter, State.updReports]
    rfl
  · simp only [EntryRead, he, Bool.not_true, Bool.false_eq_true, if_false, if_true, Option.isSome_none, false_and]
    rfl

theorem configurationLoads : ConfigurationLoads := by
  intro hi lo entry w s index u done
  constructor
  · intro h hl v
    have answer : exec (.loadEntryChannelConfig w) s =
        .next (State.prepare w (loadChannelConfig (5#8 :: hi :: lo :: entry) (passed w u))) :=
      congrArg Host.Outcome.next
        (requestEvent_load (t := .channelConfig) h rfl (hl.imp_right fun e => by rw [e]; rfl))
    rw [loadChannelConfig, entryIndex_eq, loadedValue_eq] at answer
    refine ⟨fun far => answer.trans ?_, fun c hc => ?_⟩
    · have none_ : chanOf (256 * hi.toNat + lo.toNat) = none := by
        have : 7 < 256 * hi.toNat + lo.toNat := far
        simp [chanOf]; omega
      rw [none_]
      rfl
    · have named : chanOf (256 * hi.toNat + lo.toNat) = some c := by
        rw [show 256 * hi.toNat + lo.toNat = c.val from hc.symm]; simp [chanOf]
      rw [named] at answer
      refine ⟨fun hs => answer.trans ?_, fun hs hv => answer.trans ?_, fun e hs hv => answer.trans ?_⟩
      · simp only [passed_chan, ne_eq, hs, not_false_eq_true, if_true, prepare_refuse]
      · simp only [passed_chan, ne_eq, hs, not_true_eq_false, if_false,
          show EntryRead decodeChannelConfig ChannelConfig.ok entry = none from hv, prepare_refuse]
      · simp only [show EntryRead decodeChannelConfig ChannelConfig.ok entry = some e from hv]
        rw [if_neg (by rw [passed_chan]; exact not_not_intro hs)]
        rfl
  · intro h hl v moves inUse
    have answer : exec (.loadEntryPartConfig w) s =
        .next (State.prepare w (loadPartConfig (9#8 :: hi :: lo :: entry) (passed w u))) :=
      congrArg Host.Outcome.next
        (requestEvent_load (t := .partConfig) h rfl (hl.imp_right fun e => by rw [e]; rfl))
    rw [loadPartConfig, entryIndex_eq, loadedValue_eq] at answer
    have inUse_iff : (passed w u).pumpInUse = true ↔ inUse := decide_eq_true_iff
    refine ⟨fun far => answer.trans ?_, fun zero hv => answer.trans ?_, fun e zero hv moved used => answer.trans ?_,
      fun e zero hv free => answer.trans ?_⟩
    · have outOfRange : indexInRange .partConfig (256 * hi.toNat + lo.toNat) = false := decide_eq_false far
      rw [outOfRange]
      rfl
    all_goals rw [show indexInRange .partConfig (256 * hi.toNat + lo.toNat) = true from decide_eq_true zero,
      show EntryRead decodePartConfig PartConfig.ok entry = _ from hv]
    · rfl
    · exact congrArg (fun a => Host.Outcome.next (State.prepare w a)) (if_pos (And.intro moved (inUse_iff.mpr used)))
    · exact congrArg (fun a => Host.Outcome.next (State.prepare w a))
        (if_neg fun both => free (And.imp_right inUse_iff.mp both))

/-- Settles O35, table by table. -/
theorem loadsOfUnlockedTables : Obligations.LoadsOfUnlockedTables :=
  ⟨scaleAndSlotMapLoads, reportListLoads, configurationLoads⟩

/-! ### Wall points (R114, R118, R122) -/

/-- R119, R122: a wall state that a change of a point brings to STOP reaches the channels; no other change does. -/
theorem changeWall_reaches (p : Point) (x : WallPoint) (s : State) :
    (s.wallState ≠ .stop → (s.changeWall p x).wallState = .stop →
      CauseReaches .wallStop (fun _ => True) s (s.changeWall p x)) ∧
      (s.wallState = .stop ∨ (s.changeWall p x).wallState ≠ .stop →
        ∀ c, (s.changeWall p x).chan c = s.chan c) := by
  obtain ⟨walls, -, -, reaches, plain⟩ := changeWall_spec p x s
  have same : (s.changeWall p x).wallState = (s.setWall p x).wallState := wallState_congr walls
  rw [same]
  refine ⟨fun before after => reaches after before, fun h c => ?_⟩
  rw [plain fun ⟨after, before⟩ => h.elim before fun n => n after]
  rfl

/-- R119: a change of one point leaves every other. -/
theorem changeWall_wall (p : Point) (x : WallPoint) (s : State) :
    (s.changeWall p x).wall p = x ∧ ∀ q, q ≠ p → (s.changeWall p x).wall q = s.wall q := by
  obtain ⟨walls, -⟩ := changeWall_spec p x s
  have same : ∀ q, (s.changeWall p x).wall q = (s.setWall p x).wall q := fun q => by
    simp only [State.wall, walls]; rfl
  exact ⟨(same p).trans (wall_setWall s p x), fun q hq => (same q).trans (wall_setWall_ne s x hq)⟩

/-- R118: an enabled point classified afresh, from NORMAL with its latch clear. -/
theorem classified_afresh (k : WallConfig) (v : Int) (on : k.enable = true) :
    let d := (v - k.baseline).natAbs
    let x := WallPoint.classified v { config := k, state := .normal, latch := false }
    (k.stop ≤ d → x.state = .stop ∧ x.latch = true) ∧
      (d < k.stop → k.warn ≤ d → x.state = .warn ∧ x.latch = false) ∧
      (d < k.stop → d < k.warn → x.state = .normal ∧ x.latch = false) := by
  intro d x
  have shown : x = { config := k, state := (classify k .normal false d).state
                     latch := (classify k .normal false d).latch } := by
    simp [x, d, WallPoint.classified, on, displacement, distance]
  rw [shown]
  refine ⟨fun h => ?_, fun h1 h2 => ?_, fun h1 h2 => ?_⟩
  · simp [classify, h]
  · simp [classify, Nat.not_le.mpr h1, h2]
  · simp [classify, Nat.not_le.mpr h1, Nat.not_le.mpr h2]

theorem classified_config (v : Int) (x : WallPoint) : (x.classified v).config = x.config := by
  unfold WallPoint.classified
  split <;> rfl

theorem loadedPoint_config (s : State) (p : Point) (k : WallConfig) : (loadedPoint s p k).config = k := by
  unfold loadedPoint
  split
  · split
    · rfl
    · exact classified_config _ _
  · rfl

theorem loadedPoint_of_disabled (s : State) (p : Point) {k : WallConfig} (off : k.enable = false) :
    loadedPoint s p k = { config := k, state := .normal, latch := false } := by simp [loadedPoint, off]

theorem loadedPoint_of_unavailable {s : State} {p : Point} {k : WallConfig} (on : k.enable = true)
    (hv : s.availableValue (.wallMove p) = none) :
    loadedPoint s p k = { config := k, state := .stale, latch := false } := by simp [loadedPoint, on, hv]

theorem loadedPoint_of_value {s : State} {p : Point} {k : WallConfig} {v : Int} (on : k.enable = true)
    (hv : s.availableValue (.wallMove p) = some v) :
    loadedPoint s p k = WallPoint.classified v { config := k, state := .normal, latch := false } := by
  simp [loadedPoint, on, hv]

/-- Settles O36: the checks in order, and the point by what its configuration and its input make of it. -/
theorem wallPointLoadClassifiesAfresh : Obligations.WallPointLoadClassifiesAfresh := by
  intro hi lo entry w s index u v h hl
  have answer : exec (.loadEntryWallPoint w) s =
      .next (State.prepare w (loadWallPoint (6#8 :: hi :: lo :: entry) (passed w u))) :=
    congrArg Host.Outcome.next (requestEvent_load (t := .wallPoint) h rfl (hl.imp_right fun e => by rw [e]; rfl))
  rw [loadWallPoint, entryIndex_eq, loadedValue_eq] at answer
  have named : ∀ p : Point, p.val = index → pointOf (256 * hi.toNat + lo.toNat) = some p := fun p hp => by
    rw [show 256 * hi.toNat + lo.toNat = p.val from hp.symm]; simp [pointOf]
  refine ⟨fun far => answer.trans ?_, fun near hv => answer.trans ?_, fun p e hp hv => ?_⟩
  · have none_ : pointOf (256 * hi.toNat + lo.toNat) = none := by
      have : 15 < 256 * hi.toNat + lo.toNat := far
      simp [pointOf]; omega
    rw [none_]
    rfl
  · rw [named ⟨index, by omega⟩ rfl, show EntryRead decodeWallConfig WallConfig.ok entry = none from hv]
    rfl
  rw [named p hp, show EntryRead decodeWallConfig WallConfig.ok entry = some e from hv] at answer
  refine ⟨fun latched => answer.trans ?_, fun clear => ?_⟩
  · simp only [passed_wall, latched, if_true, prepare_refuse]
  intro k
  generalize hx : loadedPoint u p k = x at *
  have loaded : (if ((passed w u).wall p).latch = true then refuse .inUse (passed w u)
      else accept [] ((passed w u).changeWall p (loadedPoint (passed w u) p (e.getD WallConfig.defaults)))) =
      accept [] ((passed w u).changeWall p x) := by
    rw [if_neg (by rw [passed_wall, clear]; decide), ← hx]; rfl
  obtain ⟨-, hmgmt, keeps, -, -⟩ := changeWall_spec p x (passed w u)
  obtain ⟨here, others⟩ := changeWall_wall p x (passed w u)
  obtain ⟨reaches, plain⟩ := changeWall_reaches p x (passed w u)
  obtain ⟨-, hstore, -, hinputs, -, hrecords, -, -, -, -, -⟩ := id keeps
  have there : (unpassed (u.setWall p x) ((passed w u).changeWall p x)).wall p = x := here
  refine ⟨unpassed (u.setWall p x) ((passed w u).changeWall p x), answer.trans ?_, ?_, others, ?_, ?_, ?_, reaches, plain,
    hstore, hinputs, hrecords, hmgmt⟩
  · exact (congrArg (fun a => Host.Outcome.next (State.prepare w a)) loaded).trans
      (congrArg Host.Outcome.next (prepare_accept (u := u.setWall p x) [] keeps))
  all_goals rw [there, ← hx]
  · exact loadedPoint_config u p k
  · intro off; rw [loadedPoint_of_disabled u p off]; exact ⟨rfl, rfl⟩
  · intro on hv'; rw [loadedPoint_of_unavailable on hv']; exact ⟨rfl, rfl⟩
  · intro y on hv'; rw [loadedPoint_of_value on hv']; exact classified_afresh k y on

end Sys2Proof.Machine.Laws
end

section
/-! PROOFS. The reading requests: READ_ENTRY, READ_CHANNEL, READ_PUMP, READ_STATUS, READ_RECORD (R172, R175 to R177). -/

namespace Sys2Proof.Machine.Laws

/-! ### READ_ENTRY (R172) -/

theorem readFields_passed (w : Window) (u : State) (t : Table) (i : Nat) (b : Bank) :
    readFields (passed w u) t i b = readFields u t i b := by
  cases t with
  | slotMap => cases b <;> rfl
  | reportList => cases b <;> rfl
  | header | step | segment | markset | scale | channelConfig | wallPoint | partConfig => rfl

section
variable {table hi lo bank : Byte} {w : Window} {s : State}

theorem exec_readEntry (h : Addressed 2 [table, hi, lo, bank] w (settle s)) :
    exec (.readEntry w) s = .next (State.prepare w (readEntry [table, hi, lo, bank] (passed w (settle s)))) :=
  congrArg Host.Outcome.next (requestEvent_ofKind h (by decide) rfl)

theorem natAt_three (b : Byte) : natAt [table, hi, lo, b] 3 1 = b.toNat := by simp [natAt, bytesNat]

theorem readEntry_noTable (h : Addressed 2 [table, hi, lo, bank] w (settle s)) (ht : tableOf table.toNat = none) :
    exec (.readEntry w) s = .next (answered w .badValue [] (settle s)) := by
  rw [exec_readEntry h]
  simp only [readEntry, natAt_head, ht]
  rfl

theorem readEntry_badIndex {t : Table} (h : Addressed 2 [table, hi, lo, bank] w (settle s))
    (ht : tableOf table.toNat = some t) (hr : indexInRange t (256 * hi.toNat + lo.toNat) = false) :
    exec (.readEntry w) s = .next (answered w .badIndex [] (settle s)) := by
  rw [exec_readEntry h]
  simp only [readEntry, entryIndex_eq, natAt_head, natAt_three, readFields_passed, ht, hr]
  rfl

theorem readEntry_badBank {t : Table} (h : Addressed 2 [table, hi, lo, bank] w (settle s))
    (ht : tableOf table.toNat = some t) (hr : indexInRange t (256 * hi.toNat + lo.toNat) = true)
    (hk : t.banked = true) (hb : bankOf bank.toNat = none) :
    exec (.readEntry w) s = .next (answered w .badValue [] (settle s)) := by
  rw [exec_readEntry h]
  simp only [readEntry, entryIndex_eq, natAt_head, natAt_three, readFields_passed, ht, hr, hk, hb]
  rfl

theorem readEntry_banked {t : Table} {b : Bank} (h : Addressed 2 [table, hi, lo, bank] w (settle s))
    (ht : tableOf table.toNat = some t) (hr : indexInRange t (256 * hi.toNat + lo.toNat) = true)
    (hk : t.banked = true) (hb : bankOf bank.toNat = some b) :
    exec (.readEntry w) s =
      .next (answered w .ok (readFields (settle s) t (256 * hi.toNat + lo.toNat) b) (settle s)) := by
  rw [exec_readEntry h]
  simp only [readEntry, entryIndex_eq, natAt_head, natAt_three, readFields_passed, ht, hr, hk, hb]
  rfl

theorem readEntry_plain {t : Table} (h : Addressed 2 [table, hi, lo, bank] w (settle s))
    (ht : tableOf table.toNat = some t) (hr : indexInRange t (256 * hi.toNat + lo.toNat) = true)
    (hk : t.banked = false) :
    exec (.readEntry w) s =
      .next (answered w .ok (readFields (settle s) t (256 * hi.toNat + lo.toNat) .active) (settle s)) := by
  rw [exec_readEntry h]
  simp only [readEntry, entryIndex_eq, natAt_head, natAt_three, readFields_passed, ht, hr, hk]
  rfl

end

theorem bankOf_above {n : Nat} (h : 1 < n) : bankOf n = none := by
  match n with
  | n + 2 => rfl

theorem tableOf_above {n : Nat} (h : 9 < n) : tableOf n = none := by
  match n with
  | n + 10 => rfl

/-- Settles O37: the checks in order, and each table's fields. -/
theorem readEntryReturnsEntry : Obligations.ReadEntryReturnsEntry := by
  intro table hi lo bank w s u i done h
  have plain : ∀ {t : Table} {fs : List Field}, tableOf table.toNat = some t → indexInRange t i = true →
      t.banked = false → readFields u t i .active = fs → done .ok fs := by
    intro t fs ht hr hk hf
    rw [← hf]; exact readEntry_plain h ht hr hk
  have banked : ∀ {t : Table} {b : Bank} {fs : List Field}, tableOf table.toNat = some t →
      indexInRange t i = true → t.banked = true → bankOf bank.toNat = some b → readFields u t i b = fs →
      done .ok fs := by
    intro t b fs ht hr hk hb hf
    rw [← hf]; exact readEntry_banked h ht hr hk hb
  refine ⟨fun far => readEntry_noTable h (tableOf_above far), ?_, ?_, ?_, ?_, ?_, ?_, ?_, ?_, ?_, ?_, ?_, ?_, ?_, ?_⟩
  · have outside : ∀ {t : Table}, tableOf table.toNat = some t → indexInRange t i = false → done .badIndex [] :=
      fun ht hr => readEntry_badIndex h ht hr
    rintro (⟨rfl, far⟩ | ⟨rfl, far⟩ | ⟨rfl, far⟩ | ⟨rfl, far⟩ | ⟨rfl, far⟩ | ⟨rfl, far⟩ | ⟨rfl, far⟩ | ⟨rfl, far⟩ |
      ⟨rfl, far⟩ | ⟨rfl, far⟩)
    · exact outside (t := .header) rfl (decide_eq_false (by omega))
    · exact outside (t := .step) rfl (decide_eq_false (by omega))
    · exact outside (t := .segment) rfl (decide_eq_false (by omega))
    · exact outside (t := .markset) rfl (decide_eq_false (by omega))
    · exact outside (t := .scale) rfl (decide_eq_false (by omega))
    · exact outside (t := .channelConfig) rfl (decide_eq_false (by omega))
    · exact outside (t := .wallPoint) rfl (decide_eq_false (by omega))
    · exact outside (t := .slotMap) rfl (by simp [indexInRange]; omega)
    · exact outside (t := .reportList) rfl (decide_eq_false (by omega))
    · exact outside (t := .partConfig) rfl (decide_eq_false far)
  · rintro (⟨rfl, low, high⟩ | ⟨rfl, near⟩) far
    · exact readEntry_badBank (t := .slotMap) h rfl (by simp [indexInRange]; exact ⟨low, high⟩) rfl (bankOf_above far)
    · exact readEntry_badBank (t := .reportList) h rfl (decide_eq_true (by omega)) rfl (bankOf_above far)
  · rintro e rfl near he
    exact plain (t := .header) rfl (decide_eq_true (by omega)) rfl (by simp only [readFields, he]; rfl)
  · rintro e rfl near he
    exact plain (t := .step) rfl (decide_eq_true (by omega)) rfl (by simp only [readFields, he]; rfl)
  · rintro e rfl near he
    exact plain (t := .segment) rfl (decide_eq_true (by omega)) rfl (by simp only [readFields, he]; rfl)
  · rintro e rfl near he
    exact plain (t := .markset) rfl (decide_eq_true (by omega)) rfl (by simp only [readFields, he]; rfl)
  · rintro e rfl near he
    exact plain (t := .scale) rfl (decide_eq_true (by omega)) rfl (by simp only [readFields, he]; rfl)
  · rintro c rfl hc
    have named : chanOf i = some c := by rw [← hc]; simp [chanOf]
    exact plain (t := .channelConfig) rfl (decide_eq_true (hc ▸ c.isLt)) rfl (by simp only [readFields, named]; rfl)
  · rintro p rfl hp
    have named : pointOf i = some p := by rw [← hp]; simp [pointOf]
    exact plain (t := .wallPoint) rfl (decide_eq_true (hp ▸ p.isLt)) rfl (by simp only [readFields, named]; rfl)
  · rintro rfl low high rfl
    exact banked (t := .slotMap) (b := .active) rfl (by simp [indexInRange, low, high]) rfl rfl rfl
  · rintro rfl low high rfl
    exact banked (t := .slotMap) (b := .shadow) rfl (by simp [indexInRange, low, high]) rfl rfl rfl
  · rintro e rfl near rfl he
    exact banked (t := .reportList) (b := .active) rfl (decide_eq_true (by omega)) rfl rfl
      (by simp only [readFields, Composer.bank, he]; rfl)
  · rintro e rfl near rfl he
    exact banked (t := .reportList) (b := .shadow) rfl (decide_eq_true (by omega)) rfl rfl
      (by simp only [readFields, Composer.bank, he]; rfl)
  · rintro rfl zero
    exact plain (t := .partConfig) rfl (decide_eq_true zero) rfl rfl

/-! ### READ_CHANNEL and READ_PUMP (R175) -/

theorem channelPart_above {n : Nat} (u : State) (c : Chan) (h : 5 < n) : channelPart u c n = none := by
  match n with
  | n + 6 => rfl

theorem statusPart_above {n : Nat} (u : State) (h : 1 < n) : statusPart u n = none := by
  match n with
  | n + 2 => rfl

theorem pumpOf_above {n : Nat} (h : 1 < n) : pumpOf n = none := by
  match n with
  | n + 2 => rfl

/-- R175: READ_CHANNEL answers the part that it names. -/
theorem exec_readChannel {b part : Byte} {w : Window} {s : State} {c : Chan} {fs : List Field}
    (h : Addressed 12 [b, part] w (settle s)) (hc : c.val = b.toNat)
    (hf : channelPart (passed w (settle s)) c part.toNat = some fs) :
    exec (.readChannel w) s = .next (answered w .ok fs (settle s)) := by
  refine congrArg Host.Outcome.next ((requestEvent_ofKind h (by decide) rfl).trans ?_)
  rw [onChannel_eq _ hc]
  simp only [readChannel, natAt_one, hf]
  rfl

theorem workFields_eq (x : StepWork) : workFields x = WorkReported x := by cases x <;> rfl

theorem readChannelAndPump : ReadChannelAndPump := by
  refine ⟨fun b part w s => ?_, fun b w s => ?_⟩
  · intro u done h
    have asked : exec (.readChannel w) s =
        .next (State.prepare w (onChannel readChannel [b, part] (passed w u))) :=
      congrArg Host.Outcome.next (requestEvent_ofKind h (by decide) rfl)
    refine ⟨fun bad => asked.trans ?_, fun c hc => ?_⟩
    · by_cases far : 7 < b.toNat
      · rw [onChannel_badIndex _ far]; rfl
      · rw [onChannel_eq (c := ⟨b.toNat, by omega⟩) _ rfl, readChannel, natAt_one,
          channelPart_above _ _ (bad.resolve_left far)]
        rfl
    · intro ch input
      refine ⟨?_, ?_, ?_, ?_, ?_, ?_⟩
      · rintro rfl; exact exec_readChannel h hc rfl
      · rintro rfl; exact exec_readChannel h hc rfl
      · rintro rfl; rw [← workFields_eq]; exact exec_readChannel h hc rfl
      · rintro rfl; exact exec_readChannel h hc rfl
      · rintro rfl; exact exec_readChannel h hc rfl
      · rintro rfl; exact exec_readChannel h hc rfl
  · intro u h
    have asked : exec (.readPump w) s = .next (State.prepare w (readPump [b] (passed w u))) :=
      congrArg Host.Outcome.next (requestEvent_ofKind h (by decide) rfl)
    rw [readPump, natAt_head] at asked
    refine ⟨fun far => asked.trans ?_, fun hb => asked.trans ?_, fun hb => asked.trans ?_⟩
    · rw [pumpOf_above far]; rfl
    · rw [hb]; rfl
    · rw [hb]; rfl

/-! ### READ_STATUS and READ_RECORD (R176, R177) -/

theorem record_part_above {r : Record} {n : Nat} (h : 1 + r.holds.length ≤ n) : r.part n = none := by
  simp [Record.part, show n ≠ 0 by omega]; omega

theorem readStatusAndRecord : ReadStatusAndRecord := by
  refine ⟨fun part w s => ?_, fun k w s => ?_⟩
  · intro u done h
    have asked : exec (.readStatus w) s =
        .next (State.prepare w (readPart (statusPart (passed w u) part.toNat) (passed w u))) := by
      refine congrArg Host.Outcome.next ((requestEvent_ofKind h (by decide) rfl).trans ?_)
      rw [readStatus, natAt_head]
    refine ⟨fun far => asked.trans ?_, ?_, ?_⟩
    · rw [statusPart_above _ far]; rfl
    · rintro rfl; exact asked
    · rintro rfl; exact asked
  · intro u done h
    have asked : exec (.readRecord w) s =
        .next (State.prepare w (onOldest (fun r => readPart (r.part k.toNat) (passed w u)) (passed w u))) := by
      refine congrArg Host.Outcome.next ((requestEvent_ofKind h (by decide) rfl).trans ?_)
      rw [readRecord, natAt_head]
    have queue : (passed w u).records.queue = u.records.queue := rfl
    refine ⟨fun empty => asked.trans ?_, fun r rest oldest => ?_⟩
    · simp only [onOldest, queue, empty]; rfl
    have reads : ∀ fs, r.part k.toNat = some fs → done .ok fs := fun fs hf => asked.trans (by
      simp only [onOldest, queue, oldest, hf]; rfl)
    refine ⟨?_, fun x hk hx => reads _ ?_, fun far => asked.trans ?_⟩
    · rintro rfl; exact reads _ rfl
    · have nonzero : k.toNat ≠ 0 := fun z => hk (BitVec.eq_of_toNat_eq z)
      simp [Record.part, nonzero, hx]
    · simp only [onOldest, queue, oldest, record_part_above far]; rfl

/-- Settles O45. -/
theorem readRequestsReturnState : Obligations.ReadRequestsReturnState := ⟨readChannelAndPump, readStatusAndRecord⟩

end Sys2Proof.Machine.Laws
end

section
/-! PROOFS. A request window on every row that carries one (R147, R156, R165 to R167), and the checks of its framing. -/

namespace Sys2Proof.Machine.Laws

/-! ### The request that a window carries -/

/-- R165: a window whose payload is not looked at, or is given the same answer, is taken alike. -/
theorem takeRequest_congr {act act' : List Byte → State → Answer} {w : Window}
    (h : garbledPayload w = false → lengthRight w = true → ∀ u, act (requestPayload w) u = act' (requestPayload w) u)
    (s : State) : takeRequest act w s = takeRequest act' w s := by
  have addressed : takeAddressed act w s = takeAddressed act' w s := by
    unfold takeAddressed
    split
    · rfl
    split
    · rfl
    · rename_i clean right
      rw [h (by simpa using clean) (by simpa using right) s]
  have broadcast : takeBroadcast act w s = takeBroadcast act' w s := by
    unfold takeBroadcast
    split
    · rfl
    split
    · rfl
    · rename_i clean right
      rw [h (by simpa using clean) (by simpa using right) s]
  unfold takeRequest
  rw [addressed, broadcast]

/-- R165: the payload is as long as the length field says, as far as there are slots for it. -/
theorem requestPayload_length (w : Window) : (requestPayload w).length = min 28 (requestLength w) := by
  have four : ∀ l : List Slot, (l.flatMap slotData).length = 4 * l.length := fun l => by
    induction l with
    | nil => rfl
    | cons x l ih => simp only [List.flatMap_cons, List.length_append, ih, List.length_cons, slotData]; simp; omega
  have seven : (payloadSlots w).length = 7 := rfl
  simp only [requestPayload, List.length_take, four, usedSlots, seven]
  omega

/-- R166: the third check of a request other than a LOAD_ENTRY. -/
theorem lengthRight_of_kind {w : Window} {k n : Nat} (hk : requestKind w = k) (h1 : k ≠ 1) (hn : kindLength k = some n) :
    lengthRight w = true ↔ requestLength w ≤ 28 ∧ requestLength w = n := by
  unfold lengthRight
  rw [hk, if_neg h1, hn, Bool.and_eq_true, decide_eq_true_eq, decide_eq_true_eq, Option.some.injEq, eq_comm (a := n)]

/-- R166: the third check of a LOAD_ENTRY. -/
theorem lengthRight_of_load {w : Window} (hk : requestKind w = 1) :
    lengthRight w = true ↔ requestLength w ≤ 28 ∧ loadLengthRight (requestPayload w) = true := by
  simp [lengthRight, hk]

theorem ofKind_iff (k : Nat) (w : Window) : ofKind k w = true ↔ requestKind w = k := decide_eq_true_iff

/-- R156: a row that takes a window by the kind's own answer takes it as the Management Unit does. -/
theorem requestEvent_eq {mine : Bool} {act : List Byte → State → Answer} {w : Window}
    (h : mine = true → ∀ u, takeRequest act w u = takeWindow w u) (s : State) :
    requestEvent mine act w s = ignoredEvent w s := by
  unfold requestEvent ignoredEvent
  cases mine with
  | false => simp
  | true => simp [h rfl]

theorem takeWindow_ofKind {k : Nat} {w : Window} (hk : ofKind k w = true) (known : knownKind k = true) (u : State) :
    takeRequest (requestAct k) w u = takeWindow w u := by
  have kind : requestKind w = k := (ofKind_iff k w).mp hk
  rw [← kind] at known ⊢
  exact (takeWindow_known known).symm

/-! ### Rows of one kind -/

theorem requestEvent_kind {k : Nat} (w : Window) (known : knownKind k = true) (s : State) :
    requestEvent (ofKind k w) (requestAct k) w s = ignoredEvent w s :=
  requestEvent_eq (fun hk u => takeWindow_ofKind hk known u) s

/-- R171: the LOAD_ENTRY row of a table, whose own answer is that of the table's owner. -/
theorem requestEvent_loadRow {t : Table} {act : List Byte → State → Answer} (w : Window)
    (h : ∀ bs u, tableOf (natAt bs 0 1) = some t → loadRequest bs u = act bs u) (s : State) :
    requestEvent (ofLoad t w) act w s = ignoredEvent w s := by
  refine requestEvent_eq (fun mine u => ?_) s
  simp only [ofLoad, Bool.and_eq_true, Bool.or_eq_true, decide_eq_true_eq] at mine
  obtain ⟨hk, mine⟩ := mine
  rw [← takeWindow_ofKind hk rfl]
  refine takeRequest_congr (fun clean right u => ?_) u
  have named := mine.resolve_left (by simp [clean])
  obtain ⟨-, right⟩ := (lengthRight_of_load ((ofKind_iff 1 w).mp hk)).mp right
  revert named right
  unfold loadTable
  generalize requestPayload w = bs
  intro named right
  cases bs with
  | nil => exact absurd right (by decide)
  | cons b bs =>
    have table : tableOf (natAt (b :: bs) 0 1) = some t := by
      rw [natAt_head]
      refine named.resolve_right fun none_ => ?_
      simp [loadLengthRight, natAt_head, none_] at right
    exact (h _ u table).symm

/-- R173: the SWAP_BANKS rows, each with its bank pairs. -/
theorem requestEvent_swapRow {b : BankSet} {set : State → State} (w : Window)
    (h : ∀ bs u, bankSetOf (natAt bs 0 1) = some b → swapRequest bs u = swapBanks set bs u) (s : State) :
    requestEvent (ofSwap b w) (swapBanks set) w s = ignoredEvent w s := by
  refine requestEvent_eq (fun mine u => ?_) s
  simp only [ofSwap, Bool.and_eq_true, Bool.or_eq_true, decide_eq_true_eq] at mine
  obtain ⟨hk, mine⟩ := mine
  rw [← takeWindow_ofKind hk rfl]
  refine takeRequest_congr (fun clean right u => ?_) u
  have named := mine.resolve_left (by simp [clean])
  obtain ⟨-, one⟩ := (lengthRight_of_kind ((ofKind_iff 3 w).mp hk) (by decide) rfl).mp right
  have long := requestPayload_length w
  rw [one] at long
  revert named long
  unfold payloadByte
  generalize requestPayload w = bs
  intro named long
  match bs, long with
  | b' :: bs, _ =>
    have byte : natAt (b' :: bs) 0 1 = b'.toNat := natAt_head _ _
    simp only [List.getElem?_cons_zero, Option.map_some, Option.bind_some, ← byte] at named
    rcases named with named | named
    · exact (h _ u named).symm
    · show _ = swapRequest _ u
      simp only [swapRequest, swapBanks, named, Option.isNone_none, if_true]

/-- R40: the RETARGET rows, each with its timing. -/
theorem requestEvent_retargetRow {t : Timing} {act : Segment → Profile → Profile} (w : Window)
    (h : ∀ c bs u, timingOf (natAt bs 1 1) = some t → timedRetarget c bs u = retargetRequest act c bs u) (s : State) :
    requestEvent (ofRetarget t w) (onChannel (retargetRequest act)) w s = ignoredEvent w s := by
  refine requestEvent_eq (fun mine u => ?_) s
  simp only [ofRetarget, Bool.and_eq_true, Bool.or_eq_true, decide_eq_true_eq] at mine
  obtain ⟨hk, mine⟩ := mine
  rw [← takeWindow_ofKind hk rfl]
  refine takeRequest_congr (fun clean right u => ?_) u
  have named := mine.resolve_left (by simp [clean])
  obtain ⟨-, ten⟩ := (lengthRight_of_kind ((ofKind_iff 10 w).mp hk) (by decide) rfl).mp right
  have long := requestPayload_length w
  rw [ten] at long
  revert named long
  unfold payloadByte
  generalize requestPayload w = bs
  intro named long
  match bs, long with
  | b₁ :: b₂ :: bs, _ =>
    have byte : natAt (b₁ :: b₂ :: bs) 1 1 = b₂.toNat := natAt_one _ _ _
    simp only [List.getElem?_cons_succ, List.getElem?_cons_zero, Option.map_some, Option.bind_some, ← byte] at named
    have same : ∀ c, retargetRequest act c (b₁ :: b₂ :: bs) u = timedRetarget c (b₁ :: b₂ :: bs) u := fun c => by
      rcases named with named | named
      · exact (h c _ u named).symm
      · simp only [timedRetarget, retargetRequest, named, Option.isNone_none, if_true]
    show onChannel (retargetRequest act) _ u = onChannel timedRetarget _ u
    simp only [onChannel, same]

/-- R166: UNKNOWN_REQUEST takes its window as every other row does. -/
theorem unknownEvent_eq (w : Window) (s : State) : unknownEvent w s = ignoredEvent w s := by
  unfold unknownEvent
  split
  · rename_i h
    simp only [Bool.and_eq_true, Bool.not_eq_true'] at h
    rw [ignoredEvent_window h.1, takeWindow_unknown h.2]
    rfl
  · rfl

/-- R156, log entry 2: whatever row delivers a window, the Management Unit takes the request that it carries. -/
theorem exec_windowRow {w : Window} {i : Instr} (hi : i ∈ WindowRows w) (s : State) :
    exec i s = .next (ignoredEvent w s) := by
  simp only [WindowRows, RequestRows, List.map_cons, List.map_nil, List.cons_append, List.nil_append, List.mem_cons,
    List.not_mem_nil, or_false] at hi
  rcases hi with rfl | rfl | hi
  · rfl
  · exact congrArg Host.Outcome.next (unknownEvent_eq w s)
  rcases hi with rfl | rfl | rfl | rfl | rfl | rfl | rfl | rfl | rfl | rfl | hi
  iterate 10 exact congrArg Host.Outcome.next (requestEvent_loadRow w (fun bs u ht => by simp only [loadRequest, ht]) s)
  rcases hi with rfl | rfl | rfl | rfl | hi
  · exact congrArg Host.Outcome.next (requestEvent_kind (k := 2) w rfl s)
  iterate 3 exact congrArg Host.Outcome.next (requestEvent_swapRow w (fun bs u hb => by simp only [swapRequest, hb]) s)
  rcases hi with rfl | rfl | rfl | rfl | rfl | rfl | rfl | rfl | hi
  · exact congrArg Host.Outcome.next (requestEvent_kind (k := 4) w rfl s)
  · exact congrArg Host.Outcome.next (requestEvent_kind (k := 5) w rfl s)
  · exact congrArg Host.Outcome.next (requestEvent_kind (k := 6) w rfl s)
  · exact congrArg Host.Outcome.next (requestEvent_kind (k := 7) w rfl s)
  · exact congrArg Host.Outcome.next (requestEvent_kind (k := 8) w rfl s)
  · exact congrArg Host.Outcome.next (requestEvent_kind (k := 9) w rfl s)
  · exact congrArg Host.Outcome.next (requestEvent_retargetRow w (fun c bs u ht => by simp only [timedRetarget, ht]) s)
  · exact congrArg Host.Outcome.next (requestEvent_retargetRow w (fun c bs u ht => by simp only [timedRetarget, ht]) s)
  rcases hi with rfl | rfl | rfl | rfl | rfl | rfl | rfl | rfl | rfl | rfl
  · exact congrArg Host.Outcome.next (requestEvent_kind (k := 11) w rfl s)
  · exact congrArg Host.Outcome.next (requestEvent_kind (k := 12) w rfl s)
  · exact congrArg Host.Outcome.next (requestEvent_kind (k := 13) w rfl s)
  · exact congrArg Host.Outcome.next (requestEvent_kind (k := 14) w rfl s)
  · exact congrArg Host.Outcome.next (requestEvent_kind (k := 15) w rfl s)
  · exact congrArg Host.Outcome.next (requestEvent_kind (k := 16) w rfl s)
  · exact congrArg Host.Outcome.next (requestEvent_kind (k := 17) w rfl s)
  · exact congrArg Host.Outcome.next (requestEvent_kind (k := 18) w rfl s)
  · exact congrArg Host.Outcome.next (requestEvent_kind (k := 19) w rfl s)
  · exact congrArg Host.Outcome.next (requestEvent_kind (k := 20) w rfl s)

end Sys2Proof.Machine.Laws
end

section
/-! PROOFS. Windows that meet no worked cycle, and the obligations about request windows (R147, R156, R165 to R168). -/

namespace Sys2Proof.Machine.Laws

/-! ### Syncs (R149) -/

theorem goodSync_eq_some {x : Slot} (h : GoodSync x) :
    goodSync x = some (x.b1.toNat, 256 * x.b2.toNat + x.b3.toNat) := if_pos h

theorem goodSync_eq_none {x : Slot} (h : ¬ GoodSync x) : goodSync x = none := if_neg h

/-! ### Slots that meet no worked cycle (R147, R150) -/

/-- R147, R149: a slot that nothing of the part reads passes. -/
theorem slotArrives_passes {order : List CycleWork} {x : Slot} {v : State}
    (h : v.pins.resetIn = true ∨ v.line.alignment = .hunt ∧ ¬ GoodSync x) : slotArrives order x v = v.emit x := by
  cases hr : v.pins.resetIn with
  | true => exact slotArrives_reset hr
  | false =>
    obtain ⟨hunt, bad⟩ := h.resolve_left (by simp [hr])
    rw [slotArrives_hunt hr hunt, huntExamine, goodSync_eq_none bad]

/-- R150: a slot before the sync position of a CONFIRM part is counted. -/
theorem slotArrives_counted {order : List CycleWork} {x : Slot} {v : State} (hr : v.pins.resetIn = false)
    (ha : v.line.alignment = .confirm) (hs : BeforeSync v) : slotArrives order x v = v.sendNext x := by
  rw [slotArrives_confirm hr ha, atSync_of_BeforeSync hs]
  rfl

theorem foldl_slots_pass : ∀ (xs : List Slot) {v : State}, v.due = [] →
    v.pins.resetIn = true ∨ v.line.alignment = .hunt ∧ (∀ x ∈ xs, ¬ GoodSync x) →
    xs.foldl (fun s x => slotArrives [] x (settle s)) v = { v with sent := v.sent ++ xs }
  | [], v, _, _ => by simp
  | x :: xs, v, hd, h => by
    have first : slotArrives [] x (settle v) = v.emit x := by
      rw [settle_of_nothing_due v hd]
      exact slotArrives_passes (h.imp_right fun k => ⟨k.1, k.2 x (by simp)⟩)
    rw [List.foldl_cons, first,
      foldl_slots_pass xs (v := v.emit x) hd (h.imp_right fun k => ⟨k.1, fun y hy => k.2 y (by simp [hy])⟩)]
    simp [State.emit]

theorem foldl_slots_counted {n : Nat} : ∀ (xs : List Slot) {v : State}, v.due = [] → v.pins.resetIn = false →
    v.line.alignment = .confirm → v.line.heldN = some n → v.line.slotPos + xs.length < n →
    xs.foldl (fun s x => slotArrives [] x (settle s)) v =
      { v with line := { v.line with slotPos := v.line.slotPos + xs.length }, sent := v.sent ++ xs }
  | [], v, _, _, _, _, _ => by simp
  | x :: xs, v, hd, hr, ha, hn, hp => by
    have first : slotArrives [] x (settle v) = v.sendNext x := by
      rw [settle_of_nothing_due v hd]
      refine slotArrives_counted hr ha ⟨n, hn, ?_⟩
      rw [List.length_cons] at hp; omega
    rw [List.foldl_cons, first, foldl_slots_counted xs (v := v.sendNext x) hd hr ha hn
      (by rw [List.length_cons] at hp; show v.line.slotPos + 1 + xs.length < n; omega)]
    simp [State.sendNext, State.nextPos, Nat.add_assoc, Nat.add_comm 1]

theorem worked_iff (s : State) :
    s.worked = true ↔ s.pins.resetIn = false ∧ (s.line.alignment = .locked ∨ s.line.alignment = .flywheel) := by
  simp [State.worked]

/-- R147: the eight slots of a window that meets no worked cycle. -/
theorem windowPassesUnworked_of {i : Instr} {w : Window} {s : State}
    (h : (settle s).worked = false → exec i s = .next (looseSlots w s)) : WindowPassesUnworked i w s := by
  unfold WindowPassesUnworked
  intro u
  have passes : u.pins.resetIn = true ∨ u.line.alignment = .hunt ∧ (∀ x ∈ w.slots, ¬ GoodSync x) →
      exec i s = .next { u with sent := w.slots } := fun k => by
    have unworked : u.worked = false := by
      rw [Bool.eq_false_iff, ne_eq, worked_iff]
      rintro ⟨hr, ha⟩
      rcases k with k | ⟨k, -⟩
      · simp [hr] at k
      · simp [k] at ha
    rw [h unworked, looseSlots, foldl_slots_pass (v := s.listening) w.slots (settle_due s) k]
    rfl
  refine ⟨fun k => passes (.inl k), fun a b => passes (.inr ⟨a, b⟩), fun n hr ha hn hp => ?_⟩
  have unworked : u.worked = false := by
    rw [Bool.eq_false_iff, ne_eq, worked_iff]
    rintro ⟨-, k⟩
    simp [ha] at k
  rw [h unworked, looseSlots, foldl_slots_counted (v := s.listening) w.slots (settle_due s) hr ha hn hp]
  rfl

/-! ### Request windows (R156, R165) -/

theorem atRequestWindow_iff (s : State) : s.atRequestWindow = true ↔ s.worked = true ∧ s.line.slotPos = 0 := by
  simp [State.atRequestWindow]

/-- R165: what the part makes of an ignored window. -/
theorem taking_ignored {w : Window} {u : State} (h : Ignored w u) : (passed w u).taking w = .ignored := by
  have held : (passed w u).mgmt = u.mgmt := rfl
  unfold State.taking State.addressedPart
  rw [held]
  rcases h with h | h | ⟨h63, h7, h8⟩ | ⟨h63, h⟩
  · simp [h]
  · simp [h]
  · have other : ¬ (requestKind w = freezeKind ∨ requestKind w = resumeKind) := not_or.mpr ⟨h7, h8⟩
    simp [h63, other]
  · have other : ¬ (((1 ≤ u.mgmt.address ∧ u.mgmt.address ≤ 62)) ∧ requestDestination w = u.mgmt.address) := by omega
    simp only [h63, if_false]
    split
    · rfl
    · rw [if_neg (by simpa using other)]

/-- Settles O32: every row does with a window what the row of an ignored request does. -/
theorem requestWindowIsHandedOver : Obligations.RequestWindowIsHandedOver := by
  have handed : ∀ (w : Window) (i : Instr) (s : State), i ∈ WindowRows w → (settle s).worked = true →
      (settle s).line.slotPos = 0 → exec i s = .next (takeWindow w (passed w (settle s))) := fun w i s hi hw hp => by
    rw [exec_windowRow hi, ignoredEvent_window ((atRequestWindow_iff _).mpr ⟨hw, hp⟩)]
  refine ⟨fun w i s hi => ?_, fun w i s hi => ?_⟩
  · intro u
    refine ⟨fun hw hp ignored => ?_, windowPassesUnworked_of fun unworked => ?_⟩
    · rw [handed w i s hi hw hp, takeWindow_ignored (taking_ignored ignored)]
      rfl
    · have elsewhere : (settle s).atRequestWindow = false := by simp [State.atRequestWindow, unworked]
      rw [exec_windowRow hi, ignoredEvent, elsewhere]
      rfl
  · intro u
    exact ⟨by rw [exec_windowRow hi, exec_windowRow (w := w) (i := .ignoredRequest w) (by simp [WindowRows])], handed w i s hi⟩

/-! ### The framing checks (R166, R197) -/

theorem garbledPayload_iff (w : Window) : garbledPayload w = true ↔ ∃ x ∈ usedSlots w, slotGood x = false := by
  simp [garbledPayload]

theorem kindCalls_eq {k n : Nat} (h : KindCalls k = some n) : k ≠ 1 ∧ kindLength k = some n ∧ n ≤ 28 := by
  unfold KindCalls at h
  split at h <;> cases h <;> exact ⟨by decide, rfl, by decide⟩

/-- R197: the length that a table and the entry's first byte call for. -/
theorem entryCalls_eq {t : Table} {k n : Nat} {kind : Byte} (ht : tableOf k = some t)
    (h : EntryCalls k (some kind) = some n) : entryLength t kind.toNat = some n := by
  have step : ∀ j, ([7, 16, 10, 15, 12, 12, 8, 4, 3] : List Nat)[j]? = some n → stepLength j = some n := fun j hj => by
    match j with
    | 0 | 1 | 2 | 3 | 4 | 5 | 6 | 7 | 8 => exact hj
    | j + 9 => simp at hj
  have slot : ∀ j, ([1, 4, 2, 1] : List Nat)[j]? = some n → slotEntryLength j = some n := fun j hj => by
    match j with
    | 0 | 1 | 2 | 3 => exact hj
    | j + 4 => simp at hj
  match k, ht with
  | 0, rfl | 2, rfl | 3, rfl | 4, rfl | 5, rfl | 6, rfl | 8, rfl | 9, rfl => exact h
  | 1, rfl => exact step _ h
  | 7, rfl => exact slot _ h

section
variable {w : Window} {s : State}

/-- R166: an addressed window with a bad check in a used slot. -/
theorem takeRequest_garbled {act : List Byte → State → Answer} (h : (passed w s).taking w = .addressed)
    (garbled : garbledPayload w = true) : takeRequest act w (passed w s) =
      answered w .garbled [] { s with mgmt := { s.mgmt with latched := { s.mgmt.latched with mgmtGarbled := true } } } := by
  simp only [takeRequest, h, takeAddressed, garbled, if_true]
  rfl

/-- R166: an addressed window of the wrong length. -/
theorem takeRequest_badLength {act : List Byte → State → Answer} (h : (passed w s).taking w = .addressed)
    (clean : garbledPayload w = false) (wrong : lengthRight w = false) :
    takeRequest act w (passed w s) = answered w .badValue [] s := by
  simp only [takeRequest, h, takeAddressed, clean, wrong, Bool.false_eq_true, if_false, Bool.not_false, if_true]
  rfl

end

/-- R166: why the length of a LOAD_ENTRY is not right. -/
theorem lengthRight_load_false {w : Window} (hk : requestKind w = 1)
    (h : requestLength w ≤ 28 → loadLengthRight (requestPayload w) = false) : lengthRight w = false := by
  rw [Bool.eq_false_iff, ne_eq, lengthRight_of_load hk]
  rintro ⟨short, right⟩
  simp [h short] at right

/-- The rows of the table of kinds carry the window. -/
theorem mem_windowRows {w : Window} {i : Instr} {k : Nat} {chosen : Option (Nat × Byte)}
    (h : (i, k, chosen) ∈ RequestRows w) : i ∈ WindowRows w :=
  List.mem_append_right _ (List.mem_map.mpr ⟨_, h, rfl⟩)

theorem knownKind_of_row {w : Window} {i : Instr} {k : Nat} {chosen : Option (Nat × Byte)}
    (h : (i, k, chosen) ∈ RequestRows w) : knownKind k = true := by
  have all : ∀ e ∈ RequestRows w, knownKind e.2.1 = true := by simp [RequestRows, knownKind]
  exact all _ h

theorem exists_cons_of_first {b : Byte} : ∀ {l : List Byte}, l[0]? = some b → ∃ t, l = b :: t
  | _ :: t, h => ⟨t, by cases h; rfl⟩

theorem loadLengthRight_short {bs : List Byte} (h : bs.length < 3) : loadLengthRight bs = false := by
  unfold loadLengthRight
  cases tableOf (natAt bs 0 1) with
  | none => rfl
  | some t =>
    simp only
    rw [if_neg (by omega), if_pos h]

/-- R166, R197: a LOAD_ENTRY that is neither EMPTY nor as long as its entry. -/
theorem loadLengthRight_wrong {b : Byte} {bs : List Byte} {n : Nat} (hn : EntryCalls b.toNat (b :: bs)[3]? = some n)
    (not3 : (b :: bs).length ≠ 3) (wrong : (b :: bs).length ≠ 3 + n) : loadLengthRight (b :: bs) = false := by
  by_cases short : (b :: bs).length < 3
  · exact loadLengthRight_short short
  match bs, hn, not3, wrong, short with
  | [], _, _, _, short | [_], _, _, _, short => simp at short
  | [_, _], _, not3, _, _ => simp at not3
  | b₁ :: b₂ :: kind :: bs, hn, not3, wrong, _ =>
    have byte : natAt (b :: b₁ :: b₂ :: kind :: bs) 3 1 = kind.toNat := by simp [natAt, bytesNat]
    unfold loadLengthRight
    rw [natAt_head]
    cases ht : tableOf b.toNat with
    | none => rfl
    | some t =>
      simp only [byte, entryCalls_eq ht hn]
      rw [if_neg not3, if_neg (by simp)]
      exact decide_eq_false wrong

/-- Settles O33, by the window's being taken alike on every row. -/
theorem garbledAndUnknownAreRefused : Obligations.GarbledAndUnknownAreRefused := by
  intro w s u hw hp pending low high good dest noticed clean garbled bad
  have taken : ∀ i, i ∈ WindowRows w → exec i s = .next (takeWindow w (passed w u)) := fun i hi => by
    rw [exec_windowRow hi, ignoredEvent_window ((atRequestWindow_iff _).mpr ⟨hw, hp⟩)]
  have addressed : (passed w u).taking w = .addressed := by
    have not63 : u.mgmt.address ≠ 63 := by omega
    simp [State.taking, State.addressedPart, passed, pending, low, high, good, dest, not63]
  have unknown : ¬ (1 ≤ requestKind w ∧ requestKind w ≤ 20) → knownKind (requestKind w) = false := fun h => by
    simpa [knownKind] using h
  have isClean : clean → garbledPayload w = false := fun h => by
    rw [Bool.eq_false_iff, ne_eq, garbledPayload_iff]
    rintro ⟨x, hx, bad⟩
    simp [h x hx] at bad
  have row : Instr.unknownRequest w ∈ WindowRows w := by simp [WindowRows]
  refine ⟨fun h k => ?_, fun h k => ?_, fun i k chosen hi hk => ?_⟩
  · rw [taken _ row, takeWindow_unknown (unknown h), takeUnknown, addressed]
    simp only [isClean k, Bool.false_eq_true, if_false]
    rfl
  · rw [taken _ row, takeWindow_unknown (unknown h), takeUnknown, addressed]
    simp only [(garbledPayload_iff w).mpr k, if_true]
    rfl
  have known : knownKind (requestKind w) = true := hk ▸ knownKind_of_row hi
  refine ⟨fun g => ?_, fun g => ?_⟩
  · rw [taken i (mem_windowRows hi), takeWindow_known known,
      takeRequest_garbled addressed ((garbledPayload_iff w).mpr g)]
  have refused : lengthRight w = false → bad i := fun wrong => by
    show exec i s = _
    rw [taken i (mem_windowRows hi), takeWindow_known known, takeRequest_badLength addressed (isClean g) wrong]
  have payload := requestPayload_length w
  refine ⟨fun n hn wrong _ => refused ?_, fun h1 zero => refused ?_, fun b h1 hb far => refused ?_,
    fun b _ h1 hb => ⟨fun short => refused ?_, fun n hn not3 wrong => refused ?_⟩⟩
  · obtain ⟨h1, hl, -⟩ := kindCalls_eq hn
    rw [Bool.eq_false_iff, ne_eq, lengthRight_of_kind hk h1 hl]
    exact fun h => wrong h.2
  · refine lengthRight_load_false (hk.trans h1) fun _ => ?_
    rw [zero] at payload
    rw [List.length_eq_zero_iff.mp payload]
    rfl
  all_goals
    obtain ⟨bs, hbs⟩ := exists_cons_of_first hb
    refine lengthRight_load_false (hk.trans h1) fun fits => ?_
    rw [hbs] at payload ⊢
  · simp [loadLengthRight, natAt_head, tableOf_above far]
  · exact loadLengthRight_short (by omega)
  · rw [hbs] at hn
    exact loadLengthRight_wrong hn (by omega) (by omega)

end Sys2Proof.Machine.Laws
end

section
/-! PROOFS. The line is lost (R152, R153, R169), and the slots that pass by position (R147, R150, R156 to R158). -/

namespace Sys2Proof.Machine.Laws

/-! ### The fall to HUNT (R127, R152, R153, R169) -/

theorem endsReset_iff (s : State) (r : Option Reply) :
    s.endsReset r = true ↔ s.mgmt.resetPending = true ∧ ∃ x, r = some x ∧ x.kind = 20#8 ∧ x.status = .ok := by
  cases r with
  | none => simp [State.endsReset]
  | some x => simp [State.endsReset, Reply.ofReset, show resetPartKind = 20#8 from rfl]

/-- R169: what is left when both replies are dropped. -/
theorem dropReplies_keeps (s : State) : dropReplies s =
    { s with
      mgmt := { s.mgmt with prepared := none, owed := none, replyWritten := false, window := [] }
      due := (dropReplies s).due } := by
  unfold dropReplies
  dsimp only
  split <;> rfl

theorem dropReplies_due (s : State) :
    (s.endsReset s.mgmt.prepared = true ∨ s.endsReset s.mgmt.owed = true →
      (dropReplies s).due = s.due ++ [CycleWork.deviceReset]) ∧
    (¬ (s.endsReset s.mgmt.prepared = true ∨ s.endsReset s.mgmt.owed = true) → (dropReplies s).due = s.due) := by
  rw [← Bool.or_eq_true]
  constructor <;> intro h <;> unfold dropReplies <;> dsimp only
  · rw [if_pos h]; rfl
  · rw [if_neg h]; rfl

/-- R17: a cause that reaches the channels of a part reaches those of one with the same channels. -/
theorem causeReaches_congr {k : FreezeCause} {q : Chan → Prop} {s s' t t' : State} (h : CauseReaches k q s t)
    (hs : s'.chans = s.chans) (ht : t'.chans = t.chans) : CauseReaches k q s' t' := by
  intro c
  have hc : s'.chan c = s.chan c := by simp only [State.chan, hs]
  have kc : t'.chan c = t.chan c := by simp only [State.chan, ht]
  rw [hc, kc]
  exact h c

/-- R127, R152, R153, R169: what a fall to HUNT does, and what it keeps of the line. -/
theorem fallToHunt_falls (s : State) : FallsToHunt s (fallToHunt s) ∧ (fallToHunt s).line.misses = s.line.misses ∧
    (fallToHunt s).sent = s.sent := by
  have shown : fallToHunt s = dropReplies (addCauseToAll .lineLost
      ((s.updLine fun l => { l with alignment := .hunt }).updLatched fun l => { l with lineLost := true })) := rfl
  obtain ⟨reach, keeps, mgmt⟩ := addCauseToAll_spec .lineLost
    ((s.updLine fun l => { l with alignment := .hunt }).updLatched fun l => { l with lineLost := true })
  generalize addCauseToAll .lineLost
    ((s.updLine fun l => { l with alignment := .hunt }).updLatched fun l => { l with lineLost := true }) = u at *
  obtain ⟨hline, hstore, hscales, hinputs, hwalls, hrecords, hreports, hpins, hdue, hsent, -⟩ := keeps
  have hmgmt : u.mgmt = { s.mgmt with latched := { s.mgmt.latched with lineLost := true } } := mgmt (by decide)
  obtain ⟨due, due'⟩ := dropReplies_due u
  rw [← shown] at due due'
  have kept : fallToHunt s = _ := shown.trans (dropReplies_keeps u)
  have ends : ∀ r, u.endsReset r = true ↔
      s.mgmt.resetPending = true ∧ ∃ x, r = some x ∧ x.kind = 20#8 ∧ x.status = .ok := fun r => by
    rw [endsReset_iff, hmgmt]
  have line : (fallToHunt s).line = { s.line with alignment := .hunt } := by rw [kept]; exact hline
  have chans : (fallToHunt s).chans = u.chans := by rw [kept]
  have mgmt' : (fallToHunt s).mgmt = { s.mgmt with
      latched := { s.mgmt.latched with lineLost := true }, prepared := none, owed := none, replyWritten := false
      window := [] } := by rw [kept, hmgmt]
  refine ⟨⟨by rw [line], by rw [line], by rw [line], by rw [line], by rw [line], by rw [line], by rw [mgmt'],
    by rw [mgmt'], by rw [mgmt'], by rw [mgmt'], by rw [mgmt'], by rw [mgmt'], causeReaches_congr reach rfl chans,
    by rw [kept]; exact hstore, by rw [kept]; exact hscales, by rw [kept]; exact hinputs, by rw [kept]; exact hwalls,
    by rw [kept]; exact hrecords, by rw [kept]; exact hreports, by rw [kept]; exact hpins, ?_⟩, by rw [line],
    by rw [kept]; exact hsent⟩
  have dropped : u.endsReset u.mgmt.prepared = true ∨ u.endsReset u.mgmt.owed = true ↔ s.mgmt.resetPending = true ∧
      ((∃ r, s.mgmt.prepared = some r ∧ r.kind = 20#8 ∧ r.status = .ok) ∨
        ∃ r, s.mgmt.owed = some r ∧ r.kind = 20#8 ∧ r.status = .ok) := by
    rw [ends, ends, hmgmt, and_or_left]
  rw [dropped] at due due'
  exact ⟨fun h => (due h).trans (by rw [hdue]; rfl), fun h => (due' h).trans (by rw [hdue]; rfl)⟩

theorem fallsToHunt_congr {s s' t : State} (h : FallsToHunt s t)
    (hs : s' = { s with line := s'.line, sent := s'.sent })
    (hl : s.line = { s'.line with alignment := s.line.alignment, misses := s.line.misses }) : FallsToHunt s' t := by
  rw [hs]
  unfold FallsToHunt at *
  obtain ⟨h1, h2, h3, h4, h5, h6, h7, h8, h9, h10, h11, h12, h13, h14⟩ := h
  exact ⟨h1, h2.trans (by rw [hl]), h3.trans (by rw [hl]), h4.trans (by rw [hl]), h5.trans (by rw [hl]),
    h6.trans (by rw [hl]), h7, h8, h9, h10, h11, h12, causeReaches_congr h13 rfl rfl, h14⟩

/-! ### Syncs at the sync position (R150 to R152) -/

/-- R151, R152: the sync taken is the good sync of the N held. -/
theorem syncTaken_iff (s : State) (x : Slot) (n : Nat) : s.syncTaken x = some n ↔ SyncOf s x n := by
  unfold State.syncTaken SyncOf
  by_cases h : GoodSync x
  · rw [goodSync_eq_some h]
    obtain ⟨h1, h2, h3, h4⟩ := h
    simp only
    split
    · rename_i held; simp [h1, h2, held, h3, h4, eq_comm]
    · rename_i held; simp [held]
  · rw [goodSync_eq_none h]
    simp only [reduceCtorEq, false_iff]
    rintro ⟨h1, h2, -, h3, h4, -⟩
    exact h ⟨h1, h2, h3, h4⟩

theorem syncTaken_eq_none {s : State} {x : Slot} (h : ∀ n, ¬ SyncOf s x n) : s.syncTaken x = none :=
  Option.eq_none_iff_forall_ne_some.mpr fun n k => h n ((syncTaken_iff s x n).mp k)

/-- R152: a miss that reaches the flywheel limit. -/
theorem judgeMiss_ends {n : Nat} {order : List CycleWork} {s : State} (h : s.mgmt.config.flywheel ≤ n) :
    judgeMiss n order s = fallToHunt (s.updLine fun l => { l with alignment := .flywheel, misses := n }) := by
  unfold judgeMiss
  exact if_neg (Nat.not_lt.mpr h)

/-- R152: a miss below the flywheel limit. -/
theorem judgeMiss_below {n : Nat} {order : List CycleWork} {s : State} (h : n < s.mgmt.config.flywheel) :
    judgeMiss n order s = cycleStart order (s.updLine fun l => { l with alignment := .flywheel, misses := n }) := by
  unfold judgeMiss
  exact if_pos h

theorem fallsToHunt_judgeMiss {n : Nat} {order : List CycleWork} {x : Slot} {u : State}
    (h : u.mgmt.config.flywheel ≤ n) :
    FallsToHunt u (judgeMiss n order ((u.passSlots []).emit x)) ∧
      (judgeMiss n order ((u.passSlots []).emit x)).sent = [x] ∧
      (judgeMiss n order ((u.passSlots []).emit x)).line.misses = n := by
  rw [judgeMiss_ends (s := (u.passSlots []).emit x) h]
  obtain ⟨falls, misses, sent⟩ := fallToHunt_falls
    (((u.passSlots []).emit x).updLine fun l => { l with alignment := .flywheel, misses := n })
  exact ⟨fallsToHunt_congr falls rfl rfl, sent, misses⟩

/-- R151, R152: anything but a sync at the sync position of a worked part is a miss. -/
theorem slotArrives_missed {order : List CycleWork} {x : Slot} {v : State} (hw : v.worked = true)
    (sync : v.atSync = true) (missed : v.syncTaken x = none) :
    slotArrives order x v = judgeMiss v.line.nextMiss order (v.emit x) := by
  have missed' : (v.emit x).syncTaken x = none := missed
  rw [slotArrives_sync hw sync]
  by_cases ha : v.line.alignment = .locked
  · rw [if_pos ha, lockedExamine, missed', LinePort.nextMiss, if_pos ha]
  · rw [if_neg ha, flywheelExamine, missed', LinePort.nextMiss, if_neg ha]
    rfl

/-! ### The line is lost -/

theorem finishCycleStart_of_reset {s : State} (h : ∀ w ∈ s.due, w = .deviceReset) : finishCycleStart s = s := by
  have undue : ∀ v ∈ cycleStartWork, v ∉ s.due := fun v hv k =>
    deviceReset_not_mem_cycleStartWork (h v k ▸ hv)
  have all : s.due.filter (· = .deviceReset) = s.due := List.filter_eq_self.mpr fun w hw => by simpa using h w hw
  unfold finishCycleStart
  split
  · rfl
  · rw [foldl_takeWork_of_not_due _ undue, all]

theorem lossOfSignalFallsToHunt : LossOfSignalFallsToHunt := by
  intro s u h
  have met : finishCycleStart s = u := by
    rcases h with ⟨none_, rfl⟩ | ⟨all, rfl⟩
    · exact (if_neg none_).symm
    · exact finishCycleStart_of_reset all
  have lost : exec .lossOfSignal s = .next (loseSignal u) := congrArg (Host.Outcome.next ∘ loseSignal) met
  refine ⟨fun hw => ⟨fallToHunt u, ?_, (fallToHunt_falls u).1⟩, fun hw => ?_⟩
  · rw [lost, loseSignal, if_pos hw]
  · rw [lost, loseSignal, if_neg (by simp [hw])]
    rfl

/-- Settles O7. -/
theorem lossOfLineFallsToHunt : Obligations.LossOfLineFallsToHunt := by
  refine ⟨lossOfSignalFallsToHunt, fun x s hw at_ none_ locked flying => ?_⟩
  have missed : (settle s).syncTaken x = none := syncTaken_eq_none none_
  have sync : (settle s).atSync = true := atSync_of_AtSync at_
  obtain ⟨hr, ha⟩ := (worked_iff _).mp hw
  have limit : (settle s).mgmt.config.flywheel ≤ (settle s).line.nextMiss := by
    unfold LinePort.nextMiss
    rcases ha with ha | ha
    · rw [if_pos ha]; exact locked ha
    · rw [if_neg (by simp [ha])]; exact flying ha
  have ends : flywheelEnds x (settle s) = true := by simp [flywheelEnds, hw, sync, missed, limit]
  have slot : slotEvent [] x s = judgeMiss (settle s).line.nextMiss [] (((settle s).passSlots []).emit x) :=
    slotArrives_missed (v := (settle s).passSlots []) hw sync missed
  obtain ⟨falls, sent, -⟩ := fallsToHunt_judgeMiss (order := []) (x := x) limit
  refine ⟨_, ?_, sent, falls⟩
  rw [← slot]
  exact congrArg Host.Outcome.next (if_pos ends)

end Sys2Proof.Machine.Laws
end

section
/-! PROOFS. The reply window (R157, R168, R180), slots by position, and a part that works no cycle (R117, R127, R154). -/

namespace Sys2Proof.Machine.Laws

/-! ### A slot by itself (R147, R156 to R158) -/

/-- R148, log entry 2: whatever row delivers the slot that comes next, it arrives. -/
theorem exec_slotRow {pos : Nat} {x : Slot} {i : Instr} {s : State} (hp : pos = (settle s).line.slotPos + 1)
    (hi : i ∈ SlotRows pos x) : exec i s = .next (slotArrives [] x ((settle s).passSlots [])) := by
  have arrives : slotOutcome pos (fun _ _ => true) x s = slotEvent [] x s := by
    simp [slotOutcome, State.arrivesAt, State.nextPos, hp]
  simp only [SlotRows, List.mem_cons, List.not_mem_nil, or_false] at hi
  rcases hi with rfl | rfl | rfl | rfl | rfl | rfl | rfl | rfl | rfl
  iterate 4 rfl
  iterate 5 exact congrArg Host.Outcome.next arrives

/-- R156, R157: a slot of the request or reply window of a worked cycle. -/
theorem slotArrives_window {order : List CycleWork} {x : Slot} {v : State} (hw : v.worked = true) (hs : BeforeSync v)
    (hp : v.line.slotPos + 1 < 17) :
    slotArrives order x v = if 9 ≤ v.nextPos then replySlot x v else requestSlot x v := by
  have unmapped : v.nextEntry = none := if_neg (by simp [State.nextPos]; omega)
  rw [slotArrives_work hw (atSync_of_BeforeSync hs), workSlot, unmapped]

/-- R148: a row that names another position than the one that comes next is not met. -/
theorem slotOutcome_elsewhere {pos : Nat} {q : Slot → State → Bool} {x : Slot} {s : State}
    (hr : (settle s).pins.resetIn = false) (ha : (settle s).line.alignment ≠ .hunt)
    (hp : pos ≠ (settle s).line.slotPos + 1) : slotOutcome pos q x s = s := by
  simp [slotOutcome, State.arrivesAt, State.nextPos, hr, ha, hp]

theorem positionsAreCounted : PositionsAreCounted := by
  refine ⟨fun x i s => ?_, fun pos x i s => ?_⟩
  · intro u pos passed hi
    have arrives : exec i s = .next (slotArrives [] x (u.passSlots [])) := exec_slotRow rfl hi
    refine ⟨?_, fun hr => arrives.trans ?_, fun hr ha hs => arrives.trans ?_, fun hw hs hp => arrives.trans ?_,
      fun w hw hs hp hx => arrives.trans ?_, fun hw hs h9 h16 none_ => arrives.trans ?_, fun at_ => arrives.trans ?_⟩
    · rw [arrives, exec_slotRow (i := .huntSlot x) (x := x) rfl (by simp [SlotRows])]
    · rw [slotArrives_reset (s := u.passSlots []) hr]; rfl
    · rw [slotArrives_counted (v := u.passSlots []) hr ha hs]; rfl
    · have before : (u.passSlots []).nextPos < 8 := hp
      rw [slotArrives_window (v := u.passSlots []) hw hs (by show pos < 17; omega), if_neg (by omega), requestSlot_before before]
      rfl
    · have last : (u.passSlots []).nextPos = 8 := hp
      rw [slotArrives_window (v := u.passSlots []) hw hs (by show pos < 17; omega), if_neg (by omega), requestSlot_last (s := u.passSlots []) (by omega) hx]
      rfl
    · have reply : 9 ≤ (u.passSlots []).nextPos := h9
      have unowed : (u.passSlots []).mgmt.owed = none := none_
      rw [slotArrives_window (v := u.passSlots []) hw hs (by show pos < 17; omega), if_pos reply, replySlot, unowed]
      rfl
    · obtain ⟨entry, -⟩ := nextEntry_of_SlotAt (s := u.passSlots []) at_
      rw [slotArrives_entry entry]
      rfl
  · intro u hr ha hp hi
    have absent : ∀ q, slotOutcome pos q x s = s := fun q => slotOutcome_elsewhere hr ha hp
    simp only [List.mem_cons, List.not_mem_nil, or_false] at hi
    rcases hi with rfl | rfl | rfl | rfl | rfl | rfl | rfl | rfl | rfl | rfl | rfl
    all_goals exact congrArg Host.Outcome.next (absent _)

/-! ### The reply window (R157, R168, R180) -/

theorem writeReply_owed {w : Window} {u : State} {r : Reply} (h : u.mgmt.owed = some r) : writeReply w u =
    { u with
      line := { u.line with slotPos := 16 }, mgmt := { u.mgmt with replyWritten := true }, sent := r.window.slots } := by
  unfold writeReply
  dsimp only
  split <;> rename_i owed
  · cases h.symm.trans owed; rfl
  · cases h.symm.trans owed

theorem writeReply_unowed {w : Window} {u : State} (h : u.mgmt.owed = none) :
    writeReply w u = { u with line := { u.line with slotPos := 16 }, sent := w.slots } := by
  unfold writeReply
  dsimp only
  split <;> rename_i owed
  · cases h.symm.trans owed
  · rfl

theorem replyWindowWritten : ReplyWindowWritten := by
  refine ⟨fun w s hw hp => ?_, fun w s => windowPassesUnworked_of fun unworked => ?_, fun r s hw hr hp ho => ?_⟩
  · have here : (settle s).atReplyWindow = true := by simp [State.atReplyWindow, hw, hp]
    have written : exec (.replyWindow w) s = .next (writeReply w (settle s)) := congrArg Host.Outcome.next (if_pos here)
    intro u
    refine ⟨fun r ho => written.trans ?_, fun ho => written.trans ?_⟩
    · rw [writeReply_owed ho]
    · rw [writeReply_unowed ho]
  · exact congrArg Host.Outcome.next (if_neg (by simp [State.atReplyWindow, unworked]))
  · intro u gone
    have left : exec .replyLeft s = .next (if u.endsReset (some r) then gone.resetDue else gone) := by
      refine congrArg Host.Outcome.next ?_
      unfold replyGone
      rw [if_pos ⟨hw, hr, hp⟩, ho]
      rfl
    refine ⟨fun pending kind ok => left.trans ?_, fun not_ => left.trans ?_⟩
    · rw [if_pos ((endsReset_iff u _).mpr ⟨pending, r, rfl, kind, ok⟩)]
      rfl
    · rw [if_neg]
      rw [endsReset_iff]
      rintro ⟨pending, r', same, kind, ok⟩
      cases same
      rcases not_ with h | h | h
      · simp [h] at pending
      · exact h kind
      · exact h ok

theorem replySlotsWritten : ReplySlotsWritten := by
  intro x i r s u pos sends hi hw hs ho
  have arrives : exec i s = .next (slotArrives [] x (u.passSlots [])) := exec_slotRow rfl hi
  have owed : (u.passSlots []).mgmt.owed = some r := ho
  have next : (u.passSlots []).nextPos = pos := rfl
  have reply : 9 ≤ pos → pos ≤ 16 → exec i s = .next (replySlot x (u.passSlots [])) := fun h9 h16 => by
    rw [arrives, slotArrives_window (v := u.passSlots []) hw hs (by show pos < 17; omega), if_pos (by rw [next]; exact h9)]
  refine ⟨fun h9 => ?_, fun out h10 h16 hr hx => ?_, fun h10 h16 hr => ?_⟩
  · rw [reply (by omega) (by omega), replySlot, owed]
    simp only [next, h9, if_true]
    rfl
  · have written : (u.passSlots []).mgmt.replyWritten = true := hr
    have carried : r.window.slots.getD (pos - 9) x = out := by simp [hx]
    rw [reply (by omega) h16, replySlot, owed]
    simp only [next, show pos ≠ 9 by omega, if_false, written, if_true, carried]
    rw [← hr]
    rfl
  · have unwritten : (u.passSlots []).mgmt.replyWritten = false := hr
    rw [reply (by omega) h16, replySlot, owed]
    simp only [next, show pos ≠ 9 by omega, if_false, unwritten, Bool.false_eq_true]
    rw [← hr]
    rfl

/-- Settles O23. -/
theorem replyWindowWritesOwedReply : Obligations.ReplyWindowWritesOwedReply := ⟨replyWindowWritten, replySlotsWritten⟩

/-! ### A part that works no cycle -/

/-- R117, R127, R154: nothing of the part has aged, counted or been written. -/
def Still (s t : State) : Prop :=
  t.inputs = s.inputs ∧ t.walls = s.walls ∧ t.line.count = s.line.count ∧ t.line.active = s.line.active ∧
    t.line.shadow = s.line.shadow ∧ t.store = s.store ∧ t.scales = s.scales ∧ t.records = s.records ∧
    t.reports = s.reports ∧ t.mgmt.config = s.mgmt.config ∧ t.due = s.due ∧
    ∀ c, (t.chan c).profile = (s.chan c).profile ∧ (t.chan c).record = (s.chan c).record ∧
      (t.chan c).jack = (s.chan c).jack ∧ ClaimMoved (s.chan c).work (t.chan c).work

theorem Still.refl (s : State) : Still s s :=
  ⟨rfl, rfl, rfl, rfl, rfl, rfl, rfl, rfl, rfl, rfl, rfl, fun _ => ⟨rfl, rfl, rfl, .inl rfl⟩⟩

theorem Still.of_chans {s t u : State} (h : Still s t) (ht : u = { t with line := u.line, sent := u.sent })
    (hc : u.line.count = t.line.count) (ha : u.line.active = t.line.active) (hs : u.line.shadow = t.line.shadow) :
    Still s u := by
  obtain ⟨h1, h2, h3, h4, h5, h6, h7, h8, h9, h10, h11, h12⟩ := h
  rw [ht]
  exact ⟨h1, h2, hc.trans h3, ha.trans h4, hs.trans h5, h6, h7, h8, h9, h10, h11, h12⟩

/-- R149, R150: in HUNT, or in CONFIRM with at least `k` positions before the sync position. -/
def Clear (k : Nat) (s : State) : Prop :=
  s.line.alignment = .hunt ∨ (s.line.alignment = .confirm ∧ ∃ n, s.line.heldN = some n ∧ s.line.slotPos + k < n)

theorem clear_not_worked {k : Nat} {s : State} (h : Clear k s) : s.worked = false := by
  rw [Bool.eq_false_iff, ne_eq, worked_iff]
  rintro ⟨-, ha⟩
  rcases h with h | ⟨h, -⟩ <;> simp [h] at ha

/-- R147 to R150: a slot meets a part that works no cycle, and leaves it so. -/
theorem slotArrives_clear {k : Nat} {order : List CycleWork} {x : Slot} {s t : State} (hk : k < 32) (h : Still s t)
    (clear : Clear (k + 1) t) : Still s (slotArrives order x t) ∧ Clear k (slotArrives order x t) := by
  have emitted : Still s (t.emit x) := h.of_chans rfl rfl rfl rfl
  have less : Clear k t := clear.imp_right fun ⟨ha, n, hn, hp⟩ => ⟨ha, n, hn, by omega⟩
  cases hr : t.pins.resetIn with
  | true => rw [slotArrives_reset hr]; exact ⟨emitted, less⟩
  | false =>
    rcases clear with ha | ⟨ha, n, hn, hp⟩
    · rw [slotArrives_hunt hr ha]
      by_cases good : GoodSync x
      · rw [huntExamine, goodSync_eq_some good]
        refine ⟨emitted.of_chans rfl rfl rfl rfl, .inr ⟨rfl, x.b1.toNat, rfl, ?_⟩⟩
        have := good.2.2.1
        show 0 + k < _
        omega
      · rw [huntExamine, goodSync_eq_none good]
        exact ⟨emitted, less⟩
    · rw [slotArrives_counted hr ha ⟨n, hn, by omega⟩]
      exact ⟨h.of_chans rfl rfl rfl rfl, .inr ⟨ha, n, hn, by show t.line.slotPos + 1 + k < n; omega⟩⟩

theorem foldl_slots_still {s : State} (hd : s.due = []) : ∀ (xs : List Slot) {t : State}, xs.length ≤ 32 → Still s t →
    Clear xs.length t → Still s (xs.foldl (fun s x => slotArrives [] x (settle s)) t)
  | [], _, _, h, _ => h
  | x :: xs, t, hl, h, clear => by
    have quiet : settle t = t := settle_of_nothing_due t (by
      obtain ⟨-, -, -, -, -, -, -, -, -, -, due, -⟩ := h
      exact due.trans hd)
    rw [List.length_cons] at hl clear
    obtain ⟨h', clear'⟩ := slotArrives_clear (order := []) (x := x) hl h clear
    rw [List.foldl_cons, quiet]
    exact foldl_slots_still hd xs (by omega) h' clear'

section
variable {s : State}

theorem still_looseSlots (hd : s.due = []) (clear : Clear 8 s) (w : Window) : Still s (looseSlots w s) := by
  have quiet : s.listening = s.passSlots [] := by simp [State.listening, hd]
  unfold looseSlots
  rw [quiet]
  exact foldl_slots_still hd w.slots (by simp [Window.slots]) ((Still.refl s).of_chans rfl rfl rfl rfl) clear

theorem still_slotEvent (hd : s.due = []) (clear : Clear 8 s) (order : List CycleWork) (x : Slot) :
    Still s (slotEvent order x s) := by
  rw [slotEvent_of_nothing_due order x s hd]
  exact (slotArrives_clear (k := 7) (t := s.passSlots []) (by omega) ((Still.refl s).of_chans rfl rfl rfl rfl) clear).1

theorem still_slotOutcome (hd : s.due = []) (clear : Clear 8 s) (pos : Nat) (q : Slot → State → Bool) (x : Slot) :
    Still s (slotOutcome pos q x s) := by
  unfold slotOutcome
  split
  · exact still_slotEvent hd clear [] x
  · exact Still.refl s

/-- R154: with no work due nothing of it occurs. -/
theorem takeOccurrence_of_nothing_due (hd : s.due = []) (w : CycleWork) (q : State → Bool) :
    takeOccurrence w q s = s := by
  simp [takeOccurrence, workOccurs, hd]

/-- R123: the panel's level, and the cause that it adds. -/
theorem still_panel (p : Pins) : Still s (addCauseToAll .panel { s with pins := p }) := by
  obtain ⟨reach, keeps, mgmt⟩ := addCauseToAll_spec .panel { s with pins := p }
  obtain ⟨hline, hstore, hscales, hinputs, hwalls, hrecords, hreports, -, hdue, -, -⟩ := keeps
  refine ⟨hinputs, hwalls, by rw [hline], by rw [hline], by rw [hline], hstore, hscales, hrecords, hreports,
    by rw [mgmt (by decide)], hdue, fun c => ?_⟩
  by_cases hi : (s.chan c).state = .idle
  · obtain ⟨same, claim⟩ := (reach c).2 (.inr hi)
    rw [same]
    exact ⟨rfl, rfl, rfl, claim⟩
  · obtain ⟨same, claim⟩ := (reach c).1 trivial hi
    rw [same]
    exact ⟨rfl, rfl, rfl, claim⟩

/-- R117, R127, R154: every command but a reset leaves a part that works no cycle still. -/
theorem still_exec {i : Instr} {t : State} (hd : s.due = []) (clear : Clear 8 s)
    (on : ∀ strap panel, i ≠ .powerOn strap panel) (pin : i ≠ .resetInAssert) (h : exec i s = .next t) : Still s t := by
  have unworked : s.worked = false := clear_not_worked clear
  have quiet : settle s = s := settle_of_nothing_due s hd
  have window : ∀ {w : Window}, i ∈ WindowRows w → Still s t := fun {w} hi => by
    rw [exec_windowRow hi] at h
    injection h with h
    rw [← h, ignoredEvent, quiet, State.atRequestWindow, unworked]
    exact still_looseSlots hd clear w
  have occurs : ∀ {w q}, exec i s = .next (takeOccurrence w q s) → Still s t := fun {w q} hi => by
    rw [hi] at h
    injection h with h
    rw [← h, takeOccurrence_of_nothing_due hd]
    exact Still.refl s
  cases i
  case powerOn strap panel => exact absurd rfl (on strap panel)
  case resetInAssert => exact absurd rfl pin
  case resetInRelease =>
    cases h
    split
    · exact ⟨rfl, rfl, rfl, rfl, rfl, rfl, rfl, rfl, rfl, rfl, rfl, fun _ => ⟨rfl, rfl, rfl, .inl rfl⟩⟩
    · exact Still.refl s
  case deviceReset =>
    cases h
    rw [if_neg (by simp [hd])]
    exact Still.refl s
  case panelHoldAssert =>
    cases h
    split
    · exact Still.refl s
    · exact still_panel _
  case panelHoldRelease =>
    cases h
    split
    · exact Still.refl s
    · exact ⟨rfl, rfl, rfl, rfl, rfl, rfl, rfl, rfl, rfl, rfl, rfl, fun _ => ⟨rfl, rfl, rfl, .inl rfl⟩⟩
  case lossOfSignal =>
    cases h
    rw [finishCycleStart_of_nothing_due s hd, loseSignal, if_neg (by simp [unworked])]
    exact (Still.refl s).of_chans rfl rfl rfl rfl
  case huntSlot | confirmSyncPosition | lockedSyncPosition | flywheelSyncPosition =>
    cases h
    exact still_slotEvent hd clear _ _
  case flywheelEnd x =>
    cases h
    rw [if_neg (by simp [flywheelEnds, quiet, unworked])]
    exact Still.refl s
  case reportListSwap moment =>
    cases moment with
    | cycleStart => exact occurs rfl
    | reportSlot pos x => cases h; exact still_slotOutcome hd clear pos _ x
  case replyWindow w =>
    cases h
    rw [if_neg (by simp [State.atReplyWindow, quiet, unworked])]
    exact still_looseSlots hd clear w
  case replyLeft =>
    cases h
    rw [quiet, replyGone, if_neg (by simp [unworked])]
    exact Still.refl s
  case sampleSlot | overload | rampSettled | refusal | overpressure | tensionLimit | jackCommand | winchCommand
      | pumpCommand | reportSlot => cases h; exact still_slotOutcome hd clear _ _ _
  case profileStep | segmentEnd | takeUpStep | lockoffRelease | holdMark | holdComplete | rampUnsettled | awaitTimer
      | switchComplete | tenureExpiry | sampleStale | wallPointStale | nodeSilent | slotMapSwap => exact occurs rfl
  all_goals exact window (w := ‹Window›) (by simp [WindowRows, RequestRows])

end

/-- Settles O59. -/
theorem nothingCountsWithoutAlignment : Obligations.NothingCountsWithoutAlignment := by
  intro i s t hd clear on pin h
  obtain ⟨h1, h2, h3, h4, h5, h6, h7, h8, h9, h10, h11, h12⟩ := still_exec hd clear on pin h
  exact ⟨h1, h2, h3, h4, h5, h6, h7, h8, h9, h10, h11.trans hd, h12⟩

end Sys2Proof.Machine.Laws
end

section
/-! PROOFS. A cycle start raised, and what its work leaves whatever order it is taken in (R154, R155, R168). -/

namespace Sys2Proof.Machine.Laws

open Relation (ReflTransGen)

/-! ### What the work of a cycle start keeps -/

/-- What is held over the work of a cycle start: the place on the line and the replies, and every configuration. -/
structure Held (s t : State) : Prop where
  line : t.line =
    { s.line with active := t.line.active, shadow := t.line.shadow, swapPending := t.line.swapPending }
  held : SameHeld s t
  walls : ∀ p, (t.wall p).config = (s.wall p).config
  chans : ∀ c, (t.chan c).config = (s.chan c).config

theorem SameHeld.refl (s : State) : SameHeld s s := ⟨rfl, rfl, rfl, rfl, rfl⟩

theorem SameHeld.trans {s t u : State} (h : SameHeld s t) (k : SameHeld t u) : SameHeld s u := by
  obtain ⟨h1, h2, h3, h4, h5⟩ := h
  obtain ⟨k1, k2, k3, k4, k5⟩ := k
  exact ⟨by rw [k1, h1], k2.trans h2, k3.trans h3, k4.trans h4, k5.trans h5⟩

theorem Held.refl (s : State) : Held s s :=
  ⟨rfl, SameHeld.refl s, fun _ => rfl, fun _ => rfl⟩

theorem Held.trans {s t u : State} (h : Held s t) (k : Held t u) : Held s u :=
  ⟨by rw [k.line, h.line], h.held.trans k.held, fun p => (k.walls p).trans (h.walls p),
    fun c => (k.chans c).trans (h.chans c)⟩

theorem sameHeld_of_keeps {s t : State} (h : FreezeKeeps s t)
    (hm : t.mgmt = { s.mgmt with latched := t.mgmt.latched }) : SameHeld s t := by
  obtain ⟨-, -, hscales, -, -, -, -, hpins, -, hsent, hpending⟩ := h
  exact ⟨hm, hscales, hpins, hsent, hpending⟩

theorem wall_of_keeps {s t : State} (h : FreezeKeeps s t) (p : Point) :
    (t.wall p).config = (s.wall p).config := by
  obtain ⟨-, -, -, -, hwalls, -⟩ := h
  simp only [State.wall, hwalls]

theorem line_of_keeps {s t : State} (h : FreezeKeeps s t) : t.line =
    { s.line with active := t.line.active, shadow := t.line.shadow, swapPending := t.line.swapPending } := by
  rw [h.1]

theorem keptAs_config {a b : Channel} (h : KeptAs a b) : b.config = a.config := by rw [h.1]

/-- R17: the addition of a cause latches a notice at most. -/
theorem addCause_mgmt (k : FreezeCause) (c : Chan) (s : State) :
    (addCause k c s).mgmt = { s.mgmt with latched := (addCause k c s).mgmt.latched } := by
  have hl : ∀ u : State, (latchStale k u).mgmt = { u.mgmt with latched := (latchStale k u).mgmt.latched } := fun u => by
    unfold latchStale; split <;> rfl
  unfold addCause
  dsimp only
  split
  · rfl
  · split
    · obtain ⟨-, -, -, -, -, -, -, hm, -⟩ := (claimsOnly_withdrawClaim c
        ((latchStale k (s.updChan c fun ch => { ch with freeze := ch.freeze.add k })).updChan c
          fun ch => { ch with state := .frozen })).fields
      rw [freezeEffect, hm]
      exact hl _
    · exact hl _

/-- R17: a cause that reaches channels keeps their configurations. -/
theorem config_of_reaches {k : FreezeCause} {q : Chan → Prop} {s t : State} (h : CauseReaches k q s t) (c : Chan) :
    (t.chan c).config = (s.chan c).config := by
  by_cases hq : q c ∧ (s.chan c).state ≠ .idle
  · rw [((h c).1 hq.1 hq.2).1]
  · exact keptAs_config ((h c).2 (by tauto))

theorem config_of_claims {s t : State} (h : ClaimsOnly s t) (c : Chan) : (t.chan c).config = (s.chan c).config :=
  keptAs_config (h.1 c)

theorem config_setChan {s : State} {c : Chan} {b : Channel} (h : b.config = (s.chan c).config) (d : Chan) :
    ((s.setChan c b).chan d).config = (s.chan d).config := by
  by_cases hd : d = c
  · rw [hd, chan_setChan]; exact h
  · rw [chan_setChan_ne _ _ hd]

theorem config_of_others {c : Chan} {s t : State} (own : (t.chan c).config = (s.chan c).config)
    (others : OthersKept c s t) (d : Chan) : (t.chan d).config = (s.chan d).config := by
  by_cases hd : d = c
  · rw [hd]; exact own
  · exact keptAs_config (others d hd)

theorem arbiterCycle_mgmt (p : Pump) (s : State) :
    (arbiterCycle p s).mgmt = { s.mgmt with latched := (arbiterCycle p s).mgmt.latched } := by
  have claims {u : State} (h : ClaimsOnly s u) : u.mgmt = { s.mgmt with latched := u.mgmt.latched } := by rw [h.2]
  have expires : (expireTenure p s).mgmt = { s.mgmt with latched := (expireTenure p s).mgmt.latched } := by
    unfold expireTenure
    split
    · split
      · exact claims (claimsOnly_updArb s p _)
      · rename_i h _ _ d rest _
        have hc := ((claimsOnly_updArb s p fun a => { a with queue := rest ++ [h] }).trans
          (claimsOnly_setStanding h .queued _)).trans (claimsOnly_startGrant p d _)
        have hm := claims hc
        exact congrArg (fun m : Management => { m with latched := { m.latched with pumpTenure := true } }) hm
    all_goals rfl
  unfold arbiterCycle
  dsimp only
  split
  · rfl
  · split
    · exact claims (claimsOnly_completeSwitch p s)
    · split
      · exact expires
      · split
        · exact claims (claimsOnly_updArb s p _)
        · exact claims (claimsOnly_updArb s p _)
        · rfl

theorem held_setChan {s : State} {c : Chan} {b : Channel} (h : b.config = (s.chan c).config) : Held s (s.setChan c b) :=
  ⟨rfl, ⟨rfl, rfl, rfl, rfl, rfl⟩, fun _ => rfl, config_setChan h⟩

theorem held_claims {s t : State} (h : ClaimsOnly s t) : Held s t := by
  have keeps := freezeKeeps_of_claimsOnly h
  exact ⟨line_of_keeps keeps, sameHeld_of_keeps keeps (by rw [h.2]), wall_of_keeps keeps,
    config_of_claims h⟩

theorem leftWith_config (phase : StepPhase) (index : Nat) (a : Channel) : (leftWith phase index a).config = a.config := by
  obtain ⟨-, config, -⟩ := accounted_keeps a
  exact config

theorem config_faultChannel (cause : FaultCause) (c : Chan) (s : State) (d : Chan) :
    ((faultChannel cause c s).chan d).config = (s.chan d).config := by
  by_cases h : (s.chan c).state = .running ∨ (s.chan c).state = .frozen
  · obtain ⟨⟨own, others, -⟩, -⟩ := faultChannel_spec cause c s h
    exact config_of_others (by rw [own.1]) others d
  · rw [faultChannel_ignored cause c s h]

theorem faultChannel_mgmt (cause : FaultCause) (c : Chan) (s : State) :
    (faultChannel cause c s).mgmt = { s.mgmt with latched := (faultChannel cause c s).mgmt.latched } := by
  by_cases h : (s.chan c).state = .running ∨ (s.chan c).state = .frozen
  · obtain ⟨⟨-, -, mgmt, -⟩, -⟩ := faultChannel_spec cause c s h
    rw [mgmt]
  · rw [faultChannel_ignored cause c s h]

theorem config_removeCauses (g : FreezeSet) (c : Chan) (s : State) (d : Chan) :
    ((removeCauses g c s).chan d).config = (s.chan d).config := by
  obtain ⟨others, -⟩ := removeCauses_spec g c s
  obtain ⟨f, st, w, own⟩ := removeCauses_chan g c s
  exact config_of_others (by rw [own]) others d

/-- R116, R122: a point changed, its configuration kept. -/
theorem held_changeWall {s : State} {p : Point} {x : WallPoint} (h : x.config = (s.wall p).config) :
    Held s (s.changeWall p x) := by
  obtain ⟨-, mgmt, keeps, reaches, plain⟩ := changeWall_spec p x s
  have held : SameHeld (s.setWall p x) (s.changeWall p x) := sameHeld_of_keeps keeps (by rw [mgmt]; rfl)
  refine ⟨line_of_keeps (s := s.setWall p x) keeps, held, fun q => ?_, fun c => ?_⟩
  · rw [wall_of_keeps keeps]
    by_cases hq : q = p
    · rw [hq, wall_setWall]; exact h
    · rw [wall_setWall_ne s x hq]
  · by_cases hs : (s.setWall p x).wallState = .stop ∧ s.wallState ≠ .stop
    · exact config_of_reaches (reaches hs.1 hs.2) c
    · rw [plain hs]; rfl

theorem held_endProgram (o : RunOutcome) (c : Chan) (s : State) : Held s (endProgram o c s) := by
  obtain ⟨own, others⟩ := endProgram_ended o c s
  have config : ((endProgram o c s).chan c).config = (s.chan c).config := by
    cases own with
    | fresh l h _ _ => exact h.config
    | filing r h _ _ => rw [h]; rfl
  obtain ⟨b, q, hb⟩ := endProgram_keeps o c s
  have beside : (endProgram o c s).line = s.line ∧ SameHeld s (endProgram o c s) ∧ (endProgram o c s).walls = s.walls := by
    rw [hb, unlockCurrent_keeps]
    exact ⟨rfl, ⟨rfl, rfl, rfl, rfl, rfl⟩, rfl⟩
  obtain ⟨line, held, walls⟩ := beside
  refine ⟨by rw [line], held, fun p => by simp only [State.wall, walls], fun d => ?_⟩
  by_cases hd : d = c
  · rw [hd]; exact config
  · rw [others d hd]

theorem held_freePlace (s : State) : Held s (freePlace s) := by
  have beside : (freePlace s).line = s.line ∧ SameHeld s (freePlace s) ∧ (freePlace s).walls = s.walls := by
    rw [freePlace_keeps]
    exact ⟨rfl, ⟨rfl, rfl, rfl, rfl, rfl⟩, rfl⟩
  obtain ⟨line, held, walls⟩ := beside
  refine ⟨by rw [line], held, fun p => by simp only [State.wall, walls], fun d => ?_⟩
  rcases freePlace_cases s with ⟨-, same, -⟩ | ⟨c, rest, -, -, fresh, others⟩
  · simp only [State.chan, same]
  · by_cases hd : d = c
    · rw [hd]; exact fresh.config
    · rw [others d hd]

/-- R154: no kind of change that a cycle start is made of touches what is held. -/
theorem work_held {s t : State} (h : Work false s t) : Held s t := by
  cases h with
  | tables same place held _ =>
    refine ⟨place.1, held rfl, fun p => ?_, fun c => by rw [chan_congr same]⟩
    obtain ⟨-, -, -, walls, -⟩ := same
    simp only [State.wall, walls]
  | note c h => exact held_setChan h.config
  | unfault c _ h _ _ => exact held_setChan h.config
  | configure c _ _ req => cases req
  | cause k c =>
    have keeps := freezeKeeps_addCause k c s
    obtain ⟨reach, -⟩ := addCause_spec k c s
    exact ⟨line_of_keeps keeps, sameHeld_of_keeps keeps (addCause_mgmt k c s),
      wall_of_keeps keeps, config_of_reaches reach⟩
  | uncause g c _ =>
    have keeps := freezeKeeps_removeCauses g c s
    obtain ⟨-, -, mgmt, -⟩ := removeCauses_spec g c s
    exact ⟨line_of_keeps keeps, sameHeld_of_keeps keeps (by rw [mgmt]), wall_of_keeps keeps,
      config_removeCauses g c s⟩
  | fault cause c =>
    have keeps := freezeKeeps_faultChannel cause c s
    exact ⟨line_of_keeps keeps, sameHeld_of_keeps keeps (faultChannel_mgmt cause c s),
      wall_of_keeps keeps, config_faultChannel cause c s⟩
  | leave phase index c _ =>
    have keeps := freezeKeeps_leaveStep phase index c s
    obtain ⟨own, others, -, mgmt, -⟩ := leaveStep_spec phase index c s
    exact ⟨line_of_keeps keeps, sameHeld_of_keeps keeps (by rw [mgmt]), wall_of_keeps keeps,
      config_of_others (by rw [own, leftWith_config]) others⟩
  | claim c _ _ _ => exact held_claims (claimsOnly_makeClaim c s)
  | arbiter p =>
    obtain ⟨claims, keeps, -⟩ := arbiterCycle_spec p s
    exact ⟨line_of_keeps keeps, sameHeld_of_keeps keeps (arbiterCycle_mgmt p s), wall_of_keeps keeps,
      fun c => keptAs_config (claims c)⟩
  | demand p _ => exact held_claims (claimsOnly_updArb s p _)
  | wall p _ config => exact held_changeWall (config rfl)
  | start i c _ =>
    rw [startProgram_others]
    obtain ⟨-, -, -, -, -, config, -⟩ := startProgram_chan i c s
    exact held_setChan config
  | finish o c _ _ => exact held_endProgram o c s
  | free => exact held_freePlace s

theorem works_held {s t : State} (h : Works false s t) : Held s t := by
  induction h with
  | refl => exact Held.refl s
  | tail _ hw ih => exact ih.trans (work_held hw)

/-! ### Work taken in any order (R154) -/

section
variable {s : State}

theorem held_performWork {w : CycleWork} (h : w ≠ .deviceReset) (s : State) : Held s (performWork w s) :=
  works_held (works_performWork h s)

theorem held_doWork (w : CycleWork) (h : CycleWork.deviceReset ∉ s.due) :
    Held s (doWork w s) ∧ CycleWork.deviceReset ∉ (doWork w s).due := by
  by_cases hw : w ∈ s.due
  · have notReset : w ≠ .deviceReset := fun e => h (e ▸ hw)
    refine ⟨?_, by rw [doWork_due notReset]; exact fun k => h (List.mem_filter.mp k).1⟩
    unfold doWork
    rw [if_pos hw]
    obtain ⟨line, held, walls, chans⟩ := held_performWork notReset { s with due := s.due.filter (· ≠ w) }
    exact ⟨line, held, walls, chans⟩
  · have same : doWork w s = s := if_neg hw
    rw [same]
    exact ⟨Held.refl s, h⟩

theorem held_foldl {α : Type} {f : State → α → State}
    (hf : ∀ s a, CycleWork.deviceReset ∉ s.due → Held s (f s a) ∧ CycleWork.deviceReset ∉ (f s a).due) :
    ∀ (l : List α) {s : State}, CycleWork.deviceReset ∉ s.due →
      Held s (l.foldl f s) ∧ CycleWork.deviceReset ∉ (l.foldl f s).due
  | [], s, h => ⟨Held.refl s, h⟩
  | a :: l, s, h => by
    obtain ⟨first, none_⟩ := hf s a h
    obtain ⟨rest, none_'⟩ := held_foldl hf l none_
    exact ⟨first.trans rest, none_'⟩

theorem held_takeWork (w : CycleWork) (h : CycleWork.deviceReset ∉ s.due) :
    Held s (takeWork w s) ∧ CycleWork.deviceReset ∉ (takeWork w s).due := by
  have before : Held s (prepareWork w s) ∧ CycleWork.deviceReset ∉ (prepareWork w s).due := by
    unfold prepareWork
    split
    · exact held_foldl (fun s w h => held_doWork w h) _ h
    · exact ⟨Held.refl s, h⟩
  obtain ⟨done, none_⟩ := held_doWork w before.2
  exact ⟨before.1.trans done, none_⟩

/-- R154: the work of a cycle start, taken in any order. -/
theorem held_cycle (order : List CycleWork) {s : State} (h : CycleWork.deviceReset ∉ s.due) :
    Held s (order.foldl (fun v w => takeWork w v) s) :=
  (held_foldl (fun _ w h => held_takeWork w h) order h).1

end

/-! ### A cycle start raised (R154, R155, R168) -/

theorem raised (s : State) : CycleStartRaised s (raiseCycleStart s) := by
  refine ⟨rfl, rfl, rfl, raiseCycleStart_chan s, fun p => by cases p <;> rfl, fun w => ⟨?_, fun h => ?_⟩, ?_⟩
  · rintro k rfl
    exact deviceReset_not_mem_cycleStartWork k
  · exact mem_cycleStartWork h
  · show cycleStartWork.Nodup
    decide

/-- R150 to R154: the sync position of a part from which a cycle start is raised. -/
theorem startsCycle_of {i : Instr} {x : Slot} {order : List CycleWork} {a : Machine.Alignment} {misses lastLine : Nat}
    {s u : State} (h : exec i s = .next (cycleStart order
      { u with sent := [x], line := { u.line with alignment := a, misses := misses, lastLine := lastLine } })) :
    StartsCycle i x order a misses lastLine s u := by
  refine ⟨_, _, raised _, h, rfl, ?_, ?_⟩
  all_goals
    obtain ⟨line, ⟨mgmt, scales, pins, sent, pending⟩, walls, chans⟩ := held_cycle order (s := raiseCycleStart
      { u with sent := [x], line := { u.line with alignment := a, misses := misses, lastLine := lastLine } })
      deviceReset_not_mem_cycleStartWork
  · exact sent
  · refine ⟨by rw [cycleStart, line]; rfl, by rw [cycleStart, line]; rfl, by rw [cycleStart, line]; rfl,
      by rw [cycleStart, line]; rfl, by rw [cycleStart, line]; rfl, by rw [cycleStart, line]; rfl,
      by rw [cycleStart, mgmt]; rfl, by rw [cycleStart, mgmt]; rfl, by rw [cycleStart, mgmt]; rfl,
      by rw [cycleStart, mgmt]; rfl, by rw [cycleStart, mgmt]; rfl, scales, pins, pending, walls, fun c => ?_⟩
    exact (chans c).trans (by rw [raiseCycleStart_chan]; rfl)

/-! ### Alignment (R149 to R152) -/

theorem huntExaminesEverySlot : HuntExaminesEverySlot := by
  intro x s hr ha
  have examined : exec (.huntSlot x) s = .next (huntExamine x (((settle s).passSlots []).emit x)) :=
    congrArg Host.Outcome.next (slotArrives_hunt (s := (settle s).passSlots []) hr ha)
  refine ⟨fun h1 h2 h3 h4 => examined.trans ?_, fun h => examined.trans ?_⟩
  · rw [huntExamine, goodSync_eq_some ⟨h1, h2, h3, h4⟩]
    rfl
  · have bad : ¬ GoodSync x := by
      rintro ⟨h1, h2, h3, h4⟩
      rcases h with h | h | h | h
      · exact h h1
      · simp [h] at h2
      · omega
      · omega
    rw [huntExamine, goodSync_eq_none bad]
    rfl

theorem confirmLocksOrHunts : ConfirmLocksOrHunts := by
  intro x order s u hr ha at_
  have examined : exec (.confirmSyncPosition x order) s = .next (confirmExamine order x ((u.passSlots []).emit x)) := by
    refine congrArg Host.Outcome.next ((slotArrives_confirm (s := u.passSlots []) hr ha).trans ?_)
    rw [if_pos (atSync_of_AtSync (s := u.passSlots []) at_)]
  have confirms : ∀ n, ((u.passSlots []).emit x).confirms x = some n ↔
      SyncOf u x n ∧ n = (u.line.lastLine + 1) % 65536 := fun n => by
    have taken := syncTaken_iff ((u.passSlots []).emit x) x
    unfold State.confirms
    cases hs : ((u.passSlots []).emit x).syncTaken x with
    | none =>
      have not_ : ¬ SyncOf u x n := fun k => by
        have := (taken n).mpr k
        simp [hs] at this
      simp [not_]
    | some m =>
      have m_taken : SyncOf u x m := (taken m).mp hs
      have only : SyncOf u x n ↔ m = n := ⟨fun k => Option.some.inj (hs.symm.trans ((taken n).mpr k)), fun e => e ▸ m_taken⟩
      show (if m = (u.line.lastLine + 1) % 65536 then some m else none) = some n ↔ _
      rw [only]
      split <;> simp <;> omega
  refine ⟨fun sync => startsCycle_of (examined.trans ?_), fun not_ => examined.trans ?_⟩
  · rw [confirmExamine, (confirms _).mpr ⟨sync, rfl⟩]
    rfl
  · have missed : ((u.passSlots []).emit x).confirms x = none := Option.eq_none_iff_forall_ne_some.mpr fun n k => by
      obtain ⟨sync, rfl⟩ := (confirms n).mp k
      exact not_ sync
    rw [confirmExamine, missed]
    rfl

/-- Settles O5. -/
theorem huntAndConfirmFindTheCycle : Obligations.HuntAndConfirmFindTheCycle :=
  ⟨huntExaminesEverySlot, confirmLocksOrHunts⟩

section
variable {x : Slot} {order : List CycleWork} {u : State}

theorem syncExamined (hr : u.pins.resetIn = false) (ha : u.line.alignment = .locked ∨ u.line.alignment = .flywheel)
    (at_ : AtSync u) : slotArrives order x (u.passSlots []) =
      if u.line.alignment = .locked then lockedExamine order x ((u.passSlots []).emit x)
      else flywheelExamine order x ((u.passSlots []).emit x) :=
  slotArrives_sync (s := u.passSlots []) ((worked_iff _).mpr ⟨hr, ha⟩) (atSync_of_AtSync (s := u.passSlots []) at_)

theorem emit_syncTaken {n : Nat} (h : SyncOf u x n) : ((u.passSlots []).emit x).syncTaken x = some n :=
  (syncTaken_iff _ x n).mpr h

theorem emit_syncTaken_none (h : ∀ n, ¬ SyncOf u x n) : ((u.passSlots []).emit x).syncTaken x = none :=
  syncTaken_eq_none h

end

theorem lockedTakesSyncOrFlywheels : LockedTakesSyncOrFlywheels := by
  intro x order s u hr ha at_
  have examined : exec (.lockedSyncPosition x order) s = .next (lockedExamine order x ((u.passSlots []).emit x)) := by
    refine congrArg Host.Outcome.next ((syncExamined (u := u) hr (.inl ha) at_).trans ?_)
    rw [if_pos ha]
  refine ⟨fun n sync => startsCycle_of (examined.trans ?_), fun none_ below => startsCycle_of (examined.trans ?_),
    fun none_ limit => ?_⟩
  · rw [lockedExamine, emit_syncTaken sync, ← ha]
    rfl
  · rw [lockedExamine, emit_syncTaken_none none_]
    exact congrArg Host.Outcome.next (judgeMiss_below (s := (u.passSlots []).emit x) below)
  · obtain ⟨falls, sent, misses⟩ := fallsToHunt_judgeMiss (order := order) (x := x) limit
    refine ⟨_, examined.trans ?_, sent, misses, falls⟩
    rw [lockedExamine, emit_syncTaken_none none_]

theorem flywheelRelocksOrMisses : FlywheelRelocksOrMisses := by
  intro x order s u hr ha at_
  have examined : exec (.flywheelSyncPosition x order) s = .next (flywheelExamine order x ((u.passSlots []).emit x)) := by
    refine congrArg Host.Outcome.next ((syncExamined (u := u) hr (.inr ha) at_).trans ?_)
    rw [if_neg (by simp [ha])]
  refine ⟨fun n sync => startsCycle_of (examined.trans ?_), fun none_ below => startsCycle_of (examined.trans ?_)⟩
  · rw [flywheelExamine, emit_syncTaken sync]
    rfl
  · rw [flywheelExamine, emit_syncTaken_none none_]
    exact congrArg Host.Outcome.next (judgeMiss_below (s := (u.passSlots []).emit x) below)

/-- Settles O6. -/
theorem syncPositionsKeepTheCycle : Obligations.SyncPositionsKeepTheCycle :=
  ⟨lockedTakesSyncOrFlywheels, flywheelRelocksOrMisses, positionsAreCounted⟩

end Sys2Proof.Machine.Laws
end

section
/-! PROOFS. What a sample's readers do (R136): the sample handed over, SAMPLE_STALE removed after them (R142), a channel
whose step they note and leave, and the wall point's sample (R116, R122). -/

namespace Sys2Proof.Machine.Laws

/-! ### The sample as its readers meet it (R132, R136) -/

/-- The part `u` once the slot at `pos` has passed and given its target `x` the record `r`. -/
def sampled (pos : Nat) (slot : Slot) (x : Target) (r : InputRecord) (u : State) : State :=
  (slotPassed pos slot u).setInput x r

theorem exec_accepted {pos : Nat} {slot : Slot} {x : Target} {r : InputRecord} {s : State}
    (h : Accepts (settle s) pos slot x r) :
    exec (.sampleSlot pos slot) s = .next (handSample x r (sampled pos slot x r (settle s))) :=
  exec_sampleSlot_accepted h

/-- The rows of samples that come to an outcome of their own: where it is met, the sample is handed over as on its own
row. -/
theorem slotOutcome_accepted {pos : Nat} {slot : Slot} {x : Target} {r : InputRecord} {q : Slot → State → Bool}
    {s : State} (h : Accepts (settle s) pos slot x r) (hq : q slot (settle s) = true) :
    slotOutcome pos q slot s = handSample x r (sampled pos slot x r (settle s)) := by
  obtain ⟨k, atPos, accepted⟩ := acceptSample_of_accepts h
  obtain ⟨-, hpos⟩ := nextEntry_of_SlotAt atPos
  rw [slotOutcome_at atPos hq]
  subst hpos
  exact takeSample_accepted (s := slotPassed _ slot (settle s)) accepted

/-- The channel, value and part that the outcome of an accepted channel sample is judged by. -/
theorem acceptedNext_of_accepts {pos : Nat} {slot : Slot} {c : Chan} {m : Measurand} {v : Nat} {r : InputRecord}
    {u : State} (h : Accepts u pos slot (.chan c m) r) (hv : r.value = v) :
    u.acceptedNext m slot = some (c, v, u.setInput (.chan c m) r) := by
  obtain ⟨k, atPos, accepted⟩ := acceptSample_of_accepts h
  obtain ⟨entry, -⟩ := nextEntry_of_SlotAt atPos
  simp [State.acceptedNext, State.nextSample, entry, accepted, hv]

theorem handSample_input_sent (pos : Nat) (slot : Slot) (x : Target) (r : InputRecord) (u : State) :
    (handSample x r (sampled pos slot x r u)).input x = some r ∧ (handSample x r (sampled pos slot x r u)).sent = [slot] := by
  obtain ⟨-, sent, -⟩ := handSample_keeps x r (sampled pos slot x r u)
  rw [handSample_input]
  exact ⟨input_setInput _ x r, sent⟩

/-- R135: the sample of one input leaves what another input of a channel shows. -/
theorem chanValue_setInput_ne {c : Chan} {m n : Measurand} (r : InputRecord) (s : State) (h : n ≠ m) :
    (s.setInput (.chan c m) r).chanValue c n = s.chanValue c n := by
  have other : (Target.chan c n) ≠ .chan c m := fun e => h (Target.chan.inj e).2
  have limit : (s.setInput (.chan c m) r).staleLimit (.chan c n) = s.staleLimit (.chan c n) := rfl
  simp only [State.chanValue, State.availableValue, input_setInput_ne s r other, limit]

/-! ### SAMPLE_STALE after the readers (R142) -/

theorem removeStale_of_not_active {c : Chan} {s : State} (h : (s.chan c).phase ≠ .active) : removeStale c s = s := by
  simp [removeStale, State.currentStep, h]

/-- A channel written as it stands. -/
theorem setChan_self (s : State) (c : Chan) : s.setChan c (s.chan c) = s := by
  simp [State.setChan, State.chan]

/-- R142: of a channel that is not FROZEN the removal takes the cause alone. -/
theorem removeStale_not_frozen {c : Chan} {s : State} (h : (s.chan c).state ≠ .frozen) :
    ∃ f, removeStale c s = s.setChan c { s.chan c with freeze := f } := by
  unfold removeStale
  split
  · split
    · exact ⟨_, by simp [removeCauses, h]; rfl⟩
    · exact ⟨(s.chan c).freeze, (setChan_self s c).symm⟩
  · exact ⟨(s.chan c).freeze, (setChan_self s c).symm⟩

/-- R142: whatever the channel's state, its working fields keep all but a HOLD's run and an INJECT's claim. -/
theorem removeStale_keeps (c : Chan) (s : State) :
    (∃ f st w, (removeStale c s).chan c = { s.chan c with freeze := f, state := st, work := w }) ∧
      (∀ x, (s.chan c).work = .inject x → ClaimMoved (.inject x) ((removeStale c s).chan c).work) ∧
      (∀ x, (s.chan c).work = .payout x → ((removeStale c s).chan c).work = .payout x) := by
  have thaw (u : State) :
      (∀ x, (u.chan c).work = .inject x → ClaimMoved (.inject x) ((thawEffect c u).chan c).work) ∧
        (∀ x, (u.chan c).work = .payout x → ((thawEffect c u).chan c).work = .payout x) := by
    refine ⟨fun x hx => ?_, fun x hx => by simp [thawEffect, hx]⟩
    have moved := ((claimsOnly_makeClaim c u).1 c).2
    rw [hx] at moved
    simpa only [thawEffect, hx] using moved
  have removed : (∀ x, (s.chan c).work = .inject x →
      ClaimMoved (.inject x) ((removeCauses FreezeSet.onlyStale c s).chan c).work) ∧
      (∀ x, (s.chan c).work = .payout x → ((removeCauses FreezeSet.onlyStale c s).chan c).work = .payout x) := by
    unfold removeCauses
    simp only [updChan_eq, chan_setChan]
    split
    · obtain ⟨inject, payout⟩ := thaw ((s.setChan c { s.chan c with
        freeze := (s.chan c).freeze.without FreezeSet.onlyStale }).setChan c { s.chan c with
        freeze := (s.chan c).freeze.without FreezeSet.onlyStale, state := .running })
      exact ⟨fun x hx => inject x (by simpa using hx), fun x hx => payout x (by simpa using hx)⟩
    · simp only [chan_setChan]
      exact ⟨fun x hx => by rw [hx]; exact .inl rfl, fun x hx => hx⟩
  have same : (∃ f st w, s.chan c = { s.chan c with freeze := f, state := st, work := w }) ∧
      (∀ x, (s.chan c).work = .inject x → ClaimMoved (.inject x) (s.chan c).work) ∧
      (∀ x, (s.chan c).work = .payout x → (s.chan c).work = .payout x) :=
    ⟨⟨_, _, _, rfl⟩, fun x hx => by rw [hx]; exact .inl rfl, fun x hx => hx⟩
  unfold removeStale
  split
  · split
    · exact ⟨removeCauses_chan FreezeSet.onlyStale c s, removed⟩
    · exact same
  · exact same

/-! ### A step noted, and left or faulted (R13, R16) -/

/-- The part in which a reader has noted in channel `c` what it measured, before the step ends. -/
def stepNoted (c : Chan) (w : StepWork) (rec : Option Record) (ks : Option Int) (j : JackLoop) (s : State) : State :=
  s.setChan c { s.chan c with work := w, record := rec, lastCreep := ks, jack := j }

/-- R13: what a reader has noted is not among what the leaving of the step is judged by. -/
theorem leaveStep_stepNoted (i : Nat) (c : Chan) (w : StepWork) (rec : Option Record) (ks : Option Int) (j : JackLoop)
    (s : State) :
    StepLeft i c s (leaveStep .takeUp i c (stepNoted c w rec ks j s)) ∧
      (leaveStep .takeUp i c (stepNoted c w rec ks j s)).chan c =
        leftWith .takeUp i { s.chan c with work := w, record := rec, lastCreep := ks, jack := j } := by
  have hc := (leaveStep_spec .takeUp i c (stepNoted c w rec ks j s)).1
  have left := stepLeft_leaveStep i c (stepNoted c w rec ks j s)
  generalize leaveStep .takeUp i c (stepNoted c w rec ks j s) = t at *
  have others : OthersKept c (stepNoted c w rec ks j s) t → OthersKept c s t := fun k d hd => by
    have := k d hd
    rwa [stepNoted, chan_setChan_ne _ _ hd] at this
  rw [stepNoted, chan_setChan] at hc
  refine ⟨?_, hc⟩
  simp only [StepLeft, stepNoted, chan_setChan] at left
  obtain ⟨hphase, hindex, hwork, hfreeze, hstate, hprog, hconf, hfault, hpend, hpeer, hfiled, ho, rest⟩ := left
  exact ⟨hphase, hindex, hwork, hfreeze, hstate, hprog, hconf, hfault, hpend, hpeer, hfiled, others ho, rest⟩

/-- R15: the three on-fail courses of a failed step whose channel has been noted. -/
theorem failStep_stepNoted (st : Step) (cause : FaultCause) (c : Chan) (w : StepWork) (rec : Option Record)
    (ks : Option Int) (j : JackLoop) (s : State) :
    (st.onFail = .halt → failStep st cause c (stepNoted c w rec ks j s) = faultChannel cause c (stepNoted c w rec ks j s)) ∧
      (st.onFail = .divert → failStep st cause c (stepNoted c w rec ks j s) =
        leaveStep .takeUp st.divert c (stepNoted c w rec ks j s)) ∧
      (st.onFail = .cont → failStep st cause c (stepNoted c w rec ks j s) =
        leaveStep .takeUp (nextIndex (s.chan c).index) c (stepNoted c w (rec.map Record.countFailed) ks j s)) := by
  refine ⟨fun h => by simp [failStep, h], fun h => by simp [failStep, h, divertStep], fun h => ?_⟩
  simp [failStep, h, failContinue, completeStep, stepNoted]

theorem completeStep_stepNoted (c : Chan) (w : StepWork) (rec : Option Record) (ks : Option Int) (j : JackLoop)
    (s : State) : completeStep c (stepNoted c w rec ks j s) =
      leaveStep .takeUp (nextIndex (s.chan c).index) c (stepNoted c w rec ks j s) := by
  simp [completeStep, stepNoted]

/-- R38: a step of working fields `w` that engaged the generator leaves it with nothing to run. -/
theorem leftWith_profile {i : Nat} {ch : Channel}
    (h : (∃ x, ch.work = .ramp x) ∨ ∃ x, ch.work = .payout x) :
    (leftWith .takeUp i ch).profile =
      { ch.profile with status := .inactive, working := none, reload := none, staged := none, segsLeft := 0 } := by
  rcases h with ⟨x, hx⟩ | ⟨x, hx⟩ <;> simp [leftWith, accounted, hx, Profile.disengage]

/-- R16, R75: the working fields of a channel whose claim has been withdrawn. -/
def withdrawn : StepWork → StepWork
  | .inject w => .inject { w with standing := .none, refusals := 0 }
  | w => w

/-- R75: the channel whose claim has been withdrawn. -/
def unclaimed (ch : Channel) : Channel := { ch with work := withdrawn ch.work }

theorem setStanding_none_chan (c : Chan) (s : State) :
    (s.setStanding c .none).chan c = unclaimed (s.chan c) := by
  simp only [State.setStanding, updChan_eq, chan_setChan, unclaimed]
  cases h : (s.chan c).work <;> simp [withdrawn, ← h]

/-- R75, R82: whatever its Arbiter, a withdrawal leaves a claim standing at NONE. -/
theorem withdrawClaim_chan (c : Chan) (s : State) :
    (withdrawClaim c s).chan c = unclaimed (s.chan c) := by
  cases h : (s.chan c).work with
  | inject w =>
    have ends {u : State} (k : ClaimsOnly s u) :
        (u.setStanding c .none).chan c = unclaimed (s.chan c) := by
      obtain ⟨same, moved⟩ := k.1 c
      have work : withdrawn (u.chan c).work = withdrawn (s.chan c).work := by
        rcases moved with e | ⟨x, st, r, hx, e, -⟩
        · rw [e]
        · rw [e, hx]; rfl
      rw [setStanding_none_chan, unclaimed, work, same]
      rfl
    unfold withdrawClaim withdrawPump
    simp only [h]
    split
    · exact ends (ClaimsOnly.refl s)
    · split
      · split
        · split
          · exact ends ((claimsOnly_updArb s _ _).trans (claimsOnly_passOn _ _))
          · exact ends (claimsOnly_updArb s _ _)
        · split
          · exact ends ((claimsOnly_updArb s _ _).trans (claimsOnly_passOn _ _))
          · exact ends (claimsOnly_updArb s _ _)
        · exact ends (claimsOnly_updArb s _ _)
      · exact ends (ClaimsOnly.refl s)
  | none | payout _ | ramp _ | hold _ | lockoff _ | check _ | await _ | signal | finish =>
    rw [withdrawClaim_of_notInject c s (by simp [h])]
    have same : withdrawn (s.chan c).work = (s.chan c).work := by rw [h]; rfl
    rw [unclaimed, same]

/-- R16: a RUNNING or FROZEN channel as a fault leaves it. -/
def faulted (cause : FaultCause) (ch : Channel) : Channel :=
  { ch with
    state := .faulted, fault := some cause, work := withdrawn ch.work
    record := ch.record.map fun (x : Record) => { x with fault := some cause } }

theorem faultChannel_chan {cause : FaultCause} {c : Chan} {s : State}
    (h : (s.chan c).state = .running ∨ (s.chan c).state = .frozen) :
    (faultChannel cause c s).chan c = faulted cause (s.chan c) := by
  simp only [faultChannel, h, if_true, withdrawClaim_chan]
  simp [faulted, unclaimed]

/-- R16, R142: a channel that a reader has faulted keeps its suspended step, and loses SAMPLE_STALE at most. -/
theorem removeStale_faultChannel {cause : FaultCause} {c : Chan} {s : State}
    (h : (s.chan c).state = .running ∨ (s.chan c).state = .frozen) :
    let t := removeStale c (faultChannel cause c s)
    (∃ f, t.chan c = { faulted cause (s.chan c) with freeze := f }) ∧
      t.mgmt = { s.mgmt with latched := { s.mgmt.latched with channelFault := true } } ∧ OthersKept c s t := by
  intro t
  obtain ⟨⟨-, others, mgmt, -⟩, -⟩ := faultChannel_spec cause c s h
  have chan := faultChannel_chan (cause := cause) h
  obtain ⟨f, same⟩ := removeStale_not_frozen (c := c) (s := faultChannel cause c s) (by rw [chan]; nofun)
  refine ⟨⟨f, ?_⟩, ?_, fun d hd => ?_⟩ <;> rw [show t = _ from same]
  · rw [chan_setChan, chan]
  · exact mgmt
  · rw [chan_setChan_ne _ _ hd]
    exact others d hd

/-! ### Wall points (R115, R116, R119, R122) -/

/-- R116: the table, row by row. -/
theorem classified_rows (x : WallPoint) (v : Int) :
    let d := (v - x.config.baseline).natAbs
    let y := x.classified v
    (x.config.enable = false → y = x) ∧
      (x.config.enable = true → x.latch = true → y = { x with state := .stop, latch := true }) ∧
      (x.config.enable = true → x.latch = false → x.config.stop ≤ d → y = { x with state := .stop, latch := true }) ∧
      (x.config.enable = true → x.latch = false → d < x.config.stop → x.config.warn ≤ d → y = { x with state := .warn }) ∧
      (x.config.enable = true → x.latch = false → d < x.config.stop → d < x.config.warn →
        y = { x with
          state := if (x.state = .warn ∨ x.state = .stale) ∧ x.config.warn ≤ d + x.config.hysteresis then .warn
            else .normal }) := by
  intro d y
  have shown : y = if x.config.enable then
      { x with state := (classify x.config x.state x.latch d).state, latch := (classify x.config x.state x.latch d).latch }
      else x := rfl
  refine ⟨fun off => by simp [shown, off], fun on latched => by simp [shown, on, latched, classify],
    fun on clear stop => by simp [shown, on, clear, classify, stop],
    fun on clear below warn => ?_, fun on clear below under => ?_⟩
  · simp [shown, on, clear, classify, Nat.not_le.mpr below, warn]
  · rw [shown, if_pos on, classify, if_neg (by simp [clear]), if_neg (Nat.not_le.mpr below), if_neg (Nat.not_le.mpr under)]
    split <;> simp [clear]

/-- Settles O25: an accepted sample changes its wall point as R116's table says, and a wall state that becomes STOP
reaches the channels. -/
theorem wallSampleClassifiesPoint : Obligations.WallSampleClassifiesPoint := by
  intro pos slot w r s h u x d
  have handed : handSample (.wallMove w) r (sampled pos slot (.wallMove w) r u) =
      (sampled pos slot (.wallMove w) r u).changeWall w (x.classified r.value) := rfl
  obtain ⟨own, others⟩ := changeWall_wall w (x.classified r.value) (sampled pos slot (.wallMove w) r u)
  obtain ⟨reaches, still⟩ := changeWall_reaches w (x.classified r.value) (sampled pos slot (.wallMove w) r u)
  rw [← handed] at own others reaches still
  obtain ⟨off, latched, stop, warn, rest⟩ := classified_rows x r.value
  refine ⟨_, exec_accepted h, others, ?_, ?_, ?_, ?_, ?_, reaches, still⟩
  · exact fun a => own.trans (off a)
  · exact fun a b => own.trans (latched a b)
  · exact fun a b k => own.trans (stop a b k)
  · exact fun a b k l => own.trans (warn a b k l)
  · exact fun a b k l => own.trans (rest a b k l)

end Sys2Proof.Machine.Laws
end

section
/-! PROOFS. The excesses that samples count, and the faults they raise (R52, R74, R96, R97). -/

namespace Sys2Proof.Machine.Laws

/-! ### The readers of a load sample (R51, R52, R136) -/

/-- R51: the record with its peak load raised by a sample. -/
def peaked (v : Nat) (rec : Option Record) : Option Record :=
  rec.map fun (x : Record) => { x with peakLoad := max x.peakLoad v }

/-- R51, R52: the part in which a load sample has raised the peak load and written the overload count. -/
def loadNoted (c : Chan) (v : Nat) (s : State) : State :=
  stepNoted c (s.chan c).work (peaked v (s.chan c).record) (s.chan c).lastCreep
    { (s.chan c).jack with overloads := overloadCount (s.chan c) v } s

/-- R52: of a channel that is not IDLE the overload check notes the sample, and faults where it raises the fault. -/
theorem overloadCheck_peakLoad {c : Chan} {v : Nat} {s : State} (h : (s.chan c).state ≠ .idle) :
    overloadCheck c v (peakLoad c v s) =
      if overloadRaised (s.chan c) v then faultChannel .overload c (loadNoted c v s) else loadNoted c v s := by
  have raised : ∀ rec, overloadRaised { s.chan c with record := rec } v = overloadRaised (s.chan c) v := fun _ => rfl
  have count : ∀ rec, overloadCount { s.chan c with record := rec } v = overloadCount (s.chan c) v := fun _ => rfl
  simp [overloadCheck, peakLoad, h, raised, count, loadNoted, stepNoted, peaked]

theorem overloadRaised_of_noOverload {ch : Channel} {v : Nat} (h : NoOverload ch v) : overloadRaised ch v = false := by
  refine decide_eq_false ?_
  simp only [overloadCount, satAdd]
  rintro ⟨-, above, persists⟩
  rw [if_pos above] at persists
  rcases h with h | h <;> omega

/-- R52: a sample that raises no fault is noted and handed on. -/
theorem overloadCheck_quiet {c : Chan} {v : Nat} {s : State} (h : (s.chan c).state ≠ .idle)
    (quiet : NoOverload (s.chan c) v) : overloadCheck c v (peakLoad c v s) = loadNoted c v s := by
  rw [overloadCheck_peakLoad h, overloadRaised_of_noOverload quiet]
  rfl

/-- R55, R60, R67: the tests that follow the overload check, in their order (R136). -/
def loadTests (c : Chan) (v : Nat) (s : State) : State := lockoffTest c v (driftTest c v (settleTest c v s))

theorem handSample_jackLoad {c : Chan} {v : Nat} {r : InputRecord} (s : State) (hv : r.value = v) :
    handSample (.chan c .jackLoad) r s = removeStale c (loadTests c v (overloadCheck c v (peakLoad c v s))) := by
  simp [handSample, readers, loadTests, hv]

theorem handSample_groutPressure {c : Chan} {v : Nat} {r : InputRecord} (s : State) (hv : r.value = v) :
    handSample (.chan c .groutPressure) r s = removeStale c (overpressureCheck c v s) := by simp [handSample, readers, hv]

theorem handSample_winchTension {c : Chan} {v : Nat} {r : InputRecord} (s : State) (hv : r.value = v) :
    handSample (.chan c .winchTension) r s = removeStale c (tensionCheck c v s) := by simp [handSample, readers, hv]

theorem settleTest_not_running {c : Chan} {v : Nat} {s : State} (h : (s.chan c).state ≠ .running) :
    settleTest c v s = s := by
  have none : s.settling c = none := by
    unfold State.settling
    split
    · exact absurd ‹_› h
    · rfl
  simp [settleTest, none]

theorem driftTest_not_running {c : Chan} {v : Nat} {s : State} (h : (s.chan c).state ≠ .running) :
    driftTest c v s = s := by
  unfold driftTest
  split
  · exact absurd ‹_› h
  · rfl

theorem lockoffTest_not_running {c : Chan} {v : Nat} {s : State} (h : (s.chan c).state ≠ .running) :
    lockoffTest c v s = s := by
  unfold lockoffTest
  split
  · exact absurd ‹_› h
  · rfl

/-- R55, R60, R67: the tests look at a RUNNING channel alone. -/
theorem loadTests_not_running {c : Chan} {v : Nat} {s : State} (h : (s.chan c).state ≠ .running) :
    loadTests c v s = s := by
  rw [loadTests, settleTest_not_running h, driftTest_not_running h, lockoffTest_not_running h]

/-! ### What the tests leave of the overload check -/

/-- R52: the overload count and the fault it may raise are the overload check's own. -/
def OverloadKept (c : Chan) (s t : State) : Prop :=
  (t.chan c).jack.overloads = (s.chan c).jack.overloads ∧
    ((t.chan c).fault = some .overload → (s.chan c).fault = some .overload)

theorem overloadKept_refl (c : Chan) (s : State) : OverloadKept c s s := ⟨rfl, id⟩

theorem overloadKept_trans {c : Chan} {s t u : State} (h : OverloadKept c s t) (k : OverloadKept c t u) :
    OverloadKept c s u := ⟨k.1.trans h.1, fun f => h.2 (k.2 f)⟩

theorem overloadKept_setWork (c : Chan) (w : StepWork) (s : State) : OverloadKept c s (s.setWork c w) := by
  simp [OverloadKept]

theorem overloadKept_updRecord (c : Chan) (f : Record → Record) (s : State) : OverloadKept c s (s.updRecord c f) := by
  simp [OverloadKept]

theorem overloadKept_leaveStep (i : Nat) (c : Chan) (s : State) : OverloadKept c s (leaveStep .takeUp i c s) := by
  obtain ⟨-, -, fault, -⟩ := accounted_keeps (s.chan c)
  rw [OverloadKept, (leaveStep_spec .takeUp i c s).1]
  refine ⟨?_, fun f => fault ▸ f⟩
  cases h : (s.chan c).work <;> simp [leftWith, accounted, h]

theorem overloadKept_faultChannel {cause : FaultCause} (c : Chan) (s : State) (h : cause ≠ .overload) :
    OverloadKept c s (faultChannel cause c s) := by
  by_cases live : (s.chan c).state = .running ∨ (s.chan c).state = .frozen
  · rw [OverloadKept, faultChannel_chan live]
    exact ⟨rfl, fun f => absurd (Option.some.inj f) h⟩
  · rw [faultChannel_ignored cause c s live]
    exact overloadKept_refl c s

theorem overloadKept_failStep (st : Step) {cause : FaultCause} (c : Chan) (s : State) (h : cause ≠ .overload) :
    OverloadKept c s (failStep st cause c s) := by
  unfold failStep
  split
  · exact overloadKept_faultChannel c s h
  · exact overloadKept_leaveStep _ c s
  · exact overloadKept_trans (overloadKept_updRecord c _ s) (overloadKept_leaveStep _ c _)

theorem overloadKept_settleTest (c : Chan) (v : Nat) (s : State) : OverloadKept c s (settleTest c v s) := by
  unfold settleTest
  split
  · dsimp only
    split
    · exact overloadKept_trans (overloadKept_setWork c _ s) (overloadKept_leaveStep _ c _)
    · exact overloadKept_setWork c _ s
  · exact overloadKept_refl c s

theorem overloadKept_driftTest (c : Chan) (v : Nat) (s : State) : OverloadKept c s (driftTest c v s) := by
  unfold driftTest
  split
  · split
    · split
      · exact overloadKept_refl c s
      · split
        · exact overloadKept_faultChannel c s (by decide)
        · refine overloadKept_trans (t := appendResult _ c s) ?_ (overloadKept_leaveStep _ c _)
          simp [OverloadKept, appendResult]
        · exact overloadKept_setWork c _ s
    all_goals exact overloadKept_refl c s
  · exact overloadKept_refl c s

theorem overloadKept_lockoffTest (c : Chan) (v : Nat) (s : State) : OverloadKept c s (lockoffTest c v s) := by
  unfold lockoffTest
  split
  · split
    · split
      · dsimp only
        split
        · exact overloadKept_trans (overloadKept_updRecord c _ s) (overloadKept_failStep _ c _ (by decide))
        · exact overloadKept_trans (overloadKept_updRecord c _ s) (overloadKept_leaveStep _ c _)
      · exact overloadKept_refl c s
    all_goals exact overloadKept_refl c s
  · exact overloadKept_refl c s

theorem overloadKept_loadTests (c : Chan) (v : Nat) (s : State) : OverloadKept c s (loadTests c v s) :=
  overloadKept_trans (overloadKept_settleTest c v s)
    (overloadKept_trans (overloadKept_driftTest c v _) (overloadKept_lockoffTest c v _))

theorem overloadKept_removeStale (c : Chan) (s : State) : OverloadKept c s (removeStale c s) := by
  obtain ⟨⟨f, st, w, same⟩, -⟩ := removeStale_keeps c s
  rw [OverloadKept, same]
  exact ⟨rfl, id⟩

/-! ### OVERLOAD (R52) -/

theorem overloadFaultsChannel : OverloadFaultsChannel := by
  intro pos slot c v r s h hv u ch live above persists
  have idle : ch.state ≠ .idle := by rcases live with e | e <;> simp [e]
  have count : overloadCount ch v = min 255 (ch.jack.overloads + 1) := by simp [overloadCount, satAdd, above]
  have raised : overloadRaised ch v = true := by simp [overloadRaised, idle, above, count, persists]
  have occurs : overloadOccurs slot u = true := by
    rw [overloadOccurs, acceptedNext_of_accepts h hv]
    exact Bool.and_eq_true_iff.mpr ⟨raised, decide_eq_true live⟩
  have answer : exec (.overload pos slot) s =
      .next (handSample (.chan c .jackLoad) r (sampled pos slot (.chan c .jackLoad) r u)) :=
    congrArg Host.Outcome.next (slotOutcome_accepted h occurs)
  obtain ⟨input, sent⟩ := handSample_input_sent pos slot (.chan c .jackLoad) r u
  have checked : overloadCheck c v (peakLoad c v (sampled pos slot (.chan c .jackLoad) r u)) =
      faultChannel .overload c (loadNoted c v (sampled pos slot (.chan c .jackLoad) r u)) := by
    rw [overloadCheck_peakLoad (s := sampled pos slot (.chan c .jackLoad) r u) idle]
    exact if_pos raised
  have noted : (loadNoted c v (sampled pos slot (.chan c .jackLoad) r u)).chan c =
      { ch with record := peaked v ch.record, jack := { ch.jack with overloads := overloadCount ch v } } :=
    chan_setChan _ _ _
  have noted_live : ((loadNoted c v (sampled pos slot (.chan c .jackLoad) r u)).chan c).state = .running ∨
      ((loadNoted c v (sampled pos slot (.chan c .jackLoad) r u)).chan c).state = .frozen := by rw [noted]; exact live
  obtain ⟨⟨f, chan⟩, mgmt, others⟩ := removeStale_faultChannel (cause := .overload) noted_live
  rw [handSample_jackLoad _ hv, checked,
    loadTests_not_running (by rw [faultChannel_chan noted_live]; nofun)] at answer input sent
  rw [noted, count] at chan
  refine ⟨_, answer, ?_⟩
  rw [chan]
  refine ⟨rfl, rfl, ?_, rfl, rfl, rfl, rfl, rfl, rfl, congrArg Management.latched mgmt, fun d hd => ?_, input,
    sent⟩
  · simp [faulted, peaked, Function.comp_def]
  · have := others d hd
    rwa [loadNoted, stepNoted, chan_setChan_ne _ _ hd] at this

/-! ### OVERPRESSURE (R74) -/

theorem injecting_eq {c : Chan} {st : Step} {p : InjectStep} {w : InjectWork} {s : State}
    (step : s.currentStep c = some st) (body : st.body = .inject p) (work : (s.chan c).work = .inject w) :
    s.injecting c = some (st, p, w) := by
  obtain ⟨onFail, divert, b⟩ := st
  obtain rfl : b = .inject p := body
  simp [State.injecting, step, work]

/-- R74: the pressure sample of a live INJECT writes its over count, and faults where it raises the fault. -/
theorem overpressureCheck_eq {c : Chan} {v : Nat} {st : Step} {p : InjectStep} {w : InjectWork} {s : State}
    (live : (s.chan c).state = .running ∨ (s.chan c).state = .frozen) (step : s.currentStep c = some st)
    (body : st.body = .inject p) (work : (s.chan c).work = .inject w) :
    s.overpressured c v = decide (p.pressureCeiling + (s.chan c).config.overMargin < v ∧
        (s.chan c).config.overPersistence ≤ overCount p (s.chan c).config w v) ∧
      overpressureCheck c v s =
        if s.overpressured c v then
          faultChannel .overpressure c (s.setWork c (.inject { w with overs := overCount p (s.chan c).config w v }))
        else s.setWork c (.inject { w with overs := overCount p (s.chan c).config w v }) := by
  have checked : s.pressureChecked c = some (p, w) := by
    simp [State.pressureChecked, live, injecting_eq step body work]
  simp [State.overpressured, overpressureCheck, checked]

theorem overpressureFaultsChannel : OverpressureFaultsChannel := by
  intro pos slot c v st p w r s h hv u ch live active step body work above persists
  have count : overCount p ch.config w v = min 255 (w.overs + 1) := by simp [overCount, satAdd, above]
  have raises {z : State} (hc : z.chan c = ch) (hs : z.currentStep c = some st) : z.overpressured c v = true := by
    rw [(overpressureCheck_eq (s := z) (by rw [hc]; exact live) hs body (by rw [hc]; exact work)).1, hc, count]
    exact decide_eq_true ⟨above, persists⟩
  have occurs : overpressureOccurs slot u = true := by
    rw [overpressureOccurs, acceptedNext_of_accepts h hv]
    exact raises rfl step
  have answer : exec (.overpressure pos slot) s =
      .next (handSample (.chan c .groutPressure) r (sampled pos slot (.chan c .groutPressure) r u)) :=
    congrArg Host.Outcome.next (slotOutcome_accepted h occurs)
  obtain ⟨input, sent⟩ := handSample_input_sent pos slot (.chan c .groutPressure) r u
  have handed : handSample (.chan c .groutPressure) r (sampled pos slot (.chan c .groutPressure) r u) =
      removeStale c (faultChannel .overpressure c
        ((sampled pos slot (.chan c .groutPressure) r u).setWork c (.inject { w with overs := min 255 (w.overs + 1) }))) := by
    have := (overpressureCheck_eq (v := v) (s := sampled pos slot (.chan c .groutPressure) r u) live step body work).2
    rw [if_pos (raises (z := sampled pos slot (.chan c .groutPressure) r u) rfl step)] at this
    rw [← count]
    exact (handSample_groutPressure _ hv).trans (congrArg (removeStale c) this)
  have noted : ((sampled pos slot (.chan c .groutPressure) r u).setWork c
      (.inject { w with overs := min 255 (w.overs + 1) })).chan c =
      { ch with work := .inject { w with overs := min 255 (w.overs + 1) } } := chan_setChan _ _ _
  obtain ⟨⟨f, chan⟩, mgmt, others⟩ := removeStale_faultChannel (cause := .overpressure)
    (s := (sampled pos slot (.chan c .groutPressure) r u).setWork c
      (.inject { w with overs := min 255 (w.overs + 1) })) (by rw [noted]; exact live)
  rw [handed] at answer input sent
  rw [noted] at chan
  refine ⟨_, answer, ?_⟩
  rw [chan]
  refine ⟨rfl, rfl, rfl, rfl, active, rfl, rfl, congrArg Management.latched mgmt, fun d hd => ?_, input, sent⟩
  have := others d hd
  rwa [setWork_eq, chan_setChan_ne _ _ hd] at this

/-! ### TENSION_LIMIT (R96, R97) -/

/-- R96, R97: the tension sample of a live PAYOUT writes its count and its hold, and faults where it raises the
fault. -/
theorem tensionCheck_eq {c : Chan} {v : Nat} {w : PayoutWork} {s : State}
    (live : (s.chan c).state = .running ∨ (s.chan c).state = .frozen) (active : (s.chan c).phase = .active)
    (work : (s.chan c).work = .payout w) :
    let k := (s.chan c).config
    let s' := s.setWork c (.payout { w with hold := decide (k.tensionLimit < v), tension := tensionCount k w v })
    s.overtensioned c v = decide (k.tensionLimit < v ∧ k.tensionPersistence ≤ tensionCount k w v) ∧
      tensionCheck c v s = if s.overtensioned c v then faultChannel .tensionLimit c s' else s' := by
  have checked : s.tensionChecked c = some w := by
    rcases live with e | e <;> simp [State.tensionChecked, e, active, work]
  simp [State.overtensioned, tensionCheck, checked]

theorem tensionLimitFaultsChannel : TensionLimitFaultsChannel := by
  intro pos slot c v w r s h hv u ch live active work above persists
  have count : tensionCount ch.config w v = min 255 (w.tension + 1) := by simp [tensionCount, satAdd, above]
  have raises {z : State} (hc : z.chan c = ch) : z.overtensioned c v = true := by
    rw [(tensionCheck_eq (s := z) (by rw [hc]; exact live) (by rw [hc]; exact active) (by rw [hc]; exact work)).1, hc,
      count]
    exact decide_eq_true ⟨above, persists⟩
  have occurs : tensionLimitOccurs slot u = true := by
    rw [tensionLimitOccurs, acceptedNext_of_accepts h hv]
    exact raises rfl
  have answer : exec (.tensionLimit pos slot) s =
      .next (handSample (.chan c .winchTension) r (sampled pos slot (.chan c .winchTension) r u)) :=
    congrArg Host.Outcome.next (slotOutcome_accepted h occurs)
  obtain ⟨input, sent⟩ := handSample_input_sent pos slot (.chan c .winchTension) r u
  have handed : handSample (.chan c .winchTension) r (sampled pos slot (.chan c .winchTension) r u) =
      removeStale c (faultChannel .tensionLimit c ((sampled pos slot (.chan c .winchTension) r u).setWork c
        (.payout { w with hold := true, tension := min 255 (w.tension + 1) }))) := by
    have := (tensionCheck_eq (v := v) (s := sampled pos slot (.chan c .winchTension) r u) live active work).2
    rw [if_pos (raises (z := sampled pos slot (.chan c .winchTension) r u) rfl)] at this
    rw [← count, ← decide_eq_true above]
    exact (handSample_winchTension _ hv).trans (congrArg (removeStale c) this)
  have noted : ((sampled pos slot (.chan c .winchTension) r u).setWork c
      (.payout { w with hold := true, tension := min 255 (w.tension + 1) })).chan c =
      { ch with work := .payout { w with hold := true, tension := min 255 (w.tension + 1) } } := chan_setChan _ _ _
  obtain ⟨⟨f, chan⟩, mgmt, others⟩ := removeStale_faultChannel (cause := .tensionLimit)
    (s := (sampled pos slot (.chan c .winchTension) r u).setWork c
      (.payout { w with hold := true, tension := min 255 (w.tension + 1) })) (by rw [noted]; exact live)
  rw [handed] at answer input sent
  rw [noted] at chan
  refine ⟨_, answer, ?_⟩
  rw [chan]
  refine ⟨rfl, rfl, rfl, rfl, active, rfl, rfl, congrArg Management.latched mgmt, fun d hd => ?_, input, sent⟩
  have := others d hd
  rwa [setWork_eq, chan_setChan_ne _ _ hd] at this

/-! ### The counts below their persistences -/

/-- R51, R52: what a load sample leaves of a channel's overload count and fault. -/
theorem handSample_overloads {c : Chan} {v : Nat} {r : InputRecord} (s : State) (hv : r.value = v) :
    let t := handSample (.chan c .jackLoad) r s
    ((s.chan c).state ≠ .idle → (t.chan c).jack.overloads = overloadCount (s.chan c) v ∧
      (NoOverload (s.chan c) v → (t.chan c).fault = some .overload → (s.chan c).fault = some .overload)) ∧
      ((s.chan c).state = .idle → (t.chan c).jack = (s.chan c).jack) := by
  intro t
  have handed : t = removeStale c (loadTests c v (overloadCheck c v (peakLoad c v s))) := handSample_jackLoad s hv
  refine ⟨fun idle => ?_, fun idle => ?_⟩
  · obtain ⟨count, fault⟩ := overloadKept_trans (overloadKept_loadTests c v (overloadCheck c v (peakLoad c v s)))
      (overloadKept_removeStale c _)
    rw [← handed] at count fault
    have noted : (loadNoted c v s).chan c = { s.chan c with
        record := peaked v (s.chan c).record
        jack := { (s.chan c).jack with overloads := overloadCount (s.chan c) v } } := chan_setChan _ _ _
    refine ⟨count.trans ?_, fun quiet f => ?_⟩
    · rw [overloadCheck_peakLoad idle]
      split
      · by_cases live : ((loadNoted c v s).chan c).state = .running ∨ ((loadNoted c v s).chan c).state = .frozen
        · rw [faultChannel_chan live, noted]; rfl
        · rw [faultChannel_ignored _ _ _ live, noted]
      · rw [noted]
    · have := fault f
      rw [overloadCheck_quiet idle quiet, noted] at this
      exact this
  · have unchecked : overloadCheck c v (peakLoad c v s) = peakLoad c v s := by simp [overloadCheck, peakLoad, idle]
    have notRunning : ((peakLoad c v s).chan c).state ≠ .running := by simp [peakLoad, idle]
    obtain ⟨⟨f, st, w, same⟩, -⟩ := removeStale_keeps c (peakLoad c v s)
    rw [handed, unchecked, loadTests_not_running notRunning, same]
    simp [peakLoad]

/-- R74: what a pressure sample below the persistence leaves of a live INJECT. -/
theorem handSample_overs {c : Chan} {v : Nat} {r : InputRecord} {st : Step} {p : InjectStep} {w : InjectWork} {s : State}
    (hv : r.value = v) (live : (s.chan c).state = .running ∨ (s.chan c).state = .frozen)
    (step : s.currentStep c = some st) (body : st.body = .inject p) (work : (s.chan c).work = .inject w)
    (quiet : ¬ (p.pressureCeiling + (s.chan c).config.overMargin < v ∧
      (s.chan c).config.overPersistence ≤ overCount p (s.chan c).config w v)) :
    let t := handSample (.chan c .groutPressure) r s
    ClaimMoved (.inject { w with overs := overCount p (s.chan c).config w v }) (t.chan c).work ∧
      (t.chan c).fault = (s.chan c).fault := by
  intro t
  obtain ⟨raised, checked⟩ := overpressureCheck_eq (v := v) live step body work
  rw [raised.trans (decide_eq_false quiet), if_neg Bool.false_ne_true] at checked
  have handed : t = removeStale c (s.setWork c (.inject { w with overs := overCount p (s.chan c).config w v })) :=
    (handSample_groutPressure s hv).trans (congrArg (removeStale c) checked)
  obtain ⟨⟨f, x, y, same⟩, moved, -⟩ := removeStale_keeps c
    (s.setWork c (.inject { w with overs := overCount p (s.chan c).config w v }))
  rw [← handed] at same moved
  exact ⟨moved _ (by simp), by rw [same]; simp⟩

/-- R96: what a tension sample below the persistence leaves of a live PAYOUT. -/
theorem handSample_tension {c : Chan} {v : Nat} {r : InputRecord} {w : PayoutWork} {s : State}
    (hv : r.value = v) (live : (s.chan c).state = .running ∨ (s.chan c).state = .frozen)
    (active : (s.chan c).phase = .active) (work : (s.chan c).work = .payout w)
    (quiet : ¬ ((s.chan c).config.tensionLimit < v ∧
      (s.chan c).config.tensionPersistence ≤ tensionCount (s.chan c).config w v)) :
    let t := handSample (.chan c .winchTension) r s
    (t.chan c).work = .payout { w with
      hold := decide ((s.chan c).config.tensionLimit < v), tension := tensionCount (s.chan c).config w v } ∧
      (t.chan c).fault = (s.chan c).fault := by
  intro t
  obtain ⟨raised, checked⟩ := tensionCheck_eq (v := v) live active work
  rw [raised.trans (decide_eq_false quiet), if_neg Bool.false_ne_true] at checked
  have handed : t = removeStale c (s.setWork c (.payout { w with
      hold := decide ((s.chan c).config.tensionLimit < v), tension := tensionCount (s.chan c).config w v })) :=
    (handSample_winchTension s hv).trans (congrArg (removeStale c) checked)
  obtain ⟨⟨f, x, y, same⟩, -, kept⟩ := removeStale_keeps c (s.setWork c (.payout { w with
    hold := decide ((s.chan c).config.tensionLimit < v), tension := tensionCount (s.chan c).config w v }))
  rw [← handed] at same kept
  exact ⟨kept _ (by simp), by rw [same]; simp⟩

theorem excessesAreCounted : ExcessesAreCounted := by
  intro pos slot c m v r s h hv u ch live
  refine ⟨_, exec_accepted h, ?_⟩
  have same : (sampled pos slot (.chan c m) r u).chan c = ch := rfl
  have steps : (sampled pos slot (.chan c m) r u).currentStep c = u.currentStep c := rfl
  generalize sampled pos slot (.chan c m) r u = z at same steps ⊢
  refine ⟨?_, ?_, ?_, ?_⟩
  · rintro rfl idle
    obtain ⟨counts, -⟩ := handSample_overloads (c := c) z hv
    rw [same] at counts
    exact counts idle
  · rintro rfl idle
    obtain ⟨-, stands⟩ := handSample_overloads (c := c) z hv
    rw [same] at stands
    exact stands idle
  · rintro st p w rfl alive - step body work limit
    have counted := handSample_overs (s := z) hv (by rw [same]; exact alive) (steps.trans step) body (by rw [same]; exact work)
    rw [same] at counted
    refine ⟨fun above below => ?_, fun within => ?_⟩
    · have count : overCount p ch.config w v = min 255 (w.overs + 1) := if_pos above
      rw [count] at counted
      exact counted fun k => absurd k.2 (Nat.not_le.mpr below)
    · have count : overCount p ch.config w v = 0 := if_neg (Nat.not_lt.mpr within)
      rw [count] at counted
      exact counted fun k => absurd k.1 (Nat.not_lt.mpr within)
  · rintro w rfl alive active work
    have counted := handSample_tension (s := z) hv (by rw [same]; exact alive) (by rw [same]; exact active)
      (by rw [same]; exact work)
    rw [same] at counted
    refine ⟨fun above below => ?_, fun within => ?_⟩
    · have count : tensionCount ch.config w v = min 255 (w.tension + 1) := if_pos above
      rw [count, decide_eq_true above] at counted
      exact counted fun k => absurd k.2 (Nat.not_le.mpr below)
    · have count : tensionCount ch.config w v = 0 := if_neg (Nat.not_lt.mpr within)
      rw [count, decide_eq_false (Nat.not_lt.mpr within)] at counted
      exact counted fun k => absurd k.1 (Nat.not_lt.mpr within)

/-- Settles O29: each excess is counted by its check, which faults a live channel at the persistence; no later reader
of the sample touches the count. -/
theorem excessesFaultChannel : Obligations.ExcessesFaultChannel :=
  ⟨overloadFaultsChannel, overpressureFaultsChannel, tensionLimitFaultsChannel, excessesAreCounted⟩

end Sys2Proof.Machine.Laws
end

section
/-! PROOFS. The load samples of a RAMP, a HOLD and a LOCKOFF (R51, R55, R60, R67). -/

namespace Sys2Proof.Machine.Laws

/-! ### What a noted channel shows -/

theorem currentStep_stepNoted (c : Chan) (w : StepWork) (rec : Option Record) (ks : Option Int) (j : JackLoop) (s : State) :
    (stepNoted c w rec ks j s).currentStep c = s.currentStep c := by
  simp [State.currentStep, State.stepAt, State.programHeader, stepNoted]

theorem setpoint_stepNoted (c : Chan) (w : StepWork) (rec : Option Record) (ks : Option Int) (j : JackLoop) (s : State) :
    (stepNoted c w rec ks j s).setpoint c = s.setpoint c := by
  simp [State.setpoint, stepNoted]

theorem chanValue_stepNoted (c : Chan) (w : StepWork) (rec : Option Record) (ks : Option Int) (j : JackLoop) (m : Measurand)
    (s : State) : (stepNoted c w rec ks j s).chanValue c m = s.chanValue c m := by
  have limit : (stepNoted c w rec ks j s).staleLimit (.chan c m) = s.staleLimit (.chan c m) := by
    cases m <;> simp [State.staleLimit, stepNoted]
  simp only [State.chanValue, State.availableValue, limit]
  rfl

theorem residual_stepNoted (c : Chan) (w : StepWork) (rec : Option Record) (ks : Option Int) (j : JackLoop) (s : State) :
    (stepNoted c w rec ks j s).residual c = s.residual c := by
  simp only [State.residual, chanValue_stepNoted]
  rfl

theorem setWork_stepNoted (c : Chan) (w w' : StepWork) (rec : Option Record) (ks : Option Int) (j : JackLoop)
    (s : State) : (stepNoted c w rec ks j s).setWork c w' = stepNoted c w' rec ks j s := by
  simp [stepNoted]

theorem updRecord_stepNoted (c : Chan) (w : StepWork) (rec : Option Record) (ks : Option Int) (j : JackLoop)
    (f : Record → Record) (s : State) :
    (stepNoted c w rec ks j s).updRecord c f = stepNoted c w (rec.map f) ks j s := by
  simp [stepNoted]

/-- R51, R52, R136: the part in which a load sample has been noted, the step's working fields being `w`. -/
def loadNotedAs (c : Chan) (w : StepWork) (v : Nat) (s : State) : State :=
  stepNoted c w (peaked v (s.chan c).record) (s.chan c).lastCreep
    { (s.chan c).jack with overloads := overloadCount (s.chan c) v } s

theorem loadNoted_eq {c : Chan} {w : StepWork} {v : Nat} {s : State} (work : (s.chan c).work = w) :
    loadNoted c v s = loadNotedAs c w v s := by rw [loadNoted, work]; rfl

theorem loadNotedAs_chan (c : Chan) (w : StepWork) (v : Nat) (s : State) :
    (loadNotedAs c w v s).chan c = { s.chan c with
      work := w, record := peaked v (s.chan c).record
      jack := { (s.chan c).jack with overloads := overloadCount (s.chan c) v } } := chan_setChan _ _ _

/-- R136: the load sample of a RUNNING channel that raises no OVERLOAD is noted and put to the step's own test. -/
theorem handSample_quiet {c : Chan} {v : Nat} {r : InputRecord} {w : StepWork} {s : State} (hv : r.value = v)
    (running : (s.chan c).state = .running) (work : (s.chan c).work = w) (quiet : NoOverload (s.chan c) v) :
    handSample (.chan c .jackLoad) r s = removeStale c (loadTests c v (loadNotedAs c w v s)) := by
  rw [handSample_jackLoad s hv, overloadCheck_quiet (by simp [running]) quiet, loadNoted_eq work]

/-! ### The tests of the other step kinds -/

theorem settleTest_of_work {c : Chan} {v : Nat} {s : State} (h : ∀ x, (s.chan c).work ≠ .ramp x) :
    settleTest c v s = s := by
  have none : s.settling c = none := by
    unfold State.settling
    split
    · exact absurd ‹_› (h _)
    · rfl
  simp [settleTest, none]

theorem driftTest_of_work {c : Chan} {v : Nat} {s : State} (h : ∀ x, (s.chan c).work ≠ .hold x) :
    driftTest c v s = s := by
  unfold driftTest
  split
  · exact absurd ‹_› (h _)
  · rfl

theorem lockoffTest_of_work {c : Chan} {v : Nat} {s : State} (h : ∀ x, (s.chan c).work ≠ .lockoff x) :
    lockoffTest c v s = s := by
  unfold lockoffTest
  split
  · exact absurd ‹_› (h _)
  · rfl

/-- R13: once a step is left there is nothing to test or to make available. -/
theorem leaveStep_work_phase (i : Nat) (c : Chan) (s : State) :
    ((leaveStep .takeUp i c s).chan c).work = .none ∧ ((leaveStep .takeUp i c s).chan c).phase = .takeUp := by
  rw [(leaveStep_spec .takeUp i c s).1]
  exact ⟨rfl, rfl⟩

theorem removeStale_leaveStep (i : Nat) (c : Chan) (s : State) :
    removeStale c (leaveStep .takeUp i c s) = leaveStep .takeUp i c s :=
  removeStale_of_not_active (by rw [(leaveStep_work_phase i c s).2]; nofun)

/-- R142: the channel that goes on with its step, as it was noted. -/
theorem removeStale_loadNotedAs {c : Chan} {w : StepWork} {v : Nat} {s : State} (running : (s.chan c).state = .running) :
    ∃ f, (removeStale c (loadNotedAs c w v s)).chan c = { s.chan c with
      work := w, freeze := f, record := peaked v (s.chan c).record
      jack := { (s.chan c).jack with overloads := overloadCount (s.chan c) v } } := by
  obtain ⟨f, same⟩ := removeStale_not_frozen (c := c) (s := loadNotedAs c w v s)
    (by rw [loadNotedAs_chan, running]; nofun)
  exact ⟨f, by rw [same, chan_setChan, loadNotedAs_chan]⟩

/-- R13, R51: a step left after its load sample was noted. -/
theorem leaveStep_loadNotedAs (i : Nat) (c : Chan) (w : StepWork) (v : Nat) (s : State) :
    StepLeft i c s (leaveStep .takeUp i c (loadNotedAs c w v s)) ∧
      (leaveStep .takeUp i c (loadNotedAs c w v s)).chan c = leftWith .takeUp i { s.chan c with
        work := w, record := peaked v (s.chan c).record
        jack := { (s.chan c).jack with overloads := overloadCount (s.chan c) v } } :=
  leaveStep_stepNoted i c w _ _ _ s

/-! ### RAMP (R55) -/

/-- R55: the settle test of a noted SETTLING RAMP. -/
theorem settleTest_settling {c : Chan} {v : Nat} {st : Step} {p : RampStep} {w : RampWork} {s : State}
    (running : (s.chan c).state = .running) (step : s.currentStep c = some st) (body : st.body = .ramp p)
    (phase : w.phase = .settling) :
    let n := settleCount p.settleBand (s.setpoint c) w v
    let z := loadNotedAs c (.ramp w) v s
    z.settles c v = decide (p.settleNeed ≤ n) ∧
      settleTest c v z = if p.settleNeed ≤ n
        then leaveStep .takeUp (nextIndex (s.chan c).index) c (loadNotedAs c (.ramp { w with settle := n }) v s)
        else loadNotedAs c (.ramp { w with settle := n }) v s := by
  intro n z
  have settling : z.settling c = some (p, w) := by
    obtain ⟨onFail, divert, b⟩ := st
    obtain rfl : b = .ramp p := body
    have current : z.currentStep c = some { onFail := onFail, divert := divert, body := .ramp p } :=
      (currentStep_stepNoted ..).trans step
    simp [State.settling, current, z, loadNotedAs_chan, running, phase]
  have count : settleCount p.settleBand (z.setpoint c) w v = n := congrArg (settleCount p.settleBand · w v)
    (setpoint_stepNoted ..)
  have written : z.setWork c (.ramp { w with settle := n }) = loadNotedAs c (.ramp { w with settle := n }) v s :=
    setWork_stepNoted ..
  have settles : z.settles c v = decide (p.settleNeed ≤ n) := by simp [State.settles, settling, count]
  refine ⟨settles, ?_⟩
  have completes : completeStep c (loadNotedAs c (.ramp { w with settle := n }) v s) =
      leaveStep .takeUp (nextIndex (s.chan c).index) c (loadNotedAs c (.ramp { w with settle := n }) v s) :=
    completeStep_stepNoted ..
  simp only [settleTest, settling, count, written, settles, decide_eq_true_eq, completes]

/-- R55: in phase PROFILING nothing is counted. -/
theorem settleTest_profiling {c : Chan} {v : Nat} {w : RampWork} {s : State} (phase : w.phase = .profiling) :
    settleTest c v (loadNotedAs c (.ramp w) v s) = loadNotedAs c (.ramp w) v s := by
  have none : (loadNotedAs c (.ramp w) v s).settling c = none := by
    unfold State.settling
    split
    · rename_i hw
      rw [loadNotedAs_chan] at hw
      simp [← StepWork.ramp.inj hw, phase]
    · rfl
  simp [settleTest, none]

theorem loadTests_ramp {c : Chan} {v : Nat} {s t : State} (h : settleTest c v s = t)
    (work : (∃ x, (t.chan c).work = .ramp x) ∨ (t.chan c).work = .none) : loadTests c v s = t := by
  rw [loadTests, h, driftTest_of_work, lockoffTest_of_work]
  · rcases work with ⟨x, e⟩ | e <;> simp [e]
  · rcases work with ⟨x, e⟩ | e <;> simp [e]

theorem settledRampCompletes : SettledRampCompletes := by
  intro pos slot c v st p w r s h hv u ch running active step body work phase within enough quiet
  have count : settleCount p.settleBand (u.setpoint c) w v = min 255 (w.settle + 1) := if_pos within
  have settled (z : State) (hc : z.chan c = ch) (hs : z.currentStep c = some st) (hp : z.setpoint c = u.setpoint c) :
      (loadNotedAs c (.ramp w) v z).settles c v = true ∧
      settleTest c v (loadNotedAs c (.ramp w) v z) = leaveStep .takeUp (nextIndex ch.index) c
        (loadNotedAs c (.ramp { w with settle := min 255 (w.settle + 1) }) v z) := by
    obtain ⟨settles, test⟩ :=
      settleTest_settling (v := v) (s := z) (by rw [hc]; exact running) hs body phase
    rw [hp, count] at settles test
    exact ⟨settles.trans (decide_eq_true enough), by rw [test, if_pos enough, hc]⟩
  have occurs : rampSettledOccurs slot u = true := by
    rw [rampSettledOccurs, acceptedNext_of_accepts h hv]
    have checked : overloadCheck c v (peakLoad c v (u.setInput (.chan c .jackLoad) r)) =
        loadNotedAs c (.ramp w) v (u.setInput (.chan c .jackLoad) r) := by
      rw [← loadNoted_eq (s := u.setInput (.chan c .jackLoad) r) work]
      exact overloadCheck_quiet (s := u.setInput (.chan c .jackLoad) r)
        (fun e => ChanState.noConfusion (running.symm.trans e)) quiet
    dsimp only
    rw [checked]
    exact (settled _ rfl step rfl).1
  have answer : exec (.rampSettled pos slot) s =
      .next (handSample (.chan c .jackLoad) r (sampled pos slot (.chan c .jackLoad) r u)) :=
    congrArg Host.Outcome.next (slotOutcome_accepted h occurs)
  obtain ⟨input, sent⟩ := handSample_input_sent pos slot (.chan c .jackLoad) r u
  obtain ⟨-, test⟩ := settled (sampled pos slot (.chan c .jackLoad) r u) rfl step rfl
  rw [handSample_quiet (s := sampled pos slot (.chan c .jackLoad) r u) hv running work quiet,
    loadTests_ramp test (.inr (leaveStep_work_phase _ _ _).1), removeStale_leaveStep] at answer input sent
  obtain ⟨left, chan⟩ := leaveStep_loadNotedAs (nextIndex ch.index) c
    (.ramp { w with settle := min 255 (w.settle + 1) }) v (sampled pos slot (.chan c .jackLoad) r u)
  refine ⟨_, answer, left, ?_, ?_, input, sent⟩
  · rw [chan]; rfl
  · rw [chan]; rfl

theorem settlingSampleCounts : SettlingSampleCounts := by
  intro pos slot c v st p w r s h hv u ch within running active step body work quiet need
  refine ⟨_, exec_accepted h, ?_⟩
  rw [handSample_quiet (s := sampled pos slot (.chan c .jackLoad) r u) hv running work quiet]
  have goesOn (w' : RampWork) (test : settleTest c v (loadNotedAs c (.ramp w) v (sampled pos slot (.chan c .jackLoad) r u)) =
      loadNotedAs c (.ramp w') v (sampled pos slot (.chan c .jackLoad) r u)) :
      let t := removeStale c (loadTests c v (loadNotedAs c (.ramp w) v (sampled pos slot (.chan c .jackLoad) r u)))
      (t.chan c).work = .ramp w' ∧ (t.chan c).phase = .active ∧ (t.chan c).index = ch.index ∧
        (t.chan c).record = peaked v ch.record := by
    obtain ⟨f, chan⟩ := removeStale_loadNotedAs (w := .ramp w') (v := v)
      (s := sampled pos slot (.chan c .jackLoad) r u) running
    rw [loadTests_ramp test (.inl ⟨w', by rw [loadNotedAs_chan]⟩)]
    dsimp only
    rw [chan]
    exact ⟨rfl, active, rfl, rfl⟩
  cases phase : w.phase with
  | profiling =>
    obtain ⟨same, stays⟩ := goesOn w (settleTest_profiling phase)
    exact ⟨fun _ => stays, nofun, nofun, fun _ => same⟩
  | settling =>
    obtain ⟨-, test⟩ := settleTest_settling (v := v) (s := sampled pos slot (.chan c .jackLoad) r u) running step body phase
    by_cases inside : within
    · have count : settleCount p.settleBand (u.setpoint c) w v = min 255 (w.settle + 1) := if_pos inside
      by_cases below : min 255 (w.settle + 1) < p.settleNeed
      · obtain ⟨same, stays⟩ := goesOn { w with settle := min 255 (w.settle + 1) }
          (by rw [← count]; exact test.trans (if_neg (count ▸ Nat.not_le.mpr below)))
        exact ⟨fun _ => stays, fun _ _ _ => phase ▸ same, fun _ k => absurd inside k, nofun⟩
      · exact ⟨fun k => (by rcases k with k | k | k
                            · cases k
                            · exact absurd inside k
                            · exact absurd k below), fun _ _ k => absurd k below, fun _ k => absurd inside k, nofun⟩
    · have count : settleCount p.settleBand (u.setpoint c) w v = 0 := if_neg inside
      obtain ⟨same, stays⟩ := goesOn { w with settle := 0 }
        (by rw [← count]; exact test.trans (if_neg (count ▸ Nat.not_le.mpr need)))
      exact ⟨fun _ => stays, fun _ k => absurd k inside, fun _ _ => phase ▸ same, nofun⟩

/-- Settles O26: the settle test of a RAMP that the overload check has let through. -/
theorem rampSettles : Obligations.RampSettles := ⟨settledRampCompletes, settlingSampleCounts⟩

end Sys2Proof.Machine.Laws
end

section
/-! PROOFS. The drift test of a HOLD (R60, R63) and the completion test of a LOCKOFF (R67, R68). -/

namespace Sys2Proof.Machine.Laws

/-! ### HOLD (R60) -/

/-- R60: what the drift test does to a RUNNING HOLD. -/
theorem driftTest_eq {c : Chan} {v : Nat} {st : Step} {p : HoldStep} {w : HoldWork} {s : State}
    (running : (s.chan c).state = .running) (step : s.currentStep c = some st) (body : st.body = .hold p)
    (work : (s.chan c).work = .hold w) :
    (distance v (s.setpoint c) ≤ p.tolerance → driftTest c v s = s) ∧
      (¬ distance v (s.setpoint c) ≤ p.tolerance →
        (st.onFail = .halt → driftTest c v s = faultChannel .loadDrift c s) ∧
        (st.onFail = .divert → driftTest c v s = divertStep st.divert c (appendResult
          { verdict := .fail, ks := none, marks := w.marks, drift := w.drift, interrupted := w.interrupted } c s)) ∧
        (st.onFail = .cont → driftTest c v s = s.setWork c (.hold { w with drift := true }))) := by
  obtain ⟨onFail, divert, b⟩ := st
  obtain rfl : b = .hold p := body
  refine ⟨fun h => by simp [driftTest, running, step, work, h], fun h => ⟨?_, ?_, ?_⟩⟩ <;> rintro rfl <;>
    simp [driftTest, running, step, work, h]

theorem loadTests_hold {c : Chan} {v : Nat} {s : State} {w : HoldWork} (work : (s.chan c).work = .hold w)
    (after : ∀ x, ((driftTest c v s).chan c).work ≠ .lockoff x) : loadTests c v s = driftTest c v s := by
  rw [loadTests, settleTest_of_work (by simp [work]), lockoffTest_of_work after]

theorem loadSampleTestsDrift : LoadSampleTestsDrift := by
  intro pos slot c v st p w rec r s h hv u ch within noted running active step body work record quiet
  refine ⟨_, exec_accepted h, ?_⟩
  rw [handSample_quiet (s := sampled pos slot (.chan c .jackLoad) r u) hv running work quiet]
  have same : (sampled pos slot (.chan c .jackLoad) r u).chan c = ch := rfl
  have peak : peaked v ch.record = some noted := by rw [record]; rfl
  have mgmt : (sampled pos slot (.chan c .jackLoad) r u).mgmt = u.mgmt := rfl
  have goes (i : Nat) (t : State) : StepLeft i c (sampled pos slot (.chan c .jackLoad) r u) t → StepLeft i c u t := id
  have step' : (sampled pos slot (.chan c .jackLoad) r u).currentStep c = some st := step
  have point : (sampled pos slot (.chan c .jackLoad) r u).setpoint c = u.setpoint c := rfl
  generalize sampled pos slot (.chan c .jackLoad) r u = z at same mgmt goes step' point ⊢
  have zrunning : (z.chan c).state = .running := by rw [same]; exact running
  have chan := loadNotedAs_chan c (.hold w) v z
  have zwork : ((loadNotedAs c (.hold w) v z).chan c).work = .hold w := by rw [chan]
  have nrunning : ((loadNotedAs c (.hold w) v z).chan c).state = .running := by rw [chan]; exact zrunning
  obtain ⟨inside, outside⟩ := driftTest_eq (v := v) (s := loadNotedAs c (.hold w) v z) nrunning
    ((currentStep_stepNoted ..).trans step') body zwork
  rw [show (loadNotedAs c (.hold w) v z).setpoint c = u.setpoint c from (setpoint_stepNoted ..).trans point] at inside outside
  have goesOn (w' : HoldWork) (test : driftTest c v (loadNotedAs c (.hold w) v z) = loadNotedAs c (.hold w') v z) :
      let t := removeStale c (loadTests c v (loadNotedAs c (.hold w) v z))
      (t.chan c).work = .hold w' ∧ (t.chan c).state = .running ∧ (t.chan c).phase = .active ∧
        (t.chan c).record = some noted := by
    obtain ⟨f, chan⟩ := removeStale_loadNotedAs (w := .hold w') (v := v) zrunning
    rw [same] at chan
    dsimp only
    rw [loadTests_hold zwork (by rw [test, loadNotedAs_chan]; nofun), test, chan]
    exact ⟨rfl, running, active, peak⟩
  refine ⟨fun k => goesOn w (inside k), fun k course => ?_, fun k course => ?_,
    fun k course => goesOn _ (((outside k).2.2 course).trans (setWork_stepNoted ..))⟩
  · have test := (outside k).1 course
    obtain ⟨⟨f, faultedAs⟩, latched, -⟩ := removeStale_faultChannel (cause := .loadDrift) (.inl nrunning)
    rw [loadTests_hold zwork (by rw [test, faultChannel_chan (.inl nrunning), chan]; nofun), test, faultedAs, latched, chan,
      same, peak]
    exact ⟨rfl, rfl, rfl, active, rfl, rfl, by rw [show (loadNotedAs c (.hold w) v z).mgmt = u.mgmt from mgmt]⟩
  · have test := (outside k).2.1 course
    have appended : divertStep st.divert c (appendResult
        { verdict := .fail, ks := none, marks := w.marks, drift := w.drift, interrupted := w.interrupted } c
        (loadNotedAs c (.hold w) v z)) =
        leaveStep .takeUp st.divert c (stepNoted c (.hold w) (some (noted.appendHold
          { verdict := .fail, ks := none, marks := w.marks, drift := w.drift, interrupted := w.interrupted })) none
          { (z.chan c).jack with overloads := overloadCount (z.chan c) v } z) := by
      rw [← Option.map_some (f := Record.appendHold _), ← peak, ← same]
      simp [divertStep, appendResult, loadNotedAs, stepNoted]
    obtain ⟨left, gone⟩ := leaveStep_stepNoted st.divert c (.hold w) (some (noted.appendHold
      { verdict := .fail, ks := none, marks := w.marks, drift := w.drift, interrupted := w.interrupted })) none
      { (z.chan c).jack with overloads := overloadCount (z.chan c) v } z
    rw [loadTests_hold zwork (by rw [test, appended, (leaveStep_work_phase _ _ _).1]; nofun), test, appended,
      removeStale_leaveStep]
    exact ⟨goes _ _ left, by rw [gone]; rfl, by rw [gone]; rfl⟩

/-! ### LOCKOFF (R67) -/

theorem lossExceeds_iff (load residual : Option Nat) (allowed : Nat) :
    lossExceeds load residual allowed = true ↔ ∃ l x, load = some l ∧ residual = some x ∧ x + allowed < l := by
  cases load <;> cases residual <;> simp [lossExceeds]

/-- R67: the record that has taken the residual load. -/
def residualTaken (residual : Option Nat) (x : Record) : Record := { x with residualLoad := residual }

/-- R67: what the completion test does to a RUNNING LOCKOFF. -/
theorem lockoffTest_eq {c : Chan} {v : Nat} {st : Step} {p : LockoffStep} {w : LockoffWork} {s : State}
    (running : (s.chan c).state = .running) (step : s.currentStep c = some st) (body : st.body = .lockoff p)
    (work : (s.chan c).work = .lockoff w) :
    (¬ (w.phase = .releasing ∧ s.setpoint c = 0 ∧ v ≤ p.seatThreshold) → lockoffTest c v s = s) ∧
      (w.phase = .releasing ∧ s.setpoint c = 0 ∧ v ≤ p.seatThreshold →
        (lossExceeds w.load (s.residual c) p.allowedLoss = true → lockoffTest c v s =
          failStep st .lockoffLoss c (s.updRecord c (residualTaken (s.residual c)))) ∧
        (¬ lossExceeds w.load (s.residual c) p.allowedLoss = true → lockoffTest c v s =
          completeStep c (s.updRecord c (residualTaken (s.residual c))))) := by
  obtain ⟨onFail, divert, b⟩ := st
  obtain rfl : b = .lockoff p := body
  have shown : lockoffTest c v s = if w.phase = .releasing ∧ s.setpoint c = 0 ∧ v ≤ p.seatThreshold then
      if lossExceeds w.load (s.residual c) p.allowedLoss = true
      then failStep { onFail := onFail, divert := divert, body := .lockoff p } .lockoffLoss c
        (s.updRecord c (residualTaken (s.residual c)))
      else completeStep c (s.updRecord c (residualTaken (s.residual c))) else s := by
    simp only [lockoffTest, running, step, work]
    rfl
  refine ⟨fun h => shown.trans (if_neg h), fun h => ⟨fun k => ?_, fun k => ?_⟩⟩
  · rw [shown, if_pos h, if_pos k]
  · rw [shown, if_pos h, if_neg k]

theorem loadTests_lockoff {c : Chan} {v : Nat} {s : State} {w : LockoffWork} (work : (s.chan c).work = .lockoff w) :
    loadTests c v s = lockoffTest c v s := by
  rw [loadTests, settleTest_of_work (by simp [work]), driftTest_of_work (by simp [work])]

/-- R50, R68: a LOCKOFF that is left. -/
theorem leftWith_lockoff (i : Nat) (ch : Channel) (w : LockoffWork) (work : ch.work = .lockoff w) :
    (leftWith .takeUp i ch).record = ch.record ∧ (leftWith .takeUp i ch).wedge = false ∧
      (leftWith .takeUp i ch).jack.integral = 0 := by
  simp [leftWith, accounted, work]

theorem loadSampleEndsLockoff : LoadSampleEndsLockoff := by
  intro pos slot c v st p w rec r s h hv u ch released residual loss taken left running active step body work record quiet
  refine ⟨_, exec_accepted h, ?_⟩
  rw [handSample_quiet (s := sampled pos slot (.chan c .jackLoad) r u) hv running work quiet]
  have same : (sampled pos slot (.chan c .jackLoad) r u).chan c = ch := rfl
  have peak : peaked v ch.record = some { rec with peakLoad := max rec.peakLoad v } := by rw [record]; rfl
  have mgmt : (sampled pos slot (.chan c .jackLoad) r u).mgmt = u.mgmt := rfl
  have goes (i : Nat) (t : State) : StepLeft i c (sampled pos slot (.chan c .jackLoad) r u) t → StepLeft i c u t := id
  have step' : (sampled pos slot (.chan c .jackLoad) r u).currentStep c = some st := step
  have point : (sampled pos slot (.chan c .jackLoad) r u).setpoint c = u.setpoint c := rfl
  have rest : (sampled pos slot (.chan c .jackLoad) r u).residual c = residual := by
    have other : (sampled pos slot (.chan c .jackLoad) r u).chanValue c .anchorLoad = u.chanValue c .anchorLoad :=
      chanValue_setInput_ne (m := .jackLoad) r (slotPassed pos slot u) (by decide)
    rw [State.residual, other]
    rfl
  generalize sampled pos slot (.chan c .jackLoad) r u = z at same mgmt goes step' point rest ⊢
  have chan := loadNotedAs_chan c (.lockoff w) v z
  have zwork : ((loadNotedAs c (.lockoff w) v z).chan c).work = .lockoff w := by rw [chan]
  have nrunning : ((loadNotedAs c (.lockoff w) v z).chan c).state = .running := by rw [chan, same]; exact running
  obtain ⟨other, ends⟩ := lockoffTest_eq (v := v) (s := loadNotedAs c (.lockoff w) v z) nrunning
    ((currentStep_stepNoted ..).trans step') body zwork
  have took : (loadNotedAs c (.lockoff w) v z).updRecord c (residualTaken residual) =
      stepNoted c (.lockoff w) (some taken) (z.chan c).lastCreep
        { (z.chan c).jack with overloads := overloadCount (z.chan c) v } z := by
    rw [loadNotedAs, updRecord_stepNoted, same, peak]
    rfl
  rw [show (loadNotedAs c (.lockoff w) v z).setpoint c = u.setpoint c from (setpoint_stepNoted ..).trans point] at other ends
  rw [show (loadNotedAs c (.lockoff w) v z).residual c = residual from (residual_stepNoted ..).trans rest, took,
    lossExceeds_iff] at ends
  rw [loadTests_lockoff zwork]
  have gone (i : Nat) (rec' : Record) : left i rec' (removeStale c (leaveStep .takeUp i c (stepNoted c (.lockoff w)
      (some rec') (z.chan c).lastCreep { (z.chan c).jack with overloads := overloadCount (z.chan c) v } z))) := by
    obtain ⟨leaves, as⟩ := leaveStep_stepNoted i c (.lockoff w) (some rec') (z.chan c).lastCreep
      { (z.chan c).jack with overloads := overloadCount (z.chan c) v } z
    obtain ⟨r1, r2, r3⟩ := leftWith_lockoff i { z.chan c with
      work := .lockoff w, record := some rec', lastCreep := (z.chan c).lastCreep
      jack := { (z.chan c).jack with overloads := overloadCount (z.chan c) v } } w rfl
    rw [removeStale_leaveStep]
    exact ⟨goes _ _ leaves, by rw [as, r1], by rw [as, r2], by rw [as, r3]⟩
  have next : nextIndex (z.chan c).index = min 256 (ch.index + 1) := by rw [same]; rfl
  obtain ⟨halts, diverts, continues⟩ := failStep_stepNoted st .lockoffLoss c (.lockoff w) (some taken)
    (z.chan c).lastCreep { (z.chan c).jack with overloads := overloadCount (z.chan c) v } z
  rw [next] at continues
  refine ⟨fun k n => ?_, fun k l course => ?_, fun k l course => ?_, fun k l course => ?_, fun k => ?_⟩
  · rw [(ends k).2 n, completeStep_stepNoted, next]
    exact gone _ _
  · rw [(ends k).1 l, diverts course]
    exact gone _ _
  · rw [(ends k).1 l, continues course]
    exact gone _ _
  · rw [(ends k).1 l, halts course]
    have noted := chan_setChan z c { z.chan c with
      work := .lockoff w, record := some taken, lastCreep := (z.chan c).lastCreep
      jack := { (z.chan c).jack with overloads := overloadCount (z.chan c) v } }
    obtain ⟨⟨f, faultedAs⟩, latched, -⟩ := removeStale_faultChannel (cause := .lockoffLoss)
      (s := stepNoted c (.lockoff w) (some taken) (z.chan c).lastCreep
        { (z.chan c).jack with overloads := overloadCount (z.chan c) v } z) (c := c)
      (.inl (by rw [stepNoted, noted, same]; exact running))
    rw [faultedAs, latched, stepNoted, noted, same]
    exact ⟨rfl, rfl, rfl, rfl, active, rfl, rfl, by rw [setChan_mgmt, mgmt]⟩
  · rw [other k]
    obtain ⟨f, as⟩ := removeStale_loadNotedAs (c := c) (w := .lockoff w) (v := v) (s := z) (by rw [same]; exact running)
    rw [as, same]
    exact ⟨rfl, running, active, peak⟩

/-- Settles O27: the drift test of a HOLD and the completion test of a LOCKOFF, once the overload check has let the
sample through. -/
theorem loadSamplesDecideHoldAndLockoff : Obligations.LoadSamplesDecideHoldAndLockoff :=
  ⟨loadSampleTestsDrift, loadSampleEndsLockoff⟩

end Sys2Proof.Machine.Laws
end

section
/-! PROOFS. The flow samples of an INJECT (R71 to R73, R76) and the payout samples of a PAYOUT (R94, R99). -/

namespace Sys2Proof.Machine.Laws

/-! ### The readers of a flow sample and of a payout sample (R136) -/

theorem handSample_groutFlow {c : Chan} {v : Nat} {r : InputRecord} (s : State) (hv : r.value = v) :
    handSample (.chan c .groutFlow) r s = removeStale c (refusalTest c v (volumeCount c v s)) := by
  simp [handSample, readers, hv]

theorem handSample_winchPayout {c : Chan} {v : Nat} {r : InputRecord} (s : State) (hv : r.value = v) :
    handSample (.chan c .winchPayout) r s = removeStale c (payoutProgress c v s) := by
  simp [handSample, readers, hv]

/-- The part in which the step's working fields alone have been written. -/
def workNoted (c : Chan) (w : StepWork) (s : State) : State :=
  stepNoted c w (s.chan c).record (s.chan c).lastCreep (s.chan c).jack s

theorem setWork_eq_workNoted (c : Chan) (w : StepWork) (s : State) : s.setWork c w = workNoted c w s := by
  simp [workNoted, stepNoted]

theorem workNoted_chan (c : Chan) (w : StepWork) (s : State) :
    (workNoted c w s).chan c = { s.chan c with work := w } := chan_setChan _ _ _

theorem setWork_workNoted (c : Chan) (w w' : StepWork) (s : State) :
    (workNoted c w s).setWork c w' = workNoted c w' s := setWork_stepNoted ..

/-- R142: the channel that goes on with its step. -/
theorem removeStale_workNoted {c : Chan} {w : StepWork} {s : State} (running : (s.chan c).state = .running) :
    ∃ f, (removeStale c (workNoted c w s)).chan c = { s.chan c with work := w, freeze := f } := by
  obtain ⟨f, same⟩ := removeStale_not_frozen (c := c) (s := workNoted c w s) (by rw [workNoted_chan, running]; nofun)
  exact ⟨f, by rw [same, chan_setChan, workNoted_chan]⟩

/-- R13: a step left once its working fields have been noted. -/
theorem leaveStep_workNoted (i : Nat) (c : Chan) (w : StepWork) (s : State) :
    StepLeft i c s (leaveStep .takeUp i c (workNoted c w s)) ∧
      (leaveStep .takeUp i c (workNoted c w s)).chan c = leftWith .takeUp i { s.chan c with work := w } :=
  leaveStep_stepNoted i c w _ _ _ s

/-! ### The volume (R71) -/

theorem volumeCount_eq {c : Chan} {v : Nat} {st : Step} {p : InjectStep} {w : InjectWork} {s : State}
    (running : (s.chan c).state = .running) (step : s.currentStep c = some st) (body : st.body = .inject p)
    (work : (s.chan c).work = .inject w) :
    let volume := min 16777215 (w.volume + v)
    (p.targetVolume ≤ volume → volumeCount c v s = leaveStep .takeUp (nextIndex (s.chan c).index) c
        (workNoted c (.inject { w with volume := volume, endReason := some .volume }) s)) ∧
      (volume < p.targetVolume → volumeCount c v s = workNoted c (.inject { w with volume := volume }) s) := by
  intro volume
  have shown : volumeCount c v s = if p.targetVolume ≤ volume
      then completeStep c (s.setWork c (.inject { w with volume := volume, endReason := some .volume }))
      else s.setWork c (.inject { w with volume := volume }) := by
    simp only [volumeCount, running, injecting_eq step body work]
    rfl
  simp only [setWork_eq_workNoted] at shown
  exact ⟨fun k => (shown.trans (if_pos k)).trans (completeStep_stepNoted ..), fun k => shown.trans (if_neg (Nat.not_le.mpr k))⟩

/-! ### The refusal (R72, R73) -/

theorem refusalMet_iff (s : State) (c : Chan) (p : InjectStep) (v : Nat) : refusalMet s c p v = true ↔
    ∃ pressure, s.chanValue c .groutPressure = some pressure ∧ p.refusalPressure ≤ pressure ∧ v ≤ p.refusalFlow := by
  cases h : s.chanValue c .groutPressure <;> simp [refusalMet, h]

/-- R72: no INJECT that holds no grant makes the refusal test. -/
theorem refusalTest_unheld {c : Chan} {v : Nat} {s : State}
    (h : ∀ w, (s.chan c).work = .inject w → w.standing ≠ .granted) : refusalTest c v s = s := by
  have none : s.refusing c = none := by
    cases hr : s.refusing c with
    | none => rfl
    | some x =>
      obtain ⟨st, p, w⟩ := x
      have work := refusing_work hr
      refine absurd ?_ (h w work)
      unfold State.refusing at hr
      split at hr
      · rename_i hi
        split at hr
        · rename_i granted
          have same := (injecting_work hi).symm.trans work
          rw [← StepWork.inject.inj same]
          exact granted
        · cases hr
      · cases hr
  simp [refusalTest, none]

/-- R72, R73: the refusal test of a RUNNING holder, its volume `x` below the target. -/
theorem refusalTest_held {c : Chan} {v : Nat} {st : Step} {p : InjectStep} {w : InjectWork} {s : State}
    (running : (s.chan c).state = .running) (step : s.currentStep c = some st) (body : st.body = .inject p)
    (granted : w.standing = .granted) :
    let n := if refusalMet s c p v then min 255 (w.refusals + 1) else 0
    let z := workNoted c (.inject w) s
    z.refuses c v = decide (p.refusalCount ≤ n) ∧
      (n < p.refusalCount → refusalTest c v z = workNoted c (.inject { w with refusals := n }) s) ∧
      (p.refusalCount ≤ n → refusalTest c v z =
        let ended := workNoted c (.inject { w with refusals := 0, endReason := some .refusal }) s
        if p.acceptRefusal then completeStep c ended else failStep st .refusal c ended) := by
  intro n z
  have refusing : z.refusing c = some (st, p, w) := by
    simp only [State.refusing, injecting_eq (s := z) ((currentStep_stepNoted ..).trans step) body
      (by rw [workNoted_chan] : (z.chan c).work = .inject w), z, workNoted_chan, running, granted, if_true]
  have count : refusalCountAfter z c p w v = n := by
    have met : refusalMet z c p v = refusalMet s c p v := by
      simp only [refusalMet, z, workNoted, chanValue_stepNoted]
    simp only [refusalCountAfter, met, satAdd, n]
  have refuses : z.refuses c v = decide (p.refusalCount ≤ n) := by simp [State.refuses, refusing, count]
  have shown : refusalTest c v z = if z.refuses c v then refuseStep st p w c z
      else z.setWork c (.inject { w with refusals := refusalCountAfter z c p w v }) := by
    simp only [refusalTest, refusing]
  rw [refuses, count] at shown
  refine ⟨refuses, fun k => ?_, fun k => ?_⟩
  · rw [shown, if_neg (by simpa using k)]
    exact setWork_workNoted ..
  · rw [shown, if_pos (by simpa using k), refuseStep, setWork_workNoted]

/-! ### Flow samples (R71 to R73, R76) -/

/-- R76: the record of an INJECT that is left. -/
theorem leftWith_inject (i : Nat) (ch : Channel) (w : InjectWork) (work : ch.work = .inject w) :
    (leftWith .takeUp i ch).record = ch.record.map fun (x : Record) => { x with
      groutEnd := w.endReason
      groutVolume := some (match x.groutVolume with
        | none => w.volume
        | some g => min 16777215 (g + w.volume)) } := by
  rw [leftWith_record, work]
  rfl

theorem flowSampleFillsInject : FlowSampleFillsInject := by
  intro pos slot c v st p w r s h hv u ch volume met running active step body work
  obtain ⟨input, sent⟩ := handSample_input_sent pos slot (.chan c .groutFlow) r u
  refine ⟨_, exec_accepted h, input, sent, ?_⟩
  rw [handSample_groutFlow _ hv]
  have same : (sampled pos slot (.chan c .groutFlow) r u).chan c = ch := rfl
  have goes (i : Nat) (t : State) : StepLeft i c (sampled pos slot (.chan c .groutFlow) r u) t → StepLeft i c u t := id
  have step' : (sampled pos slot (.chan c .groutFlow) r u).currentStep c = some st := step
  have test : refusalMet (sampled pos slot (.chan c .groutFlow) r u) c p v = true ↔ met := by
    have other : (sampled pos slot (.chan c .groutFlow) r u).chanValue c .groutPressure = u.chanValue c .groutPressure :=
      chanValue_setInput_ne (m := .groutFlow) r (slotPassed pos slot u) (by decide)
    rw [refusalMet_iff, other]
  generalize sampled pos slot (.chan c .groutFlow) r u = z at same goes step' test ⊢
  have zrunning : (z.chan c).state = .running := by rw [same]; exact running
  obtain ⟨fills, below⟩ := volumeCount_eq (v := v) (s := z) zrunning step' body (by rw [same]; exact work)
  have goesOn {z' : State} {w' : StepWork} (e : z' = workNoted c w' z) :
      ((removeStale c z').chan c).work = w' ∧ ((removeStale c z').chan c).phase = .active ∧
        ((removeStale c z').chan c).record = ch.record := by
    obtain ⟨f, as⟩ := removeStale_workNoted (w := w') zrunning
    rw [e, as, same]
    exact ⟨rfl, active, rfl⟩
  refine ⟨fun full => ?_, fun k unheld => ?_, fun k granted unmet need => ?_, fun k granted met few => ?_⟩
  · have next : nextIndex (z.chan c).index = min 256 (ch.index + 1) := by rw [same]; rfl
    rw [fills full, refusalTest_unheld (by rw [(leaveStep_work_phase _ _ _).1]; nofun), removeStale_leaveStep, next]
    obtain ⟨left, as⟩ := leaveStep_workNoted (min 256 (ch.index + 1)) c
      (.inject { w with volume := volume, endReason := some .volume }) z
    exact ⟨goes _ _ left, by rw [as, leftWith_inject _ _ _ rfl, same] <;> rfl⟩
  · rw [below k]
    refine goesOn (refusalTest_unheld fun x hx => ?_)
    rw [workNoted_chan] at hx
    rw [← StepWork.inject.inj hx]
    exact unheld
  · obtain ⟨-, counts, -⟩ := refusalTest_held (v := v) (w := { w with volume := volume }) zrunning step' body granted
    rw [if_neg (fun m => unmet (test.mp m))] at counts
    rw [below k]
    obtain ⟨same, active, -⟩ := goesOn (counts need)
    exact ⟨same, active⟩
  · obtain ⟨-, counts, -⟩ := refusalTest_held (v := v) (w := { w with volume := volume }) zrunning step' body granted
    rw [if_pos (test.mpr met)] at counts
    rw [below k]
    obtain ⟨same, active, -⟩ := goesOn (counts few)
    exact ⟨same, active⟩

theorem refusalEndsInject : RefusalEndsInject := by
  intro pos slot c v pressure st p w rec r s h hv u ch running active step body work granted record shows below high low
    enough left
  let w' : InjectWork := { w with volume := min 16777215 (w.volume + v) }
  have refused (z : State) (hc : z.chan c = ch) (hs : z.currentStep c = some st)
      (hp : z.chanValue c .groutPressure = some pressure) :
      (volumeCount c v z).refuses c v = true ∧ refusalTest c v (volumeCount c v z) =
        let ended := workNoted c (.inject { w' with refusals := 0, endReason := some .refusal }) z
        if p.acceptRefusal then completeStep c ended else failStep st .refusal c ended := by
    have zrunning : (z.chan c).state = .running := by rw [hc]; exact running
    obtain ⟨-, counted⟩ := volumeCount_eq (v := v) (s := z) zrunning hs body (by rw [hc]; exact work)
    obtain ⟨refuses, -, ends⟩ := refusalTest_held (v := v) (w := w') zrunning hs body granted
    rw [if_pos ((refusalMet_iff z c p v).mpr ⟨pressure, hp, high, low⟩)] at refuses ends
    rw [counted below]
    exact ⟨refuses.trans (decide_eq_true enough), ends enough⟩
  have other (z : State) : (z.setInput (.chan c .groutFlow) r).chanValue c .groutPressure = z.chanValue c .groutPressure :=
    chanValue_setInput_ne (m := .groutFlow) r z (by decide)
  have occurs : refusalOccurs slot u = true := by
    rw [refusalOccurs, acceptedNext_of_accepts h hv]
    exact (refused (u.setInput (.chan c .groutFlow) r) rfl step ((other u).trans shows)).1
  have answer : exec (.refusal pos slot) s =
      .next (handSample (.chan c .groutFlow) r (sampled pos slot (.chan c .groutFlow) r u)) :=
    congrArg Host.Outcome.next (slotOutcome_accepted h occurs)
  obtain ⟨input, sent⟩ := handSample_input_sent pos slot (.chan c .groutFlow) r u
  obtain ⟨-, ends⟩ := refused (sampled pos slot (.chan c .groutFlow) r u) rfl step ((other (slotPassed pos slot u)).trans shows)
  refine ⟨_, answer, input, sent, ?_⟩
  rw [handSample_groutFlow _ hv, ends]
  have same : (sampled pos slot (.chan c .groutFlow) r u).chan c = ch := rfl
  have goes (i : Nat) (t : State) : StepLeft i c (sampled pos slot (.chan c .groutFlow) r u) t → StepLeft i c u t := id
  generalize sampled pos slot (.chan c .groutFlow) r u = z at same goes ⊢
  have next : nextIndex (z.chan c).index = min 256 (ch.index + 1) := by rw [same]; rfl
  let e : StepWork := .inject { w' with refusals := 0, endReason := some .refusal }
  have noted : workNoted c e z = stepNoted c e (some rec) (z.chan c).lastCreep (z.chan c).jack z := by
    rw [workNoted, same, record]
  have gone (i : Nat) (rec' rec'' : Record)
      (hr : (leftWith .takeUp i { z.chan c with
        work := e, record := some rec', lastCreep := (z.chan c).lastCreep, jack := (z.chan c).jack }).record = some rec'') :
      let t := removeStale c (leaveStep .takeUp i c (stepNoted c e (some rec') (z.chan c).lastCreep (z.chan c).jack z))
      StepLeft i c u t ∧ (t.chan c).record = some rec'' := by
    obtain ⟨leaves, as⟩ := leaveStep_stepNoted i c e (some rec') (z.chan c).lastCreep (z.chan c).jack z
    dsimp only
    rw [removeStale_leaveStep]
    exact ⟨goes _ _ leaves, by rw [as, hr]⟩
  obtain ⟨halts, diverts, continues⟩ :=
    failStep_stepNoted st .refusal c e (some rec) (z.chan c).lastCreep (z.chan c).jack z
  rw [next] at continues
  refine ⟨fun a => ?_, fun a course => ?_, fun a course => ?_, fun a course => ?_⟩
  · rw [a, if_pos rfl, noted, completeStep_stepNoted, next]
    exact gone _ _ _ rfl
  · rw [a, if_neg Bool.false_ne_true, noted, diverts course]
    exact gone _ _ _ rfl
  · rw [a, if_neg Bool.false_ne_true, noted, continues course]
    exact gone _ _ _ rfl
  · have chan := chan_setChan z c { z.chan c with
      work := e, record := some rec, lastCreep := (z.chan c).lastCreep, jack := (z.chan c).jack }
    obtain ⟨⟨f, faultedAs⟩, latched, -⟩ := removeStale_faultChannel (cause := .refusal) (c := c)
      (s := stepNoted c e (some rec) (z.chan c).lastCreep (z.chan c).jack z)
      (.inl (by rw [stepNoted, chan, same]; exact running))
    rw [a, if_neg Bool.false_ne_true, noted, halts course, faultedAs, latched, stepNoted, chan, same]
    exact ⟨rfl, rfl, rfl, active, rfl, rfl, rfl⟩

/-! ### Payout samples (R94, R99) -/

theorem payoutProgress_eq {c : Chan} {v start : Nat} {st : Step} {p : PayoutStep} {w : PayoutWork} {s : State}
    (running : (s.chan c).state = .running) (step : s.currentStep c = some st) (body : st.body = .payout p)
    (work : (s.chan c).work = .payout w) (started : w.startLength = some start) :
    payoutProgress c v s = if p.target ≤ v - start
      then leaveStep .takeUp (nextIndex (s.chan c).index) c (workNoted c (.payout { w with progress := v - start }) s)
      else workNoted c (.payout { w with progress := v - start }) s := by
  obtain ⟨onFail, divert, b⟩ := st
  obtain rfl : b = .payout p := body
  have completes : completeStep c (workNoted c (.payout { w with progress := v - start }) s) =
      leaveStep .takeUp (nextIndex (s.chan c).index) c (workNoted c (.payout { w with progress := v - start }) s) :=
    completeStep_stepNoted ..
  rw [← completes]
  simp only [payoutProgress, running, step, work, started, setWork_eq_workNoted]

theorem payoutSampleMeasuresProgress : PayoutSampleMeasuresProgress := by
  intro pos slot c v start st p w r s h hv u ch running active step body work started
  obtain ⟨input, sent⟩ := handSample_input_sent pos slot (.chan c .winchPayout) r u
  refine ⟨_, exec_accepted h, input, sent, ?_⟩
  rw [handSample_winchPayout _ hv,
    payoutProgress_eq (s := sampled pos slot (.chan c .winchPayout) r u) running step body work started]
  refine ⟨fun full => ?_, fun below => ?_⟩
  · obtain ⟨left, as⟩ := leaveStep_workNoted (nextIndex ch.index) c (.payout { w with progress := v - start })
      (sampled pos slot (.chan c .winchPayout) r u)
    rw [if_pos full, removeStale_leaveStep]
    refine ⟨left, ?_, ?_⟩
    · refine (congrArg Channel.record as).trans ((leftWith_record ..).trans ?_)
      simp only [started]
      rfl
    · exact (congrArg Channel.profile as).trans (leftWith_profile (.inr ⟨_, rfl⟩))
  · obtain ⟨f, as⟩ := removeStale_workNoted (c := c) (w := .payout { w with progress := v - start })
      (s := sampled pos slot (.chan c .winchPayout) r u) running
    rw [if_neg (Nat.not_le.mpr below), as]
    exact ⟨rfl, active, rfl, rfl⟩

/-- Settles O28: the readers of a flow and of a payout sample measure the step first, and its completion or its
refusal follows from the count. -/
theorem flowAndPayoutSamplesAreCounted : Obligations.FlowAndPayoutSamplesAreCounted :=
  ⟨flowSampleFillsInject, payoutSampleMeasuresProgress, refusalEndsInject⟩

end Sys2Proof.Machine.Laws
end

section
/-! PROOFS. The work of a cycle start taken by its row, the Arbiters' counts (R79 to R81) and the echo checks (R143,
R144). -/

namespace Sys2Proof.Machine.Laws

/-! ### Work taken by its row (R154; log entry 3) -/

/-- The part `u` with one piece of work no longer due. -/
def workTaken (w : CycleWork) (u : State) : State := { u with due := u.due.filter (· ≠ w) }

/-- A row that takes a piece of due work performs it, what must come before it having been done. -/
theorem takeOccurrence_met {w : CycleWork} {q : State → Bool} {s : State} (h : w ∈ s.due)
    (hq : q (prepareWork w s) = true) :
    takeOccurrence w q s = performWork w (workTaken w (prepareWork w s)) := by
  have occurs : workOccurs w q s = true := by simp [workOccurs, h, hq]
  rw [takeOccurrence, if_pos occurs, takeWork_of_due h]
  rfl

theorem prepareWork_alone {w : CycleWork} {s : State} (h : workBefore w s = []) : prepareWork w s = s := by
  rw [prepareWork, h]
  split <;> rfl

/-- A row whose piece needs nothing before it. -/
theorem takeOccurrence_alone {w : CycleWork} {q : State → Bool} {s : State} (h : w ∈ s.due) (hb : workBefore w s = [])
    (hq : q s = true) : takeOccurrence w q s = performWork w (workTaken w s) := by
  have same := prepareWork_alone hb
  rw [takeOccurrence_met h (by rw [same]; exact hq), same]

/-! ### The Arbiters' counts (R79 to R81) -/

theorem setWork_setStanding {c : Chan} {x : InjectWork} {st : Standing} {s : State} (h : (s.chan c).work = .inject x) :
    s.setStanding c st =
      s.setWork c (.inject { x with standing := st, refusals := if st = .granted then x.refusals else 0 }) := by
  simp [State.setStanding, h]

theorem setArb_work (s : State) (p : Pump) (a : Arbiter) (c : Chan) :
    ((s.setArb p a).chan c).work = (s.chan c).work := by cases p <;> rfl

/-- R79: a grant to a channel in an INJECT, directly or by a switch. -/
theorem startGrant_eq {p : Pump} {d : Chan} {y : InjectWork} {s : State} (hy : (s.chan d).work = .inject y) :
    let k := s.mgmt.config
    let granted := { s.arb p with tenureHeld := k.tenure, switchHeld := k.switchTime, begun := true, tenureCount := 0 }
    ((s.arb p).manifold = some d ∨ k.switchTime = 0 → startGrant p d s =
      (s.setArb p { granted with state := .granted d, manifold := some d }).setWork d
        (.inject { y with standing := .granted })) ∧
      (¬ ((s.arb p).manifold = some d ∨ k.switchTime = 0) → startGrant p d s =
        (s.setArb p { granted with state := .switching d, switchCount := 0 }).setWork d
          (.inject { y with standing := .switching, refusals := 0 })) := by
  intro k granted
  refine ⟨fun direct => ?_, fun indirect => ?_⟩
  · have arb : (s.arb p).grant d k.tenure k.switchTime = { granted with state := .granted d, manifold := some d } := by
      rw [Arbiter.grant, if_pos direct]
    simp only [startGrant, State.updArb, arb_setArb, show s.mgmt.config = k from rfl, arb]
    rw [setWork_setStanding (x := y) (by rw [setArb_work]; exact hy)]
    rfl
  · have arb : (s.arb p).grant d k.tenure k.switchTime = { granted with state := .switching d, switchCount := 0 } := by
      rw [Arbiter.grant, if_neg indirect]
    simp only [startGrant, State.updArb, arb_setArb, show s.mgmt.config = k from rfl, arb]
    rw [setWork_setStanding (x := y) (by rw [setArb_work]; exact hy)]
    rfl

theorem arb_workTaken (w : CycleWork) (p : Pump) (s : State) : (workTaken w s).arb p = s.arb p := rfl

theorem switchCompletes : SwitchCompletes := by
  intro p c x s due switching begun count work
  have done : (s.arb p).switchDone = true := by simp [Arbiter.switchDone, switching, begun, count]
  refine congrArg Host.Outcome.next ((takeOccurrence_alone due rfl done).trans ?_)
  have cycle : arbiterCycle p (workTaken (.arbiter p) s) = completeSwitch p (workTaken (.arbiter p) s) := by
    simp [arbiterCycle, arb_workTaken, begun, done]
  refine cycle.trans ?_
  simp only [completeSwitch, arb_workTaken, switching]
  rw [setWork_setStanding (x := x) (by rw [updArb_chan]; exact work)]
  rfl

theorem tenureExpires : TenureExpires := by
  intro p c s due granted begun count after k
  have done : (s.arb p).tenureDone = true := by simp [Arbiter.tenureDone, granted, begun, count]
  have cycle : exec (.tenureExpiry p) s = .next (expireTenure p after) := by
    refine congrArg Host.Outcome.next ((takeOccurrence_alone due rfl done).trans ?_)
    have undone : (s.arb p).switchDone = false := by simp [Arbiter.switchDone, granted]
    have arb : after.arb p = s.arb p := rfl
    show arbiterCycle p after = _
    simp [arbiterCycle, arb, begun, undone, done]
  refine ⟨fun empty => ?_, ?_⟩
  · have expired : expireTenure p after = after.updArb p fun a => { a with tenureCount := 0 } := by
      rw [expireTenure]
      simp only [show after.arb p = s.arb p from rfl, granted, empty]
    rw [cycle, expired]
    rfl
  · intro d rest x y queue other hx hy direct noticed grant queued
    let v := (after.setArb p { s.arb p with queue := rest ++ [c] }).setWork c
      (.inject { x with standing := .queued, refusals := 0 })
    have expired : expireTenure p after = (startGrant p d v).updLatched fun l => { l with pumpTenure := true } := by
      rw [expireTenure]
      simp only [show after.arb p = s.arb p from rfl, granted, queue]
      rw [setWork_setStanding (x := x) (by rw [updArb_chan]; exact hx)]
      rfl
    have work : (v.chan d).work = .inject y := by
      rw [show v.chan d = _ from chan_setChan_ne _ _ other, setArb_work]
      exact hy
    have arb : v.arb p = { s.arb p with queue := rest ++ [c] } := arb_setArb after p _
    have config : v.mgmt.config = k := by cases p <;> rfl
    obtain ⟨directly, bySwitch⟩ := startGrant_eq (p := p) work
    rw [arb, config] at directly bySwitch
    rw [cycle, expired]
    refine ⟨fun h => ?_, fun h => ?_⟩
    · rw [directly h]
      cases p <;> rfl
    · rw [bySwitch h]
      cases p <;> rfl

theorem arbiterCounts : ArbiterCounts := by
  intro p s due a
  have cycle : settle s = arbiterCycle p { s with due := [] } := settle_one due
  have arb : State.arb { s with due := [] } p = a := rfl
  refine ⟨fun c switching begun count => ?_, fun c granted begun count => ?_, fun idle => ?_⟩
  · rw [cycle]
    simp [arbiterCycle, arb, begun, Arbiter.switchDone, Arbiter.tenureDone, switching, count]
  · rw [cycle]
    simp [arbiterCycle, arb, begun, Arbiter.switchDone, Arbiter.tenureDone, granted, count]
  · rw [cycle]
    rcases idle with begun | free
    · simp [arbiterCycle, arb, begun]
    · simp [arbiterCycle, arb, Arbiter.switchDone, Arbiter.tenureDone, free]

/-- Settles O16: a switch and a tenure counted to their ends. -/
theorem switchCompletesAndTenureExpires : Obligations.SwitchCompletesAndTenureExpires :=
  ⟨switchCompletes, tenureExpires, arbiterCounts⟩

/-! ### Echo checks (R143, R144) -/

theorem mem_echoesInUse {ch : Channel} {c : Chan} {x : Target} : x ∈ echoesInUse ch c ↔ EchoInUse ch c x := by
  cases h : ch.work with
  | inject w =>
    by_cases g : w.standing = .granted <;> cases p : ch.config.pump <;> simp [echoesInUse, EchoInUse, h, g, p]
  | none | payout _ | ramp _ | hold _ | lockoff _ | check _ | await _ | signal | finish =>
    simp [echoesInUse, EchoInUse, h]

/-- R144: a bound echo in use without a record, or with one that is invalid, old or lagging, fails the check. -/
theorem echoFails_iff (s : State) (limit : Nat) (x : Target) : echoFails s limit x = true ↔
    s.bound x = true ∧ ∀ r, s.input x = some r → r.valid = false ∨ limit < r.age ∨
      (limit : Int) < (((s.line.count % 256 : Nat) : Int) - r.value) % 256 := by
  cases h : s.input x with
  | none => simp [echoFails, h]
  | some r =>
    simp only [echoFails, h, Bool.and_eq_true, Bool.or_eq_true, Bool.not_eq_true', decide_eq_true_eq, or_assoc,
      Option.some.injEq, forall_eq']
    rw [or_comm (a := limit < r.age)]
    rfl

/-- R144: when a channel's echo check fails. -/
theorem silent_iff (s : State) (c : Chan) : s.silent c = true ↔
    ((s.chan c).state = .running ∧ (s.chan c).phase = .active ∧ (s.chan c).tookUp = false) ∧
      ∃ x, EchoInUse (s.chan c) c x ∧ echoFails s (s.chan c).config.echoLimit x = true := by
  simp [State.silent, mem_echoesInUse, and_assoc]

theorem silentEchoFaults : SilentEchoFaults := by
  intro c x s due running active tookUp use bound faulted
  have faults (h : echoFails s (s.chan c).config.echoLimit x = true) : faulted := by
    have silent : s.silent c = true := (silent_iff s c).mpr ⟨⟨running, active, tookUp⟩, x, use, h⟩
    obtain ⟨faulted, line, -⟩ := faultChannel_spec .nodeSilent c (workTaken (.echo c) s) (.inl running)
    refine ⟨_, congrArg Host.Outcome.next ((takeOccurrence_alone due rfl silent).trans (?_ : _ =
      faultChannel .nodeSilent c (workTaken (.echo c) s))), faulted, line⟩
    exact if_pos silent
  refine ⟨fun h => faults ((echoFails_iff ..).mpr ⟨bound, fun r k => by rw [h] at k; cases k⟩), fun r h bad =>
    faults ((echoFails_iff ..).mpr ⟨bound, fun r' k => ?_⟩)⟩
  rw [h] at k
  obtain rfl := Option.some.inj k
  exact bad

theorem answeringEchoPasses : AnsweringEchoPasses := by
  intro c s due quiet
  have heard : State.silent { s with due := [] } c = false := by
    refine Bool.eq_false_iff.mpr fun h => ?_
    obtain ⟨⟨running, active, tookUp⟩, x, use, fails⟩ := (silent_iff ..).mp h
    obtain ⟨bound, bad⟩ := (echoFails_iff ..).mp fails
    rcases quiet with k | k | k | answered
    · exact k running
    · exact k active
    · exact Bool.false_ne_true (tookUp.symm.trans k)
    · obtain ⟨r, record, valid, age, lag⟩ := answered x use bound
      rcases bad r record with k | k | k
      · exact Bool.false_ne_true (k.symm.trans valid)
      · exact absurd age (Nat.not_le.mpr k)
      · exact absurd lag (Int.not_le.mpr k)
  rw [settle_one due]
  exact if_neg (by rw [heard]; exact Bool.false_ne_true)

/-- Settles O20: a channel's echo check fails exactly by a bound echo in use that is silent. -/
theorem silentNodeFaultsChannel : Obligations.SilentNodeFaultsChannel := ⟨silentEchoFaults, answeringEchoPasses⟩

end Sys2Proof.Machine.Laws
end

section
/-! PROOFS. The Profile Generator at a cycle start: pace, phase, profile steps and segment ends (R31 to R36, R54). -/

namespace Sys2Proof.Machine.Laws

/-! ### One generator (R31 to R35) -/

/-- R35: a write of acc, and whether the clamp changed it. -/
theorem writeAcc_eq (p : Profile) (x : Int) : p.writeAcc x =
    { p with
      acc := (max 0 (min (p.ceiling * 256 : Int) x)).toNat
      limited := p.limited || decide (max 0 (min (p.ceiling * 256 : Int) x) ≠ x) } := by
  have same : clamp 0 (p.ceiling * 256) x = max 0 (min (p.ceiling * 256 : Int) x) := by unfold clamp; omega
  rw [Profile.writeAcc, same]

/-- R33, R35: a segment that becomes the working one. -/
theorem work_cont (p : Profile) {g : Segment} (h : g.mode = .cont) :
    p.work g = { p with working := some g, remaining := g.duration } := by simp [Profile.work, h]

theorem work_absolute (p : Profile) {g : Segment} (h : g.mode = .absolute) :
    p.work g = { p with
      working := some g, remaining := g.duration, acc := min (g.start * 256) (p.ceiling * 256)
      limited := p.limited || decide (p.ceiling < g.start) } := by
  have acc : (max 0 (min (p.ceiling * 256 : Int) (g.start * 256 : Int))).toNat = min (g.start * 256) (p.ceiling * 256) := by
    omega
  have limits : (max 0 (min (p.ceiling * 256 : Int) (g.start * 256 : Int)) ≠ (g.start * 256 : Int)) ↔ p.ceiling < g.start := by
    omega
  simp only [Profile.work, h, writeAcc_eq, acc, limits]

/-- R33, R35: the slope added. -/
theorem slopeStep_eq {p : Profile} {g : Segment} (h : p.working = some g) :
    p.slopeStep = { p with
      remaining := p.remaining - 1, acc := (SlopeAdded p g).toNat
      limited := p.limited || decide (SlopeAdded p g ≠ p.acc + g.slope) } := by
  simp only [Profile.slopeStep, h, writeAcc_eq, SlopeAdded]
  rfl

/-- R31: the staged pace taken. -/
def paceTaken (p : Profile) : Profile := { p with pace := p.stagedPace.getD p.pace, stagedPace := none }

theorem takePace_eq (p : Profile) : p.takePace = paceTaken p := by
  cases p with
  | mk _ _ _ _ _ _ _ _ _ _ _ staged _ => cases staged <;> rfl

/-! ### A generator's cycle start (R31, R32, R54) -/

/-- R31, R32: where the generator does not advance, a staged pace is taken and nothing else happens. -/
theorem profileCycle_stands {c : Chan} {s : State} (h : (s.chan c).advances = false) :
    profileCycle c s = s.setChan c { s.chan c with profile := paceTaken (s.chan c).profile } := by
  have stands : ∀ p, Channel.advances { s.chan c with profile := paceTaken p } =
      Channel.advances { s.chan c with profile := p } := fun _ => rfl
  simp [profileCycle, takePace_eq, stands, h]

theorem advances_iff (ch : Channel) :
    ch.advances = true ↔ ch.state = .running ∧ ch.profile.status = .active ∧ ch.tookUp = false := by
  simp [Channel.advances, and_assoc]

/-- R32: the generator that advances, before a RAMP looks whether it has ended. -/
theorem profileCycle_advances {c : Chan} {s : State} (h : (s.chan c).advances = true) :
    profileCycle c s = settleRamp .active c (s.setChan c { s.chan c with
      profile := (paceTaken (s.chan c).profile).advance s.store s.paceScale }) := by
  have stands : ∀ p, Channel.advances { s.chan c with profile := paceTaken p } =
      Channel.advances { s.chan c with profile := p } := fun _ => rfl
  have scale : (s.setChan c { s.chan c with profile := paceTaken (s.chan c).profile }).paceScale = s.paceScale := rfl
  simp [profileCycle, takePace_eq, stands, h, scale]

/-- R54: a profile that goes on does not settle its RAMP. -/
theorem settleRamp_of_active {c : Chan} {s : State} (h : (s.chan c).profile.status ≠ .finished) :
    settleRamp .active c s = s := by
  unfold settleRamp
  split
  · exact if_neg fun k => h k.2
  all_goals rfl

/-- R32: a profile step is taken. -/
theorem advance_steps {p : Profile} {e : Nat} {store : ProgramStore} {scale : Nat}
    (he : (paceTaken p).effectivePace scale = e) (h : 256 ≤ p.phase + e) :
    (paceTaken p).advance store scale = { (paceTaken p).step store with phase := p.phase + e - 256 } := by
  have crosses : (paceTaken p).crosses scale = true := by
    simp only [Profile.crosses, he, decide_eq_true_eq]
    exact h
  rw [Profile.advance, if_pos crosses, he]
  rfl

theorem advance_counts {p : Profile} {e : Nat} {store : ProgramStore} {scale : Nat}
    (he : (paceTaken p).effectivePace scale = e) (h : p.phase + e < 256) :
    (paceTaken p).advance store scale = { paceTaken p with phase := p.phase + e } := by
  have under : ¬ (paceTaken p).crosses scale = true := by
    simp only [Profile.crosses, he, decide_eq_true_eq]
    exact Nat.not_le.mpr h
  rw [Profile.advance, if_neg under, he]
  rfl

/-- R31 to R33: a channel that takes a profile step does so by its row. -/
theorem takesProfileStep_cycle {c : Chan} {e : Nat} {s : State} (h : TakesProfileStep s c e) :
    profileSteps c s = true ∧ profileCycle c (workTaken (.profile c) s) =
      settleRamp .active c ((workTaken (.profile c) s).setChan c { s.chan c with
        profile := { (paceTaken (s.chan c).profile).step s.store with phase := (s.chan c).profile.phase + e - 256 } }) := by
  obtain ⟨running, status, tookUp, pace, crosses⟩ := h
  have advances : (s.chan c).advances = true := (advances_iff _).mpr ⟨running, status, tookUp⟩
  have he : (paceTaken (s.chan c).profile).effectivePace s.paceScale = e := pace.symm
  refine ⟨?_, ?_⟩
  · rw [profileSteps, advances, takePace_eq, Profile.crosses, he, Bool.true_and]
    exact decide_eq_true crosses
  · rw [profileCycle_advances (s := workTaken (.profile c) s) advances]
    have same : (workTaken (.profile c) s).chan c = s.chan c := rfl
    have scale : (workTaken (.profile c) s).paceScale = s.paceScale := rfl
    rw [same, scale, advance_steps he crosses]
    rfl

theorem profileStepAddsSlope : ProfileStepAddsSlope := by
  intro c e s due takes p after paced
  obtain ⟨steps, cycle⟩ := takesProfileStep_cycle takes
  have answer : exec (.profileStep c) s = .next (settleRamp .active c (after.setChan c { s.chan c with
      profile := { (paceTaken p).step s.store with phase := p.phase + e - 256 } })) :=
    congrArg Host.Outcome.next ((takeOccurrence_alone due rfl steps).trans cycle)
  have goesOn (q : Profile) (hq : q.status = p.status) :
      settleRamp .active c (after.setChan c { s.chan c with profile := q }) =
        after.setChan c { s.chan c with profile := q } := by
    refine settleRamp_of_active ?_
    rw [chan_setChan, hq, takes.2.1]
    nofun
  have status := takes.2.1
  refine ⟨fun g staged mode => ?_, fun g staged mode => ?_, fun g staged working many => ?_⟩
  · have step : (paceTaken p).step s.store = { paceTaken p with
        staged := none, working := some g, remaining := g.duration } := by
      rw [Profile.step, show (paceTaken p).staged = some g from staged]
      exact work_cont _ mode
    rw [answer, step]
    exact congrArg Host.Outcome.next (goesOn _ rfl)
  · have step : (paceTaken p).step s.store = { paceTaken p with
        staged := none, working := some g, remaining := g.duration
        acc := min (g.start * 256) (p.ceiling * 256), limited := p.limited || decide (p.ceiling < g.start) } := by
      rw [Profile.step, show (paceTaken p).staged = some g from staged]
      exact work_absolute _ mode
    rw [answer, step]
    exact congrArg Host.Outcome.next (goesOn _ rfl)
  · have ends : (paceTaken p).stepEndsSegment = false := by
      have : ¬ p.remaining ≤ 1 := by omega
      simp [Profile.stepEndsSegment, paceTaken, this]
    have step : (paceTaken p).step s.store = { paceTaken p with
        remaining := p.remaining - 1, acc := (SlopeAdded p g).toNat
        limited := p.limited || decide (SlopeAdded p g ≠ p.acc + g.slope) } := by
      rw [Profile.step, show (paceTaken p).staged = none from staged]
      simp only [ends, Bool.false_eq_true, if_false]
      exact slopeStep_eq working
    rw [answer, step]
    exact congrArg Host.Outcome.next (goesOn _ rfl)

theorem paceIsTakenAndPhaseAdvances : PaceIsTakenAndPhaseAdvances := by
  intro c s due p pace e advances left
  have cycle : settle s = profileCycle c { s with due := [] } := settle_one due
  have same : State.chan { s with due := [] } c = s.chan c := rfl
  rw [cycle]
  refine ⟨fun goes under => ?_, fun stands => ?_⟩
  · have he : (paceTaken p).effectivePace s.paceScale = e := rfl
    rw [profileCycle_advances (s := { s with due := [] }) ((advances_iff _).mpr goes), same,
      show State.paceScale { s with due := [] } = s.paceScale from rfl, advance_counts he under, settleRamp_of_active]
    · rfl
    · rw [chan_setChan]
      show p.status ≠ .finished
      rw [goes.2.1]
      nofun
  · rw [profileCycle_stands (s := { s with due := [] }) (Bool.eq_false_iff.mpr fun h => stands ((advances_iff _).mp h)), same]
    rfl

/-- Settles O8: a profile step and a bare phase advance, from what the generator does to its own fields. -/
theorem profileStepMovesSetpoint : Obligations.ProfileStepMovesSetpoint :=
  ⟨profileStepAddsSlope, paceIsTakenAndPhaseAdvances⟩

/-! ### Segment ends (R33, R34, R36, R54) -/

/-- R33, R36: what a segment that becomes the working one leaves. -/
theorem work_keeps (p : Profile) (r : Segment) : p.work r =
    { p with working := some r, remaining := r.duration, acc := (p.work r).acc, limited := (p.work r).limited } := by
  cases h : r.mode with
  | absolute => rw [work_absolute p h]
  | cont => rw [work_cont p h]

/-- R34: the reload that follows the segment that ended, refilled while segments remain. -/
theorem segmentEnd_reload {store : ProgramStore} {p : Profile} {r : Segment} (h : p.reload = some r) :
    p.segmentEnd store = { p with
      working := some r, remaining := r.duration, acc := (p.work r).acc, limited := (p.work r).limited
      reload := if 0 < p.segsLeft then store.segment p.next else none
      next := if 0 < p.segsLeft then p.next + 1 else p.next, segsLeft := p.segsLeft - 1 } := by
  simp only [Profile.segmentEnd, h]
  rw [work_keeps p r]
  by_cases more : 0 < p.segsLeft
  · simp only [more, if_true]
  · have none : p.segsLeft = 0 := by omega
    simp only [none, lt_irrefl, if_false]

/-- R54: the RAMP whose profile has finished settles; no other kind notices. -/
theorem settleRamp_of_finished {c : Chan} {s : State} (h : (s.chan c).profile.status = .finished) :
    (∀ x, (s.chan c).work = .ramp x → settleRamp .active c s = s.setChan c { s.chan c with
      work := .ramp { phase := .settling, settle := 0, unsettled := 0 }, becameSettling := true }) ∧
      ((∀ x, (s.chan c).work ≠ .ramp x) → settleRamp .active c s = s) := by
  refine ⟨fun x hx => by simp [settleRamp, hx, h], fun hx => ?_⟩
  unfold settleRamp
  split
  · exact absurd ‹_› (hx _)
  all_goals rfl

/-- Settles O9: the slope of the last step, then the reload or the finish of the profile, and with it that of a RAMP's
profiling. -/
theorem segmentEndReloadsOrFinishes : Obligations.SegmentEndReloadsOrFinishes := by
  intro c e g s due takes staged working last p
  obtain ⟨steps, cycle⟩ := takesProfileStep_cycle takes
  have ends : p.stepEndsSegment = true := by simp [Profile.stepEndsSegment, p, staged, working, last]
  have ends' : (paceTaken p).stepEndsSegment = true := ends
  let q : Profile := { paceTaken p with
    remaining := p.remaining - 1, acc := (SlopeAdded p g).toNat
    limited := p.limited || decide (SlopeAdded p g ≠ p.acc + g.slope) }
  have slope : (paceTaken p).slopeStep = q := slopeStep_eq working
  have step : (paceTaken p).step s.store = q.segmentEnd s.store := by
    rw [Profile.step, show (paceTaken p).staged = none from staged]
    simp only [ends', if_true, slope]
  let after : State := { s with due := s.due.filter (· ≠ CycleWork.profile c) }
  let z (x : Profile) : State := after.setChan c { s.chan c with profile := { x with phase := p.phase + e - 256 } }
  have answer : exec (.segmentEnd c) s = .next (settleRamp .active c (z (q.segmentEnd s.store))) := by
    refine congrArg Host.Outcome.next ((takeOccurrence_alone due rfl (by rw [steps]; exact ends)).trans (cycle.trans ?_))
    rw [step]
    rfl
  have chan (x : Profile) : (z x).chan c = { s.chan c with profile := { x with phase := p.phase + e - 256 } } :=
    chan_setChan _ _ _
  refine ⟨_, answer, ?_⟩
  cases reload : p.reload with
  | some r =>
    have next := segmentEnd_reload (store := s.store) (p := q) reload
    rw [next, settleRamp_of_active (by rw [chan]; show q.status ≠ _; rw [show q.status = .active from takes.2.1]; nofun), chan]
    refine ⟨rfl, rfl, fun r' hr => ?_, nofun, rfl⟩
    obtain rfl := Option.some.inj hr
    refine ⟨rfl, rfl, takes.2.1, rfl, fun mode => ?_, fun mode => ?_, fun more => ?_, fun none => ?_⟩
    · exact congrArg Profile.acc (work_absolute q mode)
    · exact congrArg Profile.acc (work_cont q mode)
    · exact ⟨if_pos more, if_pos more, rfl⟩
    · have no : ¬ 0 < p.segsLeft := by omega
      exact ⟨if_neg no, if_neg no, by show p.segsLeft - 1 = 0; omega⟩
  | none =>
    have finished : q.segmentEnd s.store = { q with status := .finished, working := none } := by
      simp only [Profile.segmentEnd, show q.reload = none from reload]
    rw [finished]
    obtain ⟨ramp, other⟩ := settleRamp_of_finished (c := c) (s := z { q with status := .finished, working := none })
      (by rw [chan])
    by_cases hr : ∃ x, (s.chan c).work = .ramp x
    · obtain ⟨x, hx⟩ := hr
      rw [ramp x (by rw [chan]; exact hx), chan_setChan, chan]
      exact ⟨rfl, rfl, nofun, fun _ => ⟨rfl, rfl, rfl, fun _ _ => rfl, fun k => absurd hx (k x)⟩,
        setChan_setChan ..⟩
    · have no : ∀ x, (s.chan c).work ≠ .ramp x := fun x hx => hr ⟨x, hx⟩
      rw [other (by rw [chan]; exact no), chan]
      exact ⟨rfl, rfl, nofun, fun _ => ⟨rfl, rfl, rfl, fun x hx => absurd hx (no x), fun _ => rfl⟩, rfl⟩

end Sys2Proof.Machine.Laws
end

section
/-! PROOFS. A channel takes up its step (R11, R12, R29, R36, R37, R69). -/

namespace Sys2Proof.Machine.Laws

/-! ### What a channel's inputs show -/

theorem availableValue_congr {s t : State} {c : Chan} (hi : t.inputs = s.inputs)
    (hc : (t.chan c).config = (s.chan c).config) (m : Measurand) :
    t.availableValue (.chan c m) = s.availableValue (.chan c m) := by
  have limit : t.staleLimit (.chan c m) = s.staleLimit (.chan c m) := by cases m <;> simp [State.staleLimit, hc]
  have input : t.input (.chan c m) = s.input (.chan c m) := by simp [State.input, hi]
  simp only [State.availableValue, limit, input]

theorem requiredAvailable_congr {s t : State} {c : Chan} (hi : t.inputs = s.inputs)
    (hc : (t.chan c).config = (s.chan c).config) (b : StepBody) : t.requiredAvailable c b = s.requiredAvailable c b := by
  simp only [State.requiredAvailable, State.available, availableValue_congr hi hc]

/-! ### SAMPLE_STALE added (R141) -/

/-- R141: SAMPLE_STALE added where it was absent latches the notice. -/
theorem addCause_sampleStale_mgmt {c : Chan} {s : State} (live : (s.chan c).state ≠ .idle)
    (absent : (s.chan c).freeze.sampleStale = false) :
    (addCause .sampleStale c s).mgmt = { s.mgmt with latched := { s.mgmt.latched with sampleStale := true } } := by
  have no : ¬ ((s.chan c).state = .idle ∨ (s.chan c).freeze.has .sampleStale = true) := by
    simp [live, FreezeSet.has, absent]
  rw [addCause, if_neg no]
  dsimp only
  split
  · rw [freezeEffect, (claimsOnly_withdrawClaim c _).fields.2.2.2.2.2.2.2.1]
    rfl
  · rfl

/-! ### The tests of a take-up (R11, R12) -/

/-- R11: the row takes the step up on the part that has done what must come before. -/
theorem exec_takeUpStep {c : Chan} {s u : State} (h : MeetsTakeUp c s u) :
    exec (.takeUpStep c) s = .next (takeUp c (workTaken (.sequencer c) u)) := by
  obtain ⟨due, rfl, running, phase⟩ := h
  refine congrArg Host.Outcome.next ((takeOccurrence_met due (decide_eq_true ⟨running, phase⟩)).trans ?_)
  have running' : ((workTaken (.sequencer c) (prepareWork (.sequencer c) s)).chan c).state = .running := running
  have phase' : ((workTaken (.sequencer c) (prepareWork (.sequencer c) s)).chan c).phase = .takeUp := phase
  show sequencerCycle c _ = _
  simp only [sequencerCycle, running', phase']

theorem exec_takeUpStep_enters {c : Chan} {h : Header} {st : Step} {s u : State} (meets : MeetsTakeUp c s u)
    (header : u.programHeader c = some h) (index : (u.chan c).index < h.stepCount)
    (step : u.store.step (h.stepFirst + (u.chan c).index) = some st) (test : kindTest u.store h st.body = true)
    (bound : u.bindingsPresent c st.body = true) :
    exec (.takeUpStep c) s = .next (enterStep h st c (workTaken (.sequencer c) u)) := by
  have enters : u.takeUpTest c = .enter h st := by simp [State.takeUpTest, header, index, step, test, bound]
  rw [exec_takeUpStep meets, takeUp, show (workTaken (.sequencer c) u).takeUpTest c = _ from enters]

/-- R11, R12: a take-up that fails its tests. -/
theorem exec_takeUpStep_fails {c : Chan} {cause : FaultCause} {s u : State} (meets : MeetsTakeUp c s u)
    (test : u.takeUpTest c = .fail cause) :
    ∃ t v, exec (.takeUpStep c) s = .next t ∧ FaultsWith cause c u v ∧ t = v.setChan c { v.chan c with phase := .none } ∧
      (t.chan c).index = (u.chan c).index := by
  have running : ((workTaken (.sequencer c) u).chan c).state = .running := meets.2.2.1
  obtain ⟨faults, -⟩ := faultChannel_spec cause c (workTaken (.sequencer c) u) (.inl running)
  refine ⟨_, faultChannel cause c (workTaken (.sequencer c) u), ?_, faults, rfl, ?_⟩
  · rw [exec_takeUpStep meets, takeUp, show (workTaken (.sequencer c) u).takeUpTest c = _ from test]
    rfl
  · rw [chan_setChan, faultChannel_chan (.inl running)]
    rfl

/-! ### The step entered (R11, R69, R141) -/

/-- R11: the channel as it enters a step, before the staleness of its inputs is looked at. -/
def entered (h : Header) (st : Step) (c : Chan) (s : State) : Channel :=
  { s.chan c with
    phase := .active, work := entryWork s c st.body, tookUp := true
    profile := entryProfile s.store h (s.chan c).config.loadCeiling (s.chan c).profile st.body
    wedge := entryWedge (s.chan c).wedge st.body }

theorem enterContext_eq (h : Header) (st : Step) (c : Chan) (s : State) :
    enterContext h st c s = s.setChan c (entered h st c s) := rfl

/-- R69: only an INJECT makes a claim at its entry. -/
theorem enterStep_claims (h : Header) (st : Step) (c : Chan) (s : State) (available : s.requiredAvailable c st.body = true) :
    ClaimsOnly (s.setChan c (entered h st c s)) (enterStep h st c s) := by
  have same : (s.setChan c (entered h st c s)).requiredAvailable c st.body = true :=
    (requiredAvailable_congr (s := s) (t := s.setChan c (entered h st c s)) rfl (by rw [chan_setChan]; rfl) st.body).trans available
  simp only [enterStep, enterContext_eq, same, Bool.not_true, Bool.false_eq_true, if_false]
  split
  · exact claimsOnly_makeClaim c _
  all_goals exact ClaimsOnly.refl _

theorem enterStep_stale (h : Header) (st : Step) (c : Chan) (s : State)
    (unavailable : s.requiredAvailable c st.body = false) :
    enterStep h st c s = addCause .sampleStale c (s.setChan c (entered h st c s)) := by
  have same : (s.setChan c (entered h st c s)).requiredAvailable c st.body = false :=
    (requiredAvailable_congr (s := s) (t := s.setChan c (entered h st c s)) rfl (by rw [chan_setChan]; rfl) st.body).trans unavailable
  simp only [enterStep, enterContext_eq, same, Bool.not_false, if_true]

/-- R11: everything the entry of a step can do. -/
theorem enterStep_spec (h : Header) (st : Step) (c : Chan) (s : State) (running : (s.chan c).state = .running) :
    let t := enterStep h st c s
    KeptAs { entered h st c s with state := (t.chan c).state, freeze := (t.chan c).freeze } (t.chan c) ∧
      OthersKept c s t ∧ FreezeKeeps s t ∧
      (s.requiredAvailable c st.body = true →
        (t.chan c).state = .running ∧ (t.chan c).freeze = (s.chan c).freeze) ∧
      (s.requiredAvailable c st.body = false → (s.chan c).freeze.sampleStale = false →
        (t.chan c).state = .frozen ∧ (t.chan c).freeze = { (s.chan c).freeze with sampleStale := true } ∧
        t.mgmt.latched.sampleStale = true) := by
  intro t
  have others {v : State} (k : OthersKept c (s.setChan c (entered h st c s)) v) : OthersKept c s v := fun d hd => by
    have := k d hd
    rwa [chan_setChan_ne _ _ hd] at this
  have kept : FreezeKeeps s (s.setChan c (entered h st c s)) := by simp [FreezeKeeps]
  cases available : s.requiredAvailable c st.body with
  | true =>
    have claims : ClaimsOnly _ t := enterStep_claims h st c s available
    have own := claims.1 c
    rw [chan_setChan] at own
    have state : (t.chan c).state = .running := (keptAs_state own).trans running
    have freeze : (t.chan c).freeze = (s.chan c).freeze := (keptAs_freeze own).trans rfl
    obtain ⟨h1, h2, h3, h4, h5, h6, h7, -, h9, h10, -, h12, h13⟩ := claims.fields
    refine ⟨?_, others (claimsOnly_others claims c), kept.trans ⟨h1, h2, h3, h4, h5, h6, h7, h9, h10, h12, h13⟩,
      fun _ => ⟨state, freeze⟩, nofun⟩
    rw [state, freeze, ← running]
    exact own
  | false =>
    have stale : t = addCause .sampleStale c (s.setChan c (entered h st c s)) := enterStep_stale h st c s available
    have notIdle : ((s.setChan c (entered h st c s)).chan c).state ≠ .idle := by
      rw [chan_setChan]
      show (s.chan c).state ≠ .idle
      rw [running]
      nofun
    obtain ⟨reaches, keeps, -⟩ := addCause_spec .sampleStale c (s.setChan c (entered h st c s))
    have own := (reaches c).1 rfl notIdle
    rw [← stale] at own keeps
    rw [chan_setChan] at own
    have state := keptAs_state own
    have freeze := keptAs_freeze own
    refine ⟨?_, others fun d hd => ?_, kept.trans keeps, nofun, fun _ absent => ⟨?_, freeze, ?_⟩⟩
    · rw [state, freeze]
      exact own
    · rw [stale]
      exact (reaches d).2 (.inl hd)
    · rw [state]
      exact if_pos ⟨running, absent⟩
    · rw [stale, addCause_sampleStale_mgmt notIdle (by rw [chan_setChan]; exact absent)]

theorem map_ofNat_eq_bind (o : Option Nat) : o.map Int.ofNat = o.bind fun n => some (n : Int) := by cases o <;> rfl

/-- R53, R58, R64, R69, R90, R102, R105: the working fields at the entry are the manual's. -/
theorem entryFields_of_claimMoved {h : Header} {st : Step} {c : Chan} {s : State} {w : StepWork}
    (test : kindTest s.store h st.body = true) (moved : ClaimMoved (entryWork s c st.body) w) :
    EntryFields s c st.body w := by
  have same (no : ∀ x, entryWork s c st.body ≠ .inject x) : w = entryWork s c st.body := by
    rcases moved with e | ⟨x, -, -, e, -⟩
    · exact e
    · exact absurd e (no x)
  cases body : st.body with
  | inject p =>
    rw [body] at moved
    rcases moved with rfl | ⟨x, standing, r, e, rfl, hr⟩
    · exact ⟨_, rfl⟩
    · obtain rfl := StepWork.inject.inj e
      have zero : r = 0 := hr.elim id id
      exact ⟨standing, by rw [zero]⟩
  | hold p =>
    rw [body] at test same
    obtain ⟨m, hm⟩ : ∃ m, s.store.markSet p.markSet = some m := by
      cases hm : s.store.markSet p.markSet with
      | none => simp [kindTest, hm] at test
      | some m => exact ⟨m, rfl⟩
    refine ⟨m, hm, ?_⟩
    rw [same (by simp [entryWork]), entryWork, hm]
    rfl
  | check p =>
    rw [body] at same
    rw [same (by simp [entryWork])]
    cases record : (s.chan c).record <;> cases q : p.quantity <;>
      simp [EntryFields, entryWork, capturedAtTakeUp, q, record, map_ofNat_eq_bind]
  | ramp _ | lockoff _ | payout _ | await _ | signal _ | finish =>
    rw [body] at same
    exact same (by simp [entryWork])

/-- Settles O10: a take-up fails its tests or enters the step; the entry adds SAMPLE_STALE or claims a pump at most. -/
theorem takeUpEntersOrFaults : Obligations.TakeUpEntersOrFaults := by
  intro c h s u meets header fails
  obtain ⟨-, -, running, -⟩ := id meets
  refine ⟨fun beyond => ?_, fun index empty => ?_, fun st index step => ⟨fun test => ?_, fun test bound => ?_,
    fun test bound => ?_⟩⟩
  · exact exec_takeUpStep_fails meets (by simp [State.takeUpTest, header, Nat.not_lt.mpr beyond])
  · exact exec_takeUpStep_fails meets (by simp [State.takeUpTest, header, index, empty])
  · exact exec_takeUpStep_fails meets (by simp [State.takeUpTest, header, index, step, test])
  · exact exec_takeUpStep_fails meets (by simp [State.takeUpTest, header, index, step, test, bound])
  · obtain ⟨own, others, ⟨h1, h2, h3, h4, h5, h6, h7, h8, -⟩, available, stale⟩ :=
      enterStep_spec h st c (workTaken (.sequencer c) u) running
    refine ⟨_, exec_takeUpStep_enters meets header index step test bound, ?_⟩
    generalize enterStep h st c (workTaken (.sequencer c) u) = t at *
    obtain ⟨as, moved⟩ := own
    rw [as]
    refine ⟨rfl, rfl, entryFields_of_claimMoved (s := workTaken (.sequencer c) u) test moved, rfl, rfl, rfl, rfl,
      fun ⟨p, hp⟩ => ?_, fun no => ?_, available, stale, others, h1, h2, h3, h4, h5, h6, h7, h8⟩
    · show entryWedge _ st.body = true
      rw [hp]
      rfl
    · show entryWedge _ st.body = _
      cases body : st.body with
      | lockoff p => exact absurd body (no p)
      | payout _ | inject _ | ramp _ | hold _ | check _ | await _ | signal _ | finish => rfl

/-! ### The generator at the entry (R29, R36, R37) -/

/-- R35, R36: the generator loaded with the run of segments from `first`, its first one `g`. -/
theorem load_some {store : ProgramStore} {ceiling first count : Nat} {p : Profile} {g : Segment}
    (h : store.segment first = some g) :
    let x : Int := match g.mode with
      | .absolute => g.start * 256
      | .cont => p.acc
    p.load store ceiling first count =
      { p with
        ceiling := ceiling, working := some g, remaining := g.duration
        acc := (max 0 (min (ceiling * 256 : Int) x)).toNat, limited := decide (max 0 (min (ceiling * 256 : Int) x) ≠ x)
        reload := if 2 ≤ count then store.segment (first + 1) else none
        next := if 2 ≤ count then first + 2 else p.next, segsLeft := count - 2, phase := 0, staged := none
        status := .active } := by
  intro x
  by_cases many : 2 ≤ count
  · simp only [Profile.load, h, writeAcc_eq, many, if_true, Bool.false_or]
    rfl
  · have none : count - 2 = 0 := by omega
    simp only [Profile.load, h, writeAcc_eq, many, if_false, Bool.false_or, none]
    rfl

/-- R35, R36: what the load of a run leaves, whatever its first segment. -/
theorem load_keeps (store : ProgramStore) (ceiling first count : Nat) (p : Profile) :
    let q := p.load store ceiling first count
    q.ceiling = ceiling ∧ q.status = .active ∧ q.phase = 0 ∧ q.staged = none ∧ q.pace = p.pace ∧
      q.stagedPace = p.stagedPace ∧
      (2 ≤ count → q.reload = store.segment (first + 1) ∧ q.next = first + 2 ∧ q.segsLeft = count - 2) ∧
      (count < 2 → q.reload = none ∧ q.next = p.next ∧ q.segsLeft = 0) := by
  by_cases many : 2 ≤ count <;> cases h : store.segment first <;> simp [Profile.load, h, writeAcc_eq, many] <;> omega

/-- R36: the run a take-up loads, as the manual says it. -/
theorem load_run (store : ProgramStore) (ceiling first count : Nat) (p : Profile) :
    let q := p.load store ceiling first count
    q.ceiling = ceiling ∧ q.status = .active ∧ q.phase = 0 ∧ q.staged = none ∧ q.pace = p.pace ∧
      q.stagedPace = p.stagedPace ∧
      (∀ g, store.segment first = some g → q.working = some g ∧ q.remaining = g.duration ∧
        (g.mode = .absolute → q.acc = min (g.start * 256) (ceiling * 256) ∧ q.limited = decide (ceiling < g.start)) ∧
        (g.mode = .cont → q.acc = min p.acc (ceiling * 256) ∧ q.limited = decide (ceiling * 256 < p.acc))) ∧
      (2 ≤ count → q.reload = store.segment (first + 1) ∧ q.next = first + 2 ∧ q.segsLeft = count - 2) ∧
      (count < 2 → q.reload = none ∧ q.next = p.next ∧ q.segsLeft = 0) := by
  obtain ⟨h1, h2, h3, h4, h5, h6, more, one⟩ := load_keeps store ceiling first count p
  refine ⟨h1, h2, h3, h4, h5, h6, fun g hg => ?_, more, one⟩
  rw [load_some hg]
  refine ⟨rfl, rfl, fun mode => ?_, fun mode => ?_⟩ <;> simp only [mode]
  · exact ⟨by omega, decide_eq_decide.mpr (by omega)⟩
  · exact ⟨by omega, decide_eq_decide.mpr (by omega)⟩

/-- R37: the generator engaged without a segment. -/
theorem engage_eq (ceiling : Nat) (p : Profile) : p.engage ceiling = { p with
    ceiling := ceiling, acc := min p.acc (ceiling * 256), limited := p.limited || decide (ceiling * 256 < p.acc)
    working := none, reload := none, staged := none, segsLeft := 0, status := .finished } := by
  have acc : (max 0 (min (ceiling * 256 : Int) (p.acc : Int))).toNat = min p.acc (ceiling * 256) := by omega
  have limits : (max 0 (min (ceiling * 256 : Int) (p.acc : Int)) ≠ (p.acc : Int)) ↔ ceiling * 256 < p.acc := by omega
  simp only [Profile.engage, writeAcc_eq, acc, limits]

/-- Settles O11: the entry's generator is the loaded run, the held setpoint or the generator as it stood, and nothing
that follows the entry writes it. -/
theorem takeUpEngagesGenerator : Obligations.TakeUpEngagesGenerator := by
  intro c h st s u meets header index step test bound p run held
  obtain ⟨⟨as, -⟩, -⟩ := enterStep_spec h st c (workTaken (.sequencer c) u) meets.2.2.1
  refine ⟨_, exec_takeUpStep_enters meets header index step test bound, ?_⟩
  have profile : ((enterStep h st c (workTaken (.sequencer c) u)).chan c).profile =
      entryProfile u.store h (u.chan c).config.loadCeiling p st.body := congrArg Channel.profile as
  rw [profile]
  cases body : st.body with
  | ramp r => exact load_run u.store _ _ _ p
  | payout r => exact load_run u.store _ _ _ p
  | hold r => exact engage_eq _ p
  | lockoff r => exact engage_eq _ p
  | inject _ | check _ | await _ | signal _ | finish => rfl

end Sys2Proof.Machine.Laws
end

section
/-! PROOFS. Claims are made, withdrawn by a freeze and made again (R69, R70, R75, R78, R79, R82). -/

namespace Sys2Proof.Machine.Laws

/-! ### A claim (R78) -/

theorem setStanding_keeps_arb (s : State) (c : Chan) (w : StepWork) (p : Pump) : (s.setWork c w).arb p = s.arb p := by
  cases p <;> rfl

/-- R78, R79: the Arbiter's answer to the claim of an INJECT. -/
theorem claimAnswered_claimPump {p : Pump} {c : Chan} {x : InjectWork} {s : State} (hx : (s.chan c).work = .inject x) :
    ClaimAnswered p c x s (claimPump p c s) := by
  obtain ⟨directly, bySwitch⟩ := startGrant_eq (p := p) hx
  have free (h : (s.arb p).state = .free) : claimPump p c s = startGrant p c s := by simp only [claimPump, h]
  have waits (h : (s.arb p).state ≠ .free) : claimPump p c s =
      (s.setArb p { s.arb p with queue := (s.arb p).queue ++ [c] }).setWork c
        (.inject { x with standing := .queued, refusals := 0 }) := by
    have queued : claimPump p c s = (s.updArb p fun a => { a with queue := a.queue ++ [c] }).setStanding c .queued := by
      unfold claimPump
      split
      · exact absurd ‹_› h
      all_goals rfl
    rw [queued, setWork_setStanding (x := x) (by rw [updArb_chan]; exact hx)]
    rfl
  have shown (a : Arbiter) (w : StepWork) : ((s.setArb p a).setWork c w).arb p = a ∧
      (((s.setArb p a).setWork c w).chan c).work = w ∧ ∀ q, q ≠ p → ((s.setArb p a).setWork c w).arb q = s.arb q := by
    refine ⟨by rw [setStanding_keeps_arb, arb_setArb], by simp, fun q hq => ?_⟩
    rw [setStanding_keeps_arb, arb_setArb_ne _ _ hq]
  refine ⟨fun h direct => ?_, fun h indirect => ?_, fun h => ?_, fun q hq => ?_⟩
  · rw [free h, directly direct]
    obtain ⟨arb, work, -⟩ := shown _ _
    exact ⟨arb, work⟩
  · rw [free h, bySwitch indirect]
    obtain ⟨arb, work, -⟩ := shown _ _
    exact ⟨arb, work⟩
  · rw [waits h]
    obtain ⟨arb, work, -⟩ := shown _ _
    exact ⟨arb, work⟩
  · by_cases h : (s.arb p).state = .free
    · rw [free h]
      by_cases direct : (s.arb p).manifold = some c ∨ s.mgmt.config.switchTime = 0
      · rw [directly direct]; exact (shown _ _).2.2 q hq
      · rw [bySwitch direct]; exact (shown _ _).2.2 q hq
    · rw [waits h]; exact (shown _ _).2.2 q hq

/-- The Arbiter's answer depends on the Arbiters and the part configuration alone. -/
theorem claimAnswered_congr {p : Pump} {c : Chan} {x : InjectWork} {s u t v : State} (h : ClaimAnswered p c x s t)
    (ha : ∀ q, u.arb q = s.arb q) (hm : u.mgmt.config = s.mgmt.config) (ta : ∀ q, v.arb q = t.arb q)
    (tw : (v.chan c).work = (t.chan c).work) : ClaimAnswered p c x u v := by
  simp only [ClaimAnswered, ha, hm, ta, tw] at *
  exact h

theorem makeClaim_bound {c : Chan} {p : Pump} {s : State} (h : (s.chan c).config.pump = some p) :
    makeClaim c s = claimPump p c s := by simp only [makeClaim, h]

theorem takeUpClaimsPump : TakeUpClaimsPump := by
  intro c h st k p s u meets header index step body bound available pump
  have test : kindTest u.store h st.body = true := by rw [body]; rfl
  let z := workTaken (.sequencer c) u
  have claims : enterStep h st c z = claimPump p c (z.setChan c (entered h st c z)) := by
    have same : (z.setChan c (entered h st c z)).requiredAvailable c st.body = true :=
      (requiredAvailable_congr (s := z) (t := z.setChan c (entered h st c z)) rfl (by rw [chan_setChan]; rfl)
        st.body).trans available
    rw [body] at same
    simp only [enterStep, enterContext_eq, body, same, Bool.not_true, Bool.false_eq_true, if_false]
    exact makeClaim_bound (s := z.setChan c (entered h st c z)) (by rw [chan_setChan]; exact pump)
  have work : ((z.setChan c (entered h st c z)).chan c).work =
      .inject { standing := .none, volume := 0, refusals := 0, overs := 0, endReason := none } := by
    rw [chan_setChan]
    show entryWork z c st.body = _
    rw [body]
    rfl
  refine ⟨_, exec_takeUpStep_enters meets header index step test bound, ?_⟩
  rw [show workTaken (.sequencer c) u = z from rfl, claims]
  exact claimAnswered_congr (claimAnswered_claimPump work) (fun q => by cases q <;> rfl) rfl (fun _ => rfl) rfl

/-! ### One channel frozen (R124) -/

/-- R17: a cause already taken is not taken again. -/
theorem addCause_twice (k : FreezeCause) (c : Chan) (s : State) : addCause k c (addCause k c s) = addCause k c s := by
  by_cases idle : (s.chan c).state = .idle
  · have same : addCause k c s = s := by rw [addCause, if_pos (.inl idle)]
    rw [same, same]
  · obtain ⟨reaches, -⟩ := addCause_spec k c s
    have freeze := keptAs_freeze ((reaches c).1 rfl idle)
    have has : ((addCause k c s).chan c).freeze.has k = true := by rw [freeze]; exact freezeSet_has_add _ k
    generalize addCause k c s = t at *
    rw [addCause, if_pos (.inr has)]

theorem foldl_addCause_one (k : FreezeCause) (c : Chan) (l : List Chan) (s : State) (all : ∀ d ∈ l, d = c)
    (named : c ∈ l) : l.foldl (fun s c => addCause k c s) s = addCause k c s := by
  induction l generalizing s with
  | nil => exact absurd named List.not_mem_nil
  | cons d l ih =>
    have here : d = c := all d List.mem_cons_self
    have rest : ∀ e ∈ l, e = c := fun e he => all e (List.mem_cons_of_mem d he)
    rw [List.foldl_cons, here]
    by_cases more : c ∈ l
    · rw [ih _ rest more, addCause_twice]
    · have none : l = [] := List.eq_nil_iff_forall_not_mem.mpr fun e he => more (rest e he ▸ he)
      rw [none, List.foldl_nil]

theorem testBit_two_pow_iff {n : Nat} {c d : Chan} (h : n = 2 ^ c.val) : n.testBit d.val = true ↔ d = c := by
  rw [h, Nat.testBit_two_pow, decide_eq_true_eq]
  exact ⟨fun e => (Fin.ext e).symm, fun e => by rw [e]⟩

/-- R124: a FREEZE of one channel. -/
theorem freezeChannels_one {n : Nat} {c : Chan} (h : n = 2 ^ c.val) (s : State) :
    freezeChannels n s = addCause .supervisor c s.freezeTaken := by
  refine foldl_addCause_one .supervisor c _ _ (fun d hd => ?_) ?_
  · simp only [List.mem_filter, inSet] at hd
    exact (testBit_two_pow_iff h).mp hd.2
  · simp only [List.mem_filter, inSet]
    exact ⟨mem_freezeTurn s c, (testBit_two_pow_iff h).mpr rfl⟩

theorem resumeChannels_one {n : Nat} {c : Chan} (h : n = 2 ^ c.val) (s : State) (live : (s.chan c).state ≠ .idle) :
    resumeChannels n s = removeCauses (removableCauses s) c s := by
  have one : ∀ c : Chan, allChans.filter (inSet (2 ^ c.val)) = [c] := by decide
  rw [resumeChannels, h, one c, List.foldl_cons, List.foldl_nil, if_neg live]

/-! ### A claim withdrawn (R75, R82) -/

theorem setStanding_ne (s : State) {c d : Chan} (st : Standing) (h : d ≠ c) :
    (s.setStanding c st).chan d = s.chan d := by
  simp only [State.setStanding, updChan_eq, chan_setChan_ne _ _ h]

/-- R82: the holder's pump, its own count set to 0 by `f`, is passed on. -/
def handedOn (f : Arbiter → Arbiter) (p : Pump) (c : Chan) (s : State) : State :=
  (passOn p (s.updArb p f)).setStanding c .none

/-- R82: what the holder leaves of its pump. -/
theorem handedOn_spec {f : Arbiter → Arbiter} {p : Pump} (c : Chan) (s : State)
    (hq : (f (s.arb p)).queue = (s.arb p).queue) (hm : (f (s.arb p)).manifold = (s.arb p).manifold) :
    let t := handedOn f p c s
    let a := s.arb p
    let k := s.mgmt.config
    (∀ q, q ≠ p → t.arb q = s.arb q) ∧
      (a.queue = [] → (t.arb p).state = .free ∧ (t.arb p).queue = [] ∧ (t.arb p).manifold = a.manifold ∧
        (t.arb p).switchCount = 0 ∧ (t.arb p).tenureCount = 0) ∧
      ∀ (d : Chan) (rest : List Chan) (y : InjectWork), a.queue = d :: rest → d ≠ c → (s.chan d).work = .inject y →
        let direct := a.manifold = some d ∨ k.switchTime = 0
        (t.arb p).queue = rest ∧ (t.arb p).tenureHeld = k.tenure ∧ (t.arb p).switchHeld = k.switchTime ∧
        (t.arb p).tenureCount = 0 ∧ (t.arb p).begun = true ∧
        (direct → (t.arb p).state = .granted d ∧ (t.arb p).manifold = some d ∧
          (t.chan d).work = .inject { y with standing := .granted }) ∧
        (¬ direct → (t.arb p).state = .switching d ∧ (t.arb p).manifold = a.manifold ∧ (t.arb p).switchCount = 0 ∧
          (t.chan d).work = .inject { y with standing := .switching, refusals := 0 }) := by
  intro t a k
  have arb (q : Pump) : t.arb q = (passOn p (s.updArb p f)).arb q := arb_setStanding ..
  have own : (s.updArb p f).arb p = f a := updArb_arb s p f
  have other (q : Pump) (h : q ≠ p) : (s.updArb p f).arb q = s.arb q := arb_setArb_ne _ _ h
  have config : (s.updArb p f).mgmt = s.mgmt := by cases p <;> rfl
  cases queue : a.queue with
  | nil =>
    have none : (f a).queue = [] := hq.trans queue
    have passed : passOn p (s.updArb p f) =
        (s.updArb p f).updArb p fun a => { a with state := .free, switchCount := 0, tenureCount := 0 } := by
      simp only [passOn, own, none]
    refine ⟨fun q h => ?_, fun _ => ?_, nofun⟩
    · rw [arb, passed]
      exact (arb_setArb_ne _ _ h).trans (other q h)
    · rw [arb, passed, updArb_arb, own]
      exact ⟨rfl, none, hm, rfl, rfl⟩
  | cons d rest =>
    have next : (f a).queue = d :: rest := hq.trans queue
    have passed : passOn p (s.updArb p f) = startGrant p d ((s.updArb p f).updArb p fun a => { a with queue := rest }) := by
      simp only [passOn, own, next]
    let v := (s.updArb p f).updArb p fun a => { a with queue := rest }
    have varb : v.arb p = { f a with queue := rest } := by rw [updArb_arb, own]
    have vmgmt : v.mgmt = s.mgmt := by cases p <;> rfl
    refine ⟨fun q h => ?_, nofun, fun d' rest' y hq' hd hy => ?_⟩
    · rw [arb, passed, arb_startGrant_ne _ _ h]
      exact (arb_setArb_ne _ _ h).trans (other q h)
    · obtain ⟨rfl, rfl⟩ := List.cons.inj hq'
      have work : (v.chan d).work = .inject y := by
        rw [show v.chan d = s.chan d by rw [updArb_chan, updArb_chan]]
        exact hy
      obtain ⟨directly, bySwitch⟩ := startGrant_eq (p := p) work
      rw [varb, vmgmt] at directly bySwitch
      have chan : t.chan d = (startGrant p d v).chan d := by
        rw [← show passOn p (s.updArb p f) = startGrant p d v from passed]
        exact setStanding_ne _ _ hd
      have shown (b : Arbiter) (w : StepWork) (h : startGrant p d v = (v.setArb p b).setWork d w) :
          t.arb p = b ∧ (t.chan d).work = w := by
        rw [arb, chan, passed, show startGrant p d _ = _ from h, setStanding_keeps_arb, arb_setArb]
        exact ⟨rfl, by simp⟩
      by_cases direct : a.manifold = some d ∨ k.switchTime = 0
      · obtain ⟨is, became⟩ := shown _ _ (directly (by rw [hm]; exact direct))
        rw [is]
        exact ⟨rfl, rfl, rfl, rfl, rfl, fun _ => ⟨rfl, rfl, became⟩, fun no => absurd direct no⟩
      · obtain ⟨is, became⟩ := shown _ _ (bySwitch (by rw [hm]; exact direct))
        rw [is]
        exact ⟨rfl, rfl, rfl, rfl, rfl, fun yes => absurd yes direct, fun _ => ⟨rfl, hm, rfl, became⟩⟩

/-- R75, R82: a claim with a standing withdrawn from the pump of its channel's binding. -/
theorem withdrawClaim_pump {c : Chan} {p : Pump} {x : InjectWork} {s : State} (work : (s.chan c).work = .inject x)
    (standing : x.standing ≠ .none) (pump : (s.chan c).config.pump = some p) :
    let a := s.arb p
    (a.state ≠ .switching c → a.state ≠ .granted c → withdrawClaim c s =
      (s.updArb p fun a => { a with queue := a.queue.filter (· ≠ c) }).setStanding c .none) ∧
      (a.state = .switching c → withdrawClaim c s = handedOn (fun a => { a with switchCount := 0 }) p c s) ∧
      (a.state = .granted c → withdrawClaim c s = handedOn (fun a => { a with tenureCount := 0 }) p c s) := by
  intro a
  have shown : withdrawClaim c s = withdrawPump p c s := by
    simp only [withdrawClaim, work, standing, if_false, pump]
  rw [shown]
  refine ⟨fun h1 h2 => ?_, fun h => ?_, fun h => ?_⟩
  · cases state : (s.arb p).state with
    | free => simp only [withdrawPump, state]
    | switching d =>
      have other : d ≠ c := fun e => h1 (by rw [← e]; exact state)
      simp only [withdrawPump, state, other, if_false]
    | granted d =>
      have other : d ≠ c := fun e => h2 (by rw [← e]; exact state)
      simp only [withdrawPump, state, other, if_false]
  · simp only [withdrawPump, show (s.arb p).state = .switching c from h, if_true, handedOn]
  · simp only [withdrawPump, show (s.arb p).state = .granted c from h, if_true, handedOn]

/-- R17: a RUNNING channel that takes a cause withdraws its claim. -/
theorem addCause_running {k : FreezeCause} {c : Chan} {s : State} (hk : k ≠ .sampleStale)
    (running : (s.chan c).state = .running) (absent : (s.chan c).freeze.has k = false) :
    addCause k c s = withdrawClaim c (s.setChan c { s.chan c with
      freeze := (s.chan c).freeze.add k, state := .frozen }) := by
  have no : ¬ ((s.chan c).state = .idle ∨ (s.chan c).freeze.has k = true) := by simp [running, absent]
  rw [addCause, if_neg no]
  simp [running, latchStale, hk, freezeEffect]

theorem freezeWithdrawsClaim : FreezeWithdrawsClaim := by
  intro c p x b w s u a k addressed byte running absent pump work standing
  let z := (passed w u).freezeTaken.setChan c { u.chan c with
    freeze := (u.chan c).freeze.add .supervisor, state := .frozen }
  have frozen : freezeChannels b.toNat (passed w u) = withdrawClaim c z := by
    rw [freezeChannels_one byte]
    exact addCause_running (s := (passed w u).freezeTaken) (by decide) running absent
  have set_eq : natAt [b] 0 1 = b.toNat := natAt_head b []
  obtain ⟨-, keeps, -⟩ := freezeChannels_spec b.toNat (passed w u)
  have answer : exec (.freeze w) s = .next (State.prepare w (freezeRequest [b] (passed w u))) :=
    congrArg Host.Outcome.next (requestEvent_ofKind addressed (by decide) rfl)
  rw [freezeRequest, set_eq, prepare_accept _ keeps, frozen] at answer
  have own : z.chan c = { u.chan c with freeze := (u.chan c).freeze.add .supervisor, state := .frozen } :=
    chan_setChan _ _ _
  have other (d : Chan) (h : d ≠ c) : z.chan d = u.chan d := chan_setChan_ne _ _ h
  have zarb (q : Pump) : z.arb q = u.arb q := by cases q <;> rfl
  have config : z.mgmt.config = k := rfl
  obtain ⟨waits, switching, granted⟩ := withdrawClaim_pump (p := p) (s := z) (by rw [own]; exact work) standing
    (by rw [own]; exact pump)
  rw [zarb] at waits switching granted
  have chan := withdrawClaim_chan c z
  rw [own] at chan
  refine ⟨_, answer, ?_⟩
  show ((withdrawClaim c z).chan c).state = .frozen ∧ ((withdrawClaim c z).chan c).work = _ ∧
    (∀ q, q ≠ p → (withdrawClaim c z).arb q = u.arb q) ∧ (_ → _ → (withdrawClaim c z).arb p = _) ∧ _
  refine ⟨by rw [chan]; rfl, ?_, ?_⟩
  · rw [chan]
    show withdrawn (u.chan c).work = _
    rw [work]
    rfl
  by_cases holder : a.state = .switching c ∨ a.state = .granted c
  · obtain ⟨f, handed, hq, hm⟩ : ∃ f : Arbiter → Arbiter, withdrawClaim c z = handedOn f p c z ∧
        (f (z.arb p)).queue = (z.arb p).queue ∧ (f (z.arb p)).manifold = (z.arb p).manifold := by
      rcases holder with h | h
      · exact ⟨_, switching h, rfl, rfl⟩
      · exact ⟨_, granted h, rfl, rfl⟩
    obtain ⟨others, empty, next⟩ := handedOn_spec c z hq hm
    simp only [zarb, config] at others empty next
    rw [handed]
    refine ⟨others, fun h1 h2 => absurd holder (not_or.mpr ⟨h1, h2⟩), fun _ => ⟨empty, ?_⟩⟩
    intro d rest y queue hd hy
    exact next d rest y queue hd (by rw [other d hd]; exact hy)
  · obtain ⟨h1, h2⟩ := not_or.mp holder
    rw [waits h1 h2]
    refine ⟨fun q hq => ?_, fun _ _ => ?_, fun h => absurd h holder⟩
    · rw [arb_setStanding]
      exact (arb_setArb_ne _ _ hq).trans (zarb q)
    · rw [arb_setStanding, updArb_arb, zarb]

/-- R17, R125: a FROZEN INJECT whose last cause goes runs again and claims its pump. -/
theorem removeCauses_claims {g : FreezeSet} {c : Chan} {x : InjectWork} {s : State} (frozen : (s.chan c).state = .frozen)
    (last : ((s.chan c).freeze.without g).isEmpty = true) (work : (s.chan c).work = .inject x) :
    removeCauses g c s = makeClaim c (s.setChan c { s.chan c with
      freeze := (s.chan c).freeze.without g, state := .running }) := by
  simp [removeCauses, frozen, last, thawEffect, work]

theorem resumeClaimsPumpAgain : ResumeClaimsPumpAgain := by
  intro c p x b w s u addressed byte frozen freeze pump work
  let z := (passed w u).setChan c { u.chan c with
    freeze := (u.chan c).freeze.without (removableCauses (passed w u)), state := .running }
  have last : ((u.chan c).freeze.without (removableCauses (passed w u))).isEmpty = true := by
    rw [without_removable, freeze]
    rfl
  have own : z.chan c = { u.chan c with
      freeze := (u.chan c).freeze.without (removableCauses (passed w u)), state := .running } := chan_setChan _ _ _
  have resumes : resumeChannels b.toNat (passed w u) = claimPump p c z := by
    rw [resumeChannels_one byte (passed w u) (by rw [show (passed w u).chan c = u.chan c from rfl, frozen]; nofun),
      removeCauses_claims (s := passed w u) frozen last work]
    exact makeClaim_bound (s := z) (by rw [own]; exact pump)
  have set_eq : natAt [b] 0 1 = b.toNat := natAt_head b []
  obtain ⟨-, -, keeps, -⟩ := resumeChannels_spec b.toNat (passed w u)
  have answer : exec (.resume w) s = .next (State.prepare w (resumeRequest [b] (passed w u))) :=
    congrArg Host.Outcome.next (requestEvent_ofKind addressed (by decide) rfl)
  rw [resumeRequest, set_eq, prepare_answer _ _ keeps, resumes] at answer
  refine ⟨_, answer, ?_, ?_⟩
  · have claims := (claimsOnly_makeClaim c z).1 c
    rw [makeClaim_bound (by rw [own]; exact pump)] at claims
    refine (keptAs_state claims).trans ?_
    rw [own]
  · exact claimAnswered_congr (claimAnswered_claimPump (s := z) (p := p) (x := x) (by rw [own]; exact work))
      (fun q => by cases q <;> rfl) rfl (fun _ => rfl) rfl

/-- Settles O17: the Arbiter's answer to a claim, whatever made it, and what a withdrawal leaves of its pump. -/
theorem claimsAreGrantedAndWithdrawn : Obligations.ClaimsAreGrantedAndWithdrawn :=
  ⟨takeUpClaimsPump, freezeWithdrawsClaim, resumeClaimsPumpAgain⟩

end Sys2Proof.Machine.Laws
end

section
/-! PROOFS. The cycle-start work of an ACTIVE step: a failed step's courses (R15), LOCKOFF (R65, R66), RAMP (R56), PAYOUT
(R91) and AWAIT (R105 to R107). -/

namespace Sys2Proof.Machine.Laws

/-! ### The work of an ACTIVE step (R11, R18) -/

theorem sequencerCycle_active {c : Chan} {st : Step} {s : State} (running : (s.chan c).state = .running)
    (active : (s.chan c).phase = .active) (tookUp : (s.chan c).tookUp = false) (step : s.currentStep c = some st) :
    sequencerCycle c s = stepCycle st c s := by
  simp [sequencerCycle, running, active, tookUp, step]

/-- The work of one channel, alone due. -/
theorem settle_worksStep {c : Chan} {st : Step} {s : State} (h : WorksStep c st s) :
    settle s = stepCycle st c { s with due := [] } := by
  obtain ⟨due, running, active, tookUp, step⟩ := h
  rw [settle_one due]
  exact sequencerCycle_active (s := { s with due := [] }) running active tookUp step

/-- R66, R78: nothing comes before the work of an ACTIVE step that is no LOCKOFF. -/
theorem workBefore_active {c : Chan} {s : State} (active : (s.chan c).phase = .active)
    (work : ∀ x, (s.chan c).work ≠ .lockoff x) : workBefore (.sequencer c) s = [] := by
  have claimless : s.willClaim c = none := if_neg fun h => by simp [active] at h
  unfold workBefore
  dsimp only
  split
  · exact absurd ‹_› (work _)
  all_goals simp [lowerClaimants, claimless]

/-- A row that takes the work of an ACTIVE step that is no LOCKOFF. -/
theorem takeOccurrence_step {c : Chan} {st : Step} {q : State → Bool} {s : State} (due : CycleWork.sequencer c ∈ s.due)
    (running : (s.chan c).state = .running) (active : (s.chan c).phase = .active) (tookUp : (s.chan c).tookUp = false)
    (step : s.currentStep c = some st) (work : ∀ x, (s.chan c).work ≠ .lockoff x) (hq : q s = true) :
    takeOccurrence (.sequencer c) q s = stepCycle st c (workTaken (.sequencer c) s) := by
  rw [takeOccurrence_alone due (workBefore_active active work) hq]
  exact sequencerCycle_active (s := workTaken (.sequencer c) s) running active tookUp step

/-! ### A step left or failed (R13 to R15) -/

/-- R13: a step whose accounting writes nothing leaves the record as it stands. -/
theorem leaveStep_record {i : Nat} {c : Chan} {s : State} (keeps : ∀ r, RecordLeft (s.chan c).work r = r) :
    ((leaveStep .takeUp i c s).chan c).record = (s.chan c).record := by
  rw [(leaveStep_spec .takeUp i c s).1, leftWith_record, show RecordLeft (s.chan c).work = id from funext keeps,
    Option.map_id_fun]
  rfl

/-- R15: the three courses of a RUNNING channel's failed step whose accounting writes nothing into the record. -/
theorem failsBy_failStep {st : Step} {cause : FaultCause} {c : Chan} {rec : Record} {s : State}
    (running : (s.chan c).state = .running) (record : (s.chan c).record = some rec)
    (keeps : ∀ r, RecordLeft (s.chan c).work r = r) : FailsBy st cause c rec s (failStep st cause c s) := by
  refine ⟨fun course => ?_, fun course => ?_, fun course => ?_⟩
  · rw [failStep, course]
    exact (faultChannel_spec cause c s (.inl running)).1
  · rw [failStep, course]
    exact ⟨stepLeft_leaveStep _ c s, (leaveStep_record keeps).trans record⟩
  · have counted : s.updRecord c Record.countFailed =
        stepNoted c (s.chan c).work (some rec.countFailed) (s.chan c).lastCreep (s.chan c).jack s := by
      simp [stepNoted, record]
    rw [failStep, course]
    dsimp only
    rw [failContinue, counted, completeStep_stepNoted]
    obtain ⟨left, chan⟩ := leaveStep_stepNoted (nextIndex (s.chan c).index) c (s.chan c).work (some rec.countFailed)
      (s.chan c).lastCreep (s.chan c).jack s
    refine ⟨left, ?_⟩
    rw [chan, leftWith_record]
    exact congrArg some (keeps _)

theorem recordLeft_ramp (w : RampWork) (r : Record) : RecordLeft (.ramp w) r = r := rfl

theorem recordLeft_payout {w : PayoutWork} (h : w.startLength = none) (r : Record) : RecordLeft (.payout w) r = r := if_pos h

/-! ### LOCKOFF (R65, R66) -/

theorem stepCycle_lockoff {c : Chan} {st : Step} {p : LockoffStep} {w : LockoffWork} {s : State}
    (body : st.body = .lockoff p) (work : (s.chan c).work = .lockoff w) (seating : w.phase = .seating) :
    stepCycle st c s = match w.load.or (s.chanValue c .jackLoad) with
      | none => failStep st .noData c s
      | some load =>
        if w.settle = p.settleCycles then
          ((takeLockoffLoad w load c s).setWork c (.lockoff { w with load := some load, phase := .releasing })).updProfile c
            (·.release p.releaseSlope)
        else (takeLockoffLoad w load c s).setWork c (.lockoff { w with load := some load, settle := w.settle + 1 }) := by
  simp only [stepCycle, body, work, lockoffCycle, seating, lockoffLoad] <;> rfl

/-- R65: the record once the lock-off load has been taken. -/
theorem takeLockoffLoad_eq (w : LockoffWork) (load : Nat) (c : Chan) (s : State) :
    takeLockoffLoad w load c s = s.setChan c { s.chan c with
      record := if w.load = none then (s.chan c).record.map (fun r : Record => { r with lockoffLoad := some load })
        else (s.chan c).record } := by
  cases h : w.load with
  | none => simp [takeLockoffLoad, h]
  | some l =>
    simp only [takeLockoffLoad, h, Option.isNone_some, Bool.false_eq_true, if_false, reduceCtorEq]
    exact (setChan_self s c).symm

theorem seatedLockoffReleases : SeatedLockoffReleases := by
  intro c st p w load s u due hu running active tookUp step body work seating settled hload
  subst hu
  generalize hu : prepareWork (.sequencer c) s = u at *
  have releases : releasesNow c u = true := by
    obtain ⟨onFail, divert, b⟩ := st
    obtain rfl : b = .lockoff p := body
    simp [releasesNow, running, tookUp, step, work, seating, settled, lockoffLoad, hload]
  have taken : takeOccurrence (.sequencer c) (releasesNow c) s = stepCycle st c (workTaken (.sequencer c) u) := by
    rw [takeOccurrence_met due (by rw [hu]; exact releases), hu]
    exact sequencerCycle_active (s := workTaken (.sequencer c) u) running active tookUp step
  refine congrArg Host.Outcome.next (taken.trans ?_)
  rw [stepCycle_lockoff (s := workTaken (.sequencer c) u) body work seating,
    show (workTaken (.sequencer c) u).chanValue c .jackLoad = u.chanValue c .jackLoad from rfl, hload]
  simp only [settled, if_true, takeLockoffLoad_eq]
  simp [Profile.release, workTaken]
  rfl

theorem seatingLockoffTakesLoad : SeatingLockoffTakesLoad := by
  intro c st p w s works body work seating counted
  have cycle : settle s = _ := (settle_worksStep works).trans
    (stepCycle_lockoff (s := { s with due := [] }) body work seating)
  have value : State.chanValue { s with due := [] } c .jackLoad = s.chanValue c .jackLoad := rfl
  rw [value] at cycle
  refine ⟨fun load held more => ?_, fun load absent shows more => ?_, fun rec absent silent record => ?_⟩
  · rw [cycle, held]
    simp only [more, if_false, takeLockoffLoad_eq, held]
    simp [counted]
    rfl
  · rw [cycle, absent, shows]
    simp only [Option.or_some, more, if_false, takeLockoffLoad_eq, absent]
    simp [counted]
    rfl
  · rw [cycle, absent, silent]
    exact failsBy_failStep (s := { s with due := [] }) works.2.1 record
      (by rw [show (State.chan { s with due := [] } c).work = _ from work]; exact fun _ => rfl)

/-- Settles O12: the cycle starts of a SEATING LOCKOFF, by its lock-off load and its count. -/
theorem lockoffReleasesJack : Obligations.LockoffReleasesJack := ⟨seatedLockoffReleases, seatingLockoffTakesLoad⟩

/-! ### RAMP (R56) -/

theorem stepCycle_ramp {c : Chan} {st : Step} {p : RampStep} {w : RampWork} {s : State} (body : st.body = .ramp p)
    (work : (s.chan c).work = .ramp w) : stepCycle st c s = rampCycle st p w c s := by
  simp only [stepCycle, body, work]

theorem rampFailsUnsettled : RampFailsUnsettled := by
  intro c st p w rec s due running active tookUp before step body work phase limit record
  have counts : rampCounts (s.chan c) w = true := by simp [rampCounts, phase, before]
  have unsettled : unsettledNow c s = true := by
    obtain ⟨onFail, divert, b⟩ := st
    obtain rfl : b = .ramp p := body
    simp [unsettledNow, State.settling, running, step, work, phase, tookUp, counts, limit]
  let z := (workTaken (.sequencer c) s).setWork c (.ramp { w with unsettled := w.unsettled + 1 })
  have cycle : stepCycle st c (workTaken (.sequencer c) s) = failStep st .rampUnsettled c z := by
    rw [stepCycle_ramp (s := workTaken (.sequencer c) s) body work, rampCycle,
      if_pos (show rampCounts ((workTaken (.sequencer c) s).chan c) w = true from counts)]
    exact if_pos limit
  have own : z.chan c = { s.chan c with work := .ramp { w with unsettled := w.unsettled + 1 } } := chan_setChan _ _ _
  refine ⟨_, congrArg Host.Outcome.next (takeOccurrence_step due running active tookUp step (by simp [work]) unsettled),
    ?_⟩
  rw [cycle]
  exact failsBy_failStep (s := z) (by rw [own]; exact running) (by rw [own]; exact record)
    (by rw [own]; exact recordLeft_ramp _)

theorem settlingRampCounts : SettlingRampCounts := by
  intro c st p w s works body work
  have cycle : settle s = rampCycle st p w c { s with due := [] } :=
    (settle_worksStep works).trans (stepCycle_ramp (s := { s with due := [] }) body work)
  have same : State.chan { s with due := [] } c = s.chan c := rfl
  rw [cycle, rampCycle, same]
  refine ⟨fun phase before under => ?_, fun still => ?_⟩
  · rw [if_pos (by simp [rampCounts, phase, before])]
    exact if_neg (Nat.not_le.mpr under)
  · rw [if_neg (by rcases still with h | h <;> simp [rampCounts, h])]

/-! ### PAYOUT (R91) -/

theorem payoutTakesStartLength : PayoutTakesStartLength := by
  intro c st p w s works body work
  have cycle : settle s = payoutCycle st w c { s with due := [] } := by
    rw [settle_worksStep works, stepCycle, body, show (State.chan { s with due := [] } c).work = _ from work]
  have value : State.chanValue { s with due := [] } c .winchPayout = s.chanValue c .winchPayout := rfl
  rw [cycle, payoutCycle, value]
  refine ⟨fun taken => ?_, fun v absent shows => ?_, fun rec absent silent record => ?_⟩
  · rw [if_pos (Option.isSome_iff_ne_none.mpr taken)]
  · simp only [absent, Option.isSome_none, Bool.false_eq_true, if_false, shows]
  · simp only [absent, Option.isSome_none, Bool.false_eq_true, if_false, silent]
    exact failsBy_failStep (s := { s with due := [] }) works.2.1 record
      (by rw [show (State.chan { s with due := [] } c).work = _ from work]; exact recordLeft_payout absent)

/-! ### AWAIT (R105 to R107) -/

theorem stepCycle_await {c : Chan} {st : Step} {p : AwaitStep} {w : AwaitWork} {s : State} (body : st.body = .await p)
    (work : (s.chan c).work = .await w) : stepCycle st c s = awaitCycle st p w c s := by
  simp only [stepCycle, body, work]

/-- R105, R106: the timer's test. -/
theorem timer_present_iff (s : State) (c : Chan) (p : AwaitStep) (w : AwaitWork) : awaitPresent s c p w .timer = true ↔
    (p.releaseSet.timer = true ∧ 0 < p.timer) ∧ min 16777215 (w.elapsed + 1) = p.timer := by
  by_cases runs : p.releaseSet.timer = true ∧ 0 < p.timer
  · simp [awaitPresent, timerRuns, awaitElapsed, satAdd, runs]
  · have not : timerRuns p = false := by simpa [timerRuns] using runs
    simp only [awaitPresent, not, Bool.and_false, Bool.false_and, Bool.false_eq_true, false_iff]
    exact fun k => runs k.1

theorem awaitPresent_iff (s : State) (c : Chan) (p : AwaitStep) (w : AwaitWork) :
    (awaitPresent s c p w .release = true ↔ p.releaseSet.release = true ∧ w.latch = true) ∧
      (awaitPresent s c p w .peer = true ↔ p.releaseSet.peer = true ∧ (s.chan c).peer = true) ∧
      (awaitPresent s c p w .wallClear = true ↔ p.releaseSet.wallClear = true ∧ s.wallState = .normal) := by
  simp [awaitPresent]

/-- R107: the source that decides, in the order TIMER, RELEASE, PEER, WALL_CLEAR. -/
theorem awaitDecider_eq (s : State) (c : Chan) (p : AwaitStep) (w : AwaitWork) : awaitDecider s c p w =
    if awaitPresent s c p w .timer = true then some .timer
    else if awaitPresent s c p w .release = true then some .release
    else if awaitPresent s c p w .peer = true then some .peer
    else if awaitPresent s c p w .wallClear = true then some .wallClear else none := by
  simp only [awaitDecider, List.find?]
  cases awaitPresent s c p w .timer <;> cases awaitPresent s c p w .release <;> cases awaitPresent s c p w .peer <;>
    cases awaitPresent s c p w .wallClear <;> rfl

/-- R107: the AWAIT that a source releases. -/
theorem awaitCycle_released {c : Chan} {st : Step} {p : AwaitStep} {w : AwaitWork} {x : AwaitSource} {s : State}
    (h : awaitDecider s c p w = some x) (work : (s.chan c).work = .await w) :
    let t := awaitCycle st p w c s
    StepLeft (if p.divertSet.has x = true then st.divert else min 256 ((s.chan c).index + 1)) c (consumeSource x c s) t ∧
      (t.chan c).record = (s.chan c).record := by
  have own : ∃ b, (consumeSource x c s).chan c = { s.chan c with peer := b } := by
    cases x with
    | peer => exact ⟨false, chan_setChan _ _ _⟩
    | timer | release | wallClear => exact ⟨_, rfl⟩
  obtain ⟨b, own⟩ := own
  have leaves (i : Nat) : StepLeft i c (consumeSource x c s) (leaveStep .takeUp i c (consumeSource x c s)) ∧
      ((leaveStep .takeUp i c (consumeSource x c s)).chan c).record = (s.chan c).record := by
    refine ⟨stepLeft_leaveStep i c _, (leaveStep_record ?_).trans (by rw [own])⟩
    rw [own]
    show ∀ r, RecordLeft (s.chan c).work r = r
    rw [work]
    exact fun _ => rfl
  have next : nextIndex ((consumeSource x c s).chan c).index = min 256 ((s.chan c).index + 1) := by rw [own]; rfl
  simp only [awaitCycle, h]
  split
  · exact leaves _
  · rw [completeStep, next]
    exact leaves _

theorem awaitTimerReleases : AwaitTimerReleases := by
  intro c st p w s due running active tookUp step body work inSet runs out
  have present : awaitPresent s c p w .timer = true := (timer_present_iff s c p w).mpr ⟨⟨inSet, runs⟩, out⟩
  have occurs : timerOut c s = true := by
    obtain ⟨onFail, divert, b⟩ := st
    obtain rfl : b = .await p := body
    simp [timerOut, running, tookUp, step, work, present]
  have decides : awaitDecider (workTaken (.sequencer c) s) c p w = some .timer := by
    rw [awaitDecider_eq]
    exact if_pos present
  obtain ⟨left, record⟩ := awaitCycle_released (st := st) decides work
  refine ⟨_, congrArg Host.Outcome.next (takeOccurrence_step due running active tookUp step (by simp [work]) occurs), ?_⟩
  rw [stepCycle_await (s := workTaken (.sequencer c) s) body work]
  refine ⟨record, fun diverts => ?_, fun on => ?_⟩
  · rw [show p.divertSet.has .timer = true from diverts, if_pos rfl] at left
    exact left
  · rw [show p.divertSet.has .timer = false from on, if_neg Bool.false_ne_true] at left
    exact left

theorem awaitSourcesRelease : AwaitSourcesRelease := by
  intro c st p w s works body work runs timer release peer clear goes
  let z : State := { s with due := [] }
  have cycle : settle s = awaitCycle st p w c z :=
    (settle_worksStep works).trans (stepCycle_await (s := z) body work)
  have hTimer : awaitPresent z c p w .timer = true ↔ timer := timer_present_iff z c p w
  obtain ⟨hRelease, hPeer, hClear⟩ := awaitPresent_iff z c p w
  have decider := awaitDecider_eq z c p w
  have released {x : AwaitSource} (h : awaitDecider z c p w = some x) := awaitCycle_released (st := st) h work
  rw [← cycle] at released
  refine ⟨fun h1 h2 => ?_, fun h1 h2 h3 => ?_, fun h1 h2 h3 h4 => ?_, fun h1 h2 h3 h4 => ?_⟩
  · rw [if_neg (fun k => h1 (hTimer.mp k)), if_pos (hRelease.mpr h2)] at decider
    exact released decider
  · rw [if_neg (fun k => h1 (hTimer.mp k)), if_neg (fun k => h2 (hRelease.mp k)), if_pos (hPeer.mpr h3)] at decider
    exact released decider
  · rw [if_neg (fun k => h1 (hTimer.mp k)), if_neg (fun k => h2 (hRelease.mp k)), if_neg (fun k => h3 (hPeer.mp k)),
      if_pos (hClear.mpr h4)] at decider
    exact released decider
  · rw [if_neg (fun k => h1 (hTimer.mp k)), if_neg (fun k => h2 (hRelease.mp k)), if_neg (fun k => h3 (hPeer.mp k)),
      if_neg (fun k => h4 (hClear.mp k))] at decider
    have waits : settle s = z.setWork c (.await { w with elapsed := awaitElapsed p w }) := by
      rw [cycle]
      simp only [awaitCycle, decider]
    refine ⟨fun yes => ?_, fun no => ?_⟩
    · have elapsed : awaitElapsed p w = min 16777215 (w.elapsed + 1) := if_pos (by simpa [timerRuns] using yes)
      rw [waits, elapsed]
    · have elapsed : awaitElapsed p w = w.elapsed := if_neg fun k =>
        no (by simpa [timerRuns] using k : p.releaseSet.timer = true ∧ 0 < p.timer)
      rw [waits, elapsed]
      have own : { z.chan c with work := .await w } = z.chan c := by
        rw [show StepWork.await w = (z.chan c).work from work.symm]
      exact (congrArg (z.setChan c) own).trans (setChan_self z c)

/-- Settles O14: the cycle starts of a SETTLING RAMP, of a PAYOUT without a start length and of an AWAIT. -/
theorem rampFailsAndAwaitReleases : Obligations.RampFailsAndAwaitReleases :=
  ⟨rampFailsUnsettled, settlingRampCounts, payoutTakesStartLength, awaitTimerReleases, awaitSourcesRelease⟩

end Sys2Proof.Machine.Laws
end

section
/-! PROOFS. A program ends (R19, R20, R185): by ABORT_PROGRAM (R21) and by an END; CHECK and SIGNAL at a cycle start
(R103, R110 to R112). -/

namespace Sys2Proof.Machine.Laws

/-! ### A program ended (R19, R185) -/

/-- R19: the record that is closed when a program ends. -/
def closedRecord (o : RunOutcome) (c : Chan) (s : State) (rec : Record) : Record :=
  { rec with outcome := some o, endCount := some s.line.count, lastIndex := (s.chan c).index }

theorem endProgram_eq {o : RunOutcome} {c : Chan} {rec : Record} {s : State} (record : (s.chan c).record = some rec) :
    endProgram o c s = offerRecord (closedRecord o c s rec) c (endedState c s) := by
  have closed : (s.chan c).record.map (Record.close o s.line.count (s.chan c).index) = some (closedRecord o c s rec) := by
    rw [record]; rfl
  have shown : (unlockCurrent c s).updChan c ended = endedState c s := by
    rw [updChan_eq, endedState, unlockCurrent_chan]
  unfold endProgram
  simp only [closed]
  exact congrArg (offerRecord _ c) shown

/-- R19, R185: the part in which the program on channel `c` has ended, the Record Queue being `q` and the channel
`b`. -/
def endedWith (c : Chan) (q : RecordQueue) (b : Channel) (s : State) : State :=
  { (unlockCurrent c s).setChan c b with records := q }

theorem endedState_pending (c : Chan) (s : State) :
    ((endedState c s).chan c).pendingProgram = (s.chan c).pendingProgram := by rw [endedState_chan]; rfl

/-- R50, R52: the channel as it goes IDLE once its program has ended. -/
def idled (a : Channel) : Channel :=
  { ended a with state := .idle, filed := none, jack := { a.jack with integral := 0, overloads := 0 } }

theorem endProgram_idle {o : RunOutcome} {c : Chan} {rec : Record} {s : State} (record : (s.chan c).record = some rec)
    (room : s.records.queue.length < 16) (none : (s.chan c).pendingProgram = none) :
    endProgram o c s =
      endedWith c { s.records with queue := s.records.queue ++ [closedRecord o c s rec] } (idled (s.chan c)) s := by
  have has : (endedState c s).queueHasRoom = true := by simpa [State.queueHasRoom, endedState_records] using room
  rw [endProgram_eq record, offerRecord, if_pos has, afterFiling_idle
    (s := (endedState c s).updRecords fun q => { q with queue := q.queue ++ [closedRecord o c s rec] })
    ((endedState_pending c s).trans none)]
  have chan : ((endedState c s).updRecords fun q => { q with queue := q.queue ++ [closedRecord o c s rec] }).chan c =
      ended (s.chan c) := endedState_chan c s
  rw [chan, ← endedState_records c s]
  simp [endedState, endedWith, idled, ended, State.updRecords, State.setChan]

/-- R9: the record tag of header `j`. -/
def tagOf (s : State) (j : Nat) : Nat := ((s.store.header j).map Header.tag).getD 0

theorem startProgram_tagOf (j : Nat) (c : Chan) (s : State) :
    startProgram j c s = s.setChan c (Started j (tagOf s j) c s) := by
  simp only [startProgram, updChan_eq, startCauses_eq]
  rfl

theorem afterFiling_pending {c : Chan} {s : State} {j : Nat} (pending : (s.chan c).pendingProgram = some j) :
    afterFiling c s = s.setChan c { Started j (tagOf s j) c s with pendingProgram := none } := by
  simp only [afterFiling, pending]
  rw [startProgram_tagOf, updChan_eq, setChan_setChan]
  simp only [Started, chan_setChan]
  rfl

theorem tagOf_endedState (c : Chan) (s : State) (j : Nat) : tagOf (endedState c s) j = tagOf s j := by
  have header : (endedState c s).store.header = s.store.header := by
    show (unlockCurrent c s).store.header = _
    unfold unlockCurrent
    split
    · rename_i i _
      show (s.store.changeLockSet (· - 1) i).header = _
      unfold ProgramStore.changeLockSet
      split <;> rfl
    · rfl
  rw [tagOf, header]; rfl

/-- R9, R19: a pending program follows the one that ends. -/
theorem endProgram_starts {o : RunOutcome} {c : Chan} {rec : Record} {j : Nat} {s : State}
    (record : (s.chan c).record = some rec) (room : s.records.queue.length < 16)
    (pending : (s.chan c).pendingProgram = some j) :
    endProgram o c s =
      endedWith c { s.records with queue := s.records.queue ++ [closedRecord o c s rec] }
        { Started j (tagOf s j) c (endedState c s) with pendingProgram := none } s := by
  have has : (endedState c s).queueHasRoom = true := by simpa [State.queueHasRoom, endedState_records] using room
  have started : Started j (tagOf ((endedState c s).updRecords fun q =>
      { q with queue := q.queue ++ [closedRecord o c s rec] }) j) c ((endedState c s).updRecords fun q =>
      { q with queue := q.queue ++ [closedRecord o c s rec] }) = Started j (tagOf s j) c (endedState c s) := by
    rw [← tagOf_endedState c s]; rfl
  rw [endProgram_eq record, offerRecord, if_pos has, afterFiling_pending (j := j)
    (s := (endedState c s).updRecords fun q => { q with queue := q.queue ++ [closedRecord o c s rec] })
    ((endedState_pending c s).trans pending), started, ← endedState_records c s]
  simp [endedState, endedWith, State.updRecords, State.setChan]

/-- R185: without room the channel holds its record. -/
theorem endProgram_files {o : RunOutcome} {c : Chan} {rec : Record} {s : State} (record : (s.chan c).record = some rec)
    (full : 16 ≤ s.records.queue.length) :
    endProgram o c s = endedWith c { s.records with filing := s.records.filing ++ [c] }
      { ended (s.chan c) with state := .filing, filed := some (closedRecord o c s rec) } s := by
  have hasNot : ¬ (endedState c s).queueHasRoom = true := by
    simpa [State.queueHasRoom, endedState_records] using full
  rw [endProgram_eq record, offerRecord, if_neg hasNot, updChan_eq, endedState_chan, ← endedState_records c s]
  simp [endedState, endedWith, State.updRecords, State.setChan]

/-- What a program that ends leaves, whatever becomes of the channel. -/
theorem endedWith_keeps (c : Chan) (q : RecordQueue) (b : Channel) (s : State) :
    let t := endedWith c q b s
    t.chan c = b ∧ t.store = StoreUnlocked c s ∧ OthersKept c s t ∧ t.line = s.line ∧ t.walls = s.walls ∧
      t.reports = s.reports ∧ t.mgmt = s.mgmt ∧ t.pins = s.pins ∧ t.inputs = s.inputs ∧ t.records = q ∧
      ∀ p, t.arb p = s.arb p := by
  have store : (unlockCurrent c s).store = StoreUnlocked c s := by
    unfold unlockCurrent StoreUnlocked
    cases (s.chan c).program with
    | none => rfl
    | some i => rfl
  refine ⟨chan_setChan _ _ _, store, fun d hd => ?_, ?_, ?_, ?_, ?_, ?_, ?_, rfl, fun p => ?_⟩
  · rw [show (endedWith c q b s).chan d = (unlockCurrent c s).chan d from chan_setChan_ne _ _ hd, unlockCurrent_chan]
    exact keptAs_refl _
  all_goals rw [endedWith, unlockCurrent_keeps]
  all_goals rfl

theorem started_pendingStarts {j tag : Nat} {c : Chan} {s t : State}
    (h : t.chan c = { Started j tag c (endedState c s) with pendingProgram := none }) : PendingStarts j tag c s t := by
  have line : (endedState c s).line = s.line := by rw [endedState, unlockCurrent_keeps]; rfl
  have pins : (endedState c s).pins = s.pins := by rw [endedState, unlockCurrent_keeps]; rfl
  unfold PendingStarts
  rw [h, Started, endedState_chan, wallState_endedState, line, pins]
  simp [ended, FreezeSet.empty]

/-- R19, R185: what a program that ends leaves and keeps, the channel and the records being as `endedWith` says. -/
theorem programEnds_of_endedWith {o : RunOutcome} {c : Chan} {rec : Record} {q : RecordQueue} {b : Channel} {s : State}
    (config : b.config = (s.chan c).config) (peer : b.peer = (s.chan c).peer) :
    let t := endedWith c q b s
    (closedRecord o c s rec).outcome = some o ∧ (closedRecord o c s rec).endCount = some s.line.count ∧
      (closedRecord o c s rec).lastIndex = (s.chan c).index ∧ (t.chan c).config = (s.chan c).config ∧
      (t.chan c).peer = (s.chan c).peer ∧ t.store = StoreUnlocked c s ∧ OthersKept c s t ∧ t.line = s.line ∧
      t.walls = s.walls ∧ t.reports = s.reports ∧ t.mgmt = s.mgmt ∧ t.pins = s.pins ∧ t.inputs = s.inputs := by
  obtain ⟨chan, h1, h2, h3, h4, h5, h6, h7, h8, -, -⟩ := endedWith_keeps c q b s
  intro t
  have hc : t.chan c = b := chan
  rw [hc]
  exact ⟨rfl, rfl, rfl, config, peer, h1, h2, h3, h4, h5, h6, h7, h8⟩

/-- R19, R20, R185: a program that ends does all the manual says. -/
theorem programEnds_endProgram {o : RunOutcome} {c : Chan} {rec : Record} {s : State}
    (record : (s.chan c).record = some rec) : ProgramEnds o (closedRecord o c s rec) c s (endProgram o c s) := by
  rcases Nat.lt_or_ge s.records.queue.length 16 with room | full
  · cases pending : (s.chan c).pendingProgram with
    | none =>
      rw [endProgram_idle record room pending]
      obtain ⟨h1, h2, h3, h4, h5, h6, h7, h8, h9, h10, h11, h12, h13⟩ :=
        programEnds_of_endedWith (o := o) (rec := rec) (c := c) (s := s) (b := idled (s.chan c))
          (q := { s.records with queue := s.records.queue ++ [closedRecord o c s rec] }) rfl rfl
      refine ⟨h1, h2, h3, h4, h5, h6, h7, h8, h9, h10, h11, h12, h13,
        fun _ => ⟨rfl, fun _ => ?_, fun j h hj => ?_⟩, fun full => by omega⟩
      · rw [(endedWith_keeps c _ (idled (s.chan c)) s).1]
        exact ⟨⟨rfl, rfl, rfl, rfl, rfl, rfl, rfl⟩, rfl⟩
      · rw [pending] at hj; cases hj
    | some j =>
      rw [endProgram_starts record room pending]
      obtain ⟨h1, h2, h3, h4, h5, h6, h7, h8, h9, h10, h11, h12, h13⟩ :=
        programEnds_of_endedWith (o := o) (rec := rec) (c := c) (s := s)
          (b := { Started j (tagOf s j) c (endedState c s) with pendingProgram := none })
          (q := { s.records with queue := s.records.queue ++ [closedRecord o c s rec] })
          (by rw [Started, endedState_chan]; rfl) (by rw [Started, endedState_chan]; rfl)
      refine ⟨h1, h2, h3, h4, h5, h6, h7, h8, h9, h10, h11, h12, h13,
        fun _ => ⟨rfl, fun none => ?_, fun i h hi header => ?_⟩, fun full => by omega⟩
      · rw [pending] at none; cases none
      · obtain rfl : j = i := Option.some.inj (pending.symm.trans hi)
        have tag : tagOf s j = h.tag := by rw [tagOf, header]; rfl
        rw [tag]
        exact started_pendingStarts (endedWith_keeps c _ _ s).1
  · rw [endProgram_files record full]
    obtain ⟨h1, h2, h3, h4, h5, h6, h7, h8, h9, h10, h11, h12, h13⟩ :=
      programEnds_of_endedWith (o := o) (rec := rec) (c := c) (s := s)
        (b := { ended (s.chan c) with state := .filing, filed := some (closedRecord o c s rec) })
        (q := { s.records with filing := s.records.filing ++ [c] }) rfl rfl
    refine ⟨h1, h2, h3, h4, h5, h6, h7, h8, h9, h10, h11, h12, h13, fun room => by omega, fun _ => ?_⟩
    rw [(endedWith_keeps c _ _ s).1]
    exact ⟨⟨rfl, rfl, rfl, rfl, rfl, rfl, rfl⟩, rfl, rfl, rfl⟩

/-! ### CHECK, SIGNAL and END at a cycle start (R103, R110 to R112) -/

/-- R103: the value a CHECK is decided by. -/
theorem checkValue_eq (s : State) (c : Chan) (p : CheckStep) (w : CheckWork) :
    checkValue s c p w = match p.quantity with
      | .jackLoad => s.availableValue (.chan c .jackLoad)
      | .anchorLoad => s.availableValue (.chan c .anchorLoad)
      | .jackStroke => s.availableValue (.chan c .jackStroke)
      | .groutPressure => s.availableValue (.chan c .groutPressure)
      | .groutFlow => s.availableValue (.chan c .groutFlow)
      | .winchPayout => s.availableValue (.chan c .winchPayout)
      | .winchTension => s.availableValue (.chan c .winchTension)
      | _ => w.captured := by
  unfold checkValue
  cases p.quantity <;> rfl

theorem stepCycle_check {c : Chan} {st : Step} {p : CheckStep} {w : CheckWork} {s : State}
    (body : st.body = .check p) (work : (s.chan c).work = .check w) :
    stepCycle st c s = checkCycle st p w c s := by
  simp only [stepCycle, body, work]

theorem checkCycle_absent {c : Chan} {p : CheckStep} {w : CheckWork} {s : State} (hv : checkValue s c p w = none)
    (st : Step) : checkCycle st p w c s = failStep st .noData c (s.setWork c (.check { captured := none })) := by
  rw [checkCycle, hv]

theorem checkCycle_present {c : Chan} {p : CheckStep} {w : CheckWork} {x : Int} {s : State}
    (hv : checkValue s c p w = some x) (st : Step) : checkCycle st p w c s =
      if x < p.low ∨ p.high < x then failStep st .checkFailed c (s.setWork c (.check { captured := some x }))
      else completeStep c (s.setWork c (.check { captured := some x })) := by
  rw [checkCycle, hv]

/-- Settles O15, by the kind of the step. -/
theorem checkSignalAndEndComplete : Obligations.CheckSignalAndEndComplete := by
  intro c st s due running active tookUp step next
  have settled : settle s = stepCycle st c { s with due := [] } :=
    settle_worksStep ⟨due, running, active, tookUp, step⟩
  refine ⟨fun p w rec body work record => ?_, fun d body work => ?_, fun rec body work record => ?_⟩
  · intro live v decided
    have hv : checkValue { s with due := [] } c p w = v := (checkValue_eq _ c p w).trans rfl
    have run := settled.trans (stepCycle_check body work)
    have fails (cause : FaultCause) (u : State) (hu : u = State.setWork { s with due := [] } c (.check { captured := v })) :
        FailsBy st cause c rec decided (failStep st cause c u) := by
      have own : u.chan c = { s.chan c with work := .check { captured := v } } := by rw [hu]; exact chan_setChan _ _ _
      have failed := failsBy_failStep (st := st) (cause := cause) (c := c) (rec := rec) (s := u)
        (by rw [own]; exact running) (by rw [own]; exact record) (by rw [own]; exact fun _ => rfl)
      rw [hu] at failed ⊢
      exact failed
    refine ⟨fun h => ?_, fun x h out => ?_, fun x h low high => ?_⟩
    · rw [run, checkCycle_absent (hv.trans h)]
      exact fails _ _ (by rw [h])
    · rw [run, checkCycle_present (hv.trans h), if_pos out]
      exact fails _ _ (by rw [h])
    · rw [run, checkCycle_present (hv.trans h), if_neg (by omega), setWork_eq_workNoted, workNoted,
        completeStep_stepNoted]
      obtain ⟨left, chan⟩ := leaveStep_workNoted next c (.check { captured := some x }) { s with due := [] }
      refine ⟨left, (congrArg Channel.record chan).trans ?_⟩
      rw [leftWith_record]
      exact congrArg (Option.map _) record
  · have run : settle s = signalCycle d c { s with due := [] } := by
      rw [settled]
      have work' : (State.chan { s with due := [] } c).work = .signal := work
      simp only [stepCycle, body, work']
    have keeps : ∀ r, RecordLeft (State.chan { s with due := [] } c).work r = r := by
      rw [show (State.chan { s with due := [] } c).work = .signal from work]; exact fun _ => rfl
    exact ⟨completeStep c { s with due := [] }, stepLeft_leaveStep next c { s with due := [] },
      leaveStep_record (s := { s with due := [] }) keeps, run.trans (updChan_eq ..)⟩
  · have run : settle s = endProgram .completed c { s with due := [] } := by
      rw [settled]
      have work' : (State.chan { s with due := [] } c).work = .finish := work
      simp only [stepCycle, body, work']
    rw [run]
    exact programEnds_endProgram (s := { s with due := [] }) record

end Sys2Proof.Machine.Laws
end

section
/-! PROOFS. ABORT_PROGRAM (R21). -/

namespace Sys2Proof.Machine.Laws

/-! ### The pending program discarded (R10, R21) -/

theorem discardPending_eq (c : Chan) (s : State) : discardPending c s = PendingDiscarded c s := by
  unfold discardPending PendingDiscarded
  cases (s.chan c).pendingProgram with
  | none => rfl
  | some j => exact updChan_eq _ _ _

/-- R4, R10: the store once a pending program's lock set is counted down. -/
def storeDiscarded (p : Option Nat) (st : ProgramStore) : ProgramStore :=
  match p with
  | some j => st.changeLockSet (· - 1) j
  | none => st

theorem pendingDiscarded_keeps (c : Chan) (s : State) :
    let t := PendingDiscarded c s
    t.chan c = { s.chan c with pendingProgram := none } ∧ (∀ d, d ≠ c → t.chan d = s.chan d) ∧
      t = { s with chans := t.chans, store := storeDiscarded (s.chan c).pendingProgram s.store } := by
  unfold PendingDiscarded
  cases h : (s.chan c).pendingProgram with
  | none =>
    refine ⟨?_, fun _ _ => rfl, rfl⟩
    show s.chan c = _
    rw [← h]
  | some j => exact ⟨chan_setChan _ _ _, fun d hd => chan_setChan_ne _ _ hd, rfl⟩

/-- R5, R19: counting the lock set of the program in progress down depends on the store and the program alone. -/
theorem storeUnlocked_congr {c : Chan} {s t : State} (program : (t.chan c).program = (s.chan c).program)
    (store : t.store = s.store) : StoreUnlocked c t = StoreUnlocked c s := by
  unfold StoreUnlocked
  rw [program]
  split
  · show t.store.changeLockSet _ _ = s.store.changeLockSet _ _
    rw [store]
  · exact store

/-! ### The step left (R13) -/

/-- R13: the channel whose program ends, its ACTIVE step left. -/
def leftForEnd (ch : Channel) : Channel := if ch.phase = .active then leftWith .none ch.index ch else ch

theorem leaveForEnd_spec (c : Chan) (s : State) :
    (leaveForEnd c s).chan c = leftForEnd (s.chan c) ∧ OthersKept c s (leaveForEnd c s) ∧
      FreezeKeeps s (leaveForEnd c s) ∧ (leaveForEnd c s).mgmt = s.mgmt := by
  unfold leaveForEnd leftForEnd
  split
  · obtain ⟨chan, others, keeps, mgmt, -⟩ := leaveStep_spec .none (s.chan c).index c s
    exact ⟨chan, others, keeps, mgmt⟩
  · exact ⟨rfl, fun _ _ => keptAs_refl _, FreezeKeeps.refl s, rfl⟩

theorem leftForEnd_keeps (ch : Channel) :
    (leftForEnd ch).index = ch.index ∧ (leftForEnd ch).program = ch.program ∧ (leftForEnd ch).config = ch.config ∧
      (leftForEnd ch).pendingProgram = ch.pendingProgram ∧ (leftForEnd ch).peer = ch.peer := by
  unfold leftForEnd
  split
  · obtain ⟨program, config, -, pending, peer, -⟩ := accounted_keeps ch
    exact ⟨rfl, program, config, pending, peer⟩
  · exact ⟨rfl, rfl, rfl, rfl, rfl⟩

/-- R10, R13, R21: the part in which an aborted program is about to be ended. -/
def abandoning (c : Chan) (s : State) : State := discardPending c (leaveForEnd c s)

theorem abandoning_spec (c : Chan) (s : State) :
    let v := abandoning c s
    v.chan c = { leftForEnd (s.chan c) with pendingProgram := none } ∧ OthersKept c s v ∧
      v.store = storeDiscarded (s.chan c).pendingProgram s.store ∧ v.line = s.line ∧ v.walls = s.walls ∧
      v.reports = s.reports ∧ v.mgmt = s.mgmt ∧ v.pins = s.pins ∧ v.inputs = s.inputs ∧ v.records = s.records ∧
      v.sent = s.sent ∧ ∀ p, v.arb p = (leaveForEnd c s).arb p := by
  obtain ⟨chan, others, ⟨hline, hstore, -, hinputs, hwalls, hrecords, hreports, hpins, -, hsent, -⟩, hmgmt⟩ :=
    leaveForEnd_spec c s
  have discards := pendingDiscarded_keeps c (leaveForEnd c s)
  rw [← discardPending_eq] at discards
  obtain ⟨own, ne, shape⟩ := discards
  obtain ⟨-, -, -, pending, -⟩ := leftForEnd_keeps (s.chan c)
  intro v
  refine ⟨own.trans (by rw [chan]), fun d hd => ?_, ?_, ?_, ?_, ?_, ?_, ?_, ?_, ?_, ?_, fun p => ?_⟩
  · rw [show v.chan d = _ from ne d hd]; exact others d hd
  all_goals rw [show v = _ from shape]
  · rw [← hstore]
    show storeDiscarded ((leaveForEnd c s).chan c).pendingProgram _ = _
    rw [chan, pending]
  · exact hline
  · exact hwalls
  · exact hreports
  · exact hmgmt
  · exact hpins
  · exact hinputs
  · exact hrecords
  · exact hsent
  · cases p <;> rfl

/-! ### The program ended (R19, R50, R185) -/

/-- R19, R50, R185: what a program that ends with none pending leaves of the channel's loop and generator. -/
theorem endProgram_channel {o : RunOutcome} {c : Chan} {rec : Record} {s : State}
    (record : (s.chan c).record = some rec) (pending : (s.chan c).pendingProgram = none) :
    let t := endProgram o c s
    (t.chan c).profile = (s.chan c).profile ∧ (t.chan c).wedge = (s.chan c).wedge ∧
      (s.records.queue.length < 16 → (t.chan c).jack.integral = 0 ∧ (t.chan c).state = .idle) ∧
      (16 ≤ s.records.queue.length → (t.chan c).jack.integral = (s.chan c).jack.integral ∧
        (t.chan c).state = .filing) ∧ (∀ p, t.arb p = s.arb p) ∧ t.sent = s.sent := by
  have sent (q : RecordQueue) (b : Channel) : (endedWith c q b s).sent = s.sent := by
    rw [endedWith, unlockCurrent_keeps]; rfl
  intro t
  rcases Nat.lt_or_ge s.records.queue.length 16 with room | full
  · rw [show t = _ from endProgram_idle record room pending]
    obtain ⟨chan, -, -, -, -, -, -, -, -, -, arb⟩ := endedWith_keeps c _ (idled (s.chan c)) s
    rw [chan]
    exact ⟨rfl, rfl, fun _ => ⟨rfl, rfl⟩, fun full => by omega, arb, sent _ _⟩
  · rw [show t = _ from endProgram_files record full]
    obtain ⟨chan, -, -, -, -, -, -, -, -, -, arb⟩ := endedWith_keeps c _
      { ended (s.chan c) with state := .filing, filed := some (closedRecord o c s rec) } s
    rw [chan]
    exact ⟨rfl, rfl, fun room => by omega, fun _ => ⟨rfl, rfl⟩, arb, sent _ _⟩

/-! ### The program aborted (R21) -/

/-- R10, R13, R19, R21: the program that is aborted, seen from the part with its pending program discarded. -/
theorem programEnds_abandoning {o : RunOutcome} {c : Chan} {rec : Record} {w : Window} {u : State}
    (record : ((leftForEnd (u.chan c))).record = some rec) :
    ProgramEnds o { rec with outcome := some o, endCount := some u.line.count, lastIndex := (u.chan c).index } c
      (PendingDiscarded c u) (unpassed u (endProgram o c (abandoning c (passed w u)))) := by
  obtain ⟨own, others, store, line, walls, reports, mgmt, pins, inputs, records, -, -⟩ := abandoning_spec c (passed w u)
  obtain ⟨own', ne, shape⟩ := pendingDiscarded_keeps c u
  obtain ⟨index, program, config, -, peer⟩ := leftForEnd_keeps (u.chan c)
  have own : (abandoning c (passed w u)).chan c = { leftForEnd (u.chan c) with pendingProgram := none } := own
  generalize abandoning c (passed w u) = v at *
  have ends := programEnds_endProgram (o := o) (c := c) (rec := rec) (s := v) (by rw [own]; exact record)
  have closed : closedRecord o c v rec =
      { rec with outcome := some o, endCount := some u.line.count, lastIndex := (u.chan c).index } := by
    rw [closedRecord, line, own, ← index]; rfl
  rw [closed] at ends
  have unlocked : StoreUnlocked c v = StoreUnlocked c (PendingDiscarded c u) :=
    storeUnlocked_congr (by rw [own, own']; exact program) (by rw [store, shape]; rfl)
  generalize endProgram o c v = t at *
  generalize PendingDiscarded c u = d at *
  obtain ⟨-, -, -, h4, h5, h6, h7, -, h9, h10, h11, h12, h13, room, full⟩ := ends
  have kept : OthersKept c d t := fun e he => by
    rw [ne e he]
    exact keptAs_trans (others e he) (h7 e he)
  rw [own] at h4 h5 room full
  rw [records] at room full
  have nothing : (d.chan c).pendingProgram = none := by rw [own']
  have sameRecords : d.records = u.records := by rw [shape]
  refine ⟨rfl, ?_, ?_, ?_, ?_, h6.trans unlocked, kept, ?_, ?_, ?_, ?_, ?_, ?_, ?_⟩
  · rw [shape]
  · rw [own']
  · rw [own']; exact h4.trans config
  · rw [own']; exact h5.trans peer
  · rw [shape]; rfl
  · rw [shape]; exact h9.trans walls
  · rw [shape]; exact h10.trans reports
  · rw [shape]; exact h11.trans mgmt
  · rw [shape]; exact h12.trans pins
  · rw [shape]; exact h13.trans inputs
  · rw [nothing, sameRecords]
    refine ⟨fun has => ?_, full⟩
    obtain ⟨pushed, idle, -⟩ := room has
    exact ⟨pushed, idle, fun j h hj => by cases hj⟩

/-- R13, R19, R38, R50, R68, R76: the generator, the pumps, the wedge flag and the integral once a program is aborted. -/
theorem abandoning_clears {o : RunOutcome} {c : Chan} {rec : Record} {w : Window} {u : State}
    (record : (leftForEnd (u.chan c)).record = some rec) :
    let ch := u.chan c
    let t := unpassed u (endProgram o c (abandoning c (passed w u)))
    (ch.phase = .active → GeneratorLeft ch.work ch.profile (t.chan c).profile ∧ PumpsLeft c u t) ∧
      (ch.phase ≠ .active → (t.chan c).profile = ch.profile ∧ ∀ p, t.arb p = u.arb p) ∧
      (∀ x, ch.phase = .active → ch.work = .lockoff x → (t.chan c).wedge = false ∧ (t.chan c).jack.integral = 0) ∧
      (ch.phase ≠ .active ∨ (∀ x, ch.work ≠ .lockoff x) → (t.chan c).wedge = ch.wedge ∧
        (16 ≤ u.records.queue.length → (t.chan c).jack.integral = ch.jack.integral)) ∧
      (u.records.queue.length < 16 → (t.chan c).jack.integral = 0) := by
  obtain ⟨own, -, -, -, -, -, -, -, -, records, -, arb⟩ := abandoning_spec c (passed w u)
  have own : (abandoning c (passed w u)).chan c = { leftForEnd (u.chan c) with pendingProgram := none } := own
  have pumps : (u.chan c).phase = .active → PumpsLeft c u (leaveForEnd c (passed w u)) := fun active => by
    rw [leaveForEnd, if_pos (show ((passed w u).chan c).phase = .active from active)]
    exact pumpsLeft_leaveStep _ _ c (passed w u)
  have same : (u.chan c).phase ≠ .active → leaveForEnd c (passed w u) = passed w u := fun not =>
    if_neg (show ((passed w u).chan c).phase ≠ .active from not)
  generalize abandoning c (passed w u) = v at *
  obtain ⟨profile, wedge, room, full, arbs, -⟩ := endProgram_channel (o := o) (c := c) (rec := rec) (s := v)
    (by rw [own]; exact record) (by rw [own])
  generalize endProgram o c v = t at *
  rw [own] at profile wedge full
  rw [records] at room full
  have active (h : (u.chan c).phase = .active) : LeavingClears (u.chan c) (leftForEnd (u.chan c)) := by
    rw [leftForEnd, if_pos h]; exact leavingClears_leftWith _ _ _
  have waiting (h : (u.chan c).phase ≠ .active) : leftForEnd (u.chan c) = u.chan c := if_neg h
  intro ch z
  have jack : (z.chan c).jack.integral = 0 ∨ (z.chan c).jack.integral = (leftForEnd (u.chan c)).jack.integral := by
    rcases Nat.lt_or_ge u.records.queue.length 16 with has | hasNot
    · exact .inl (room has).1
    · exact .inr (full hasNot).1
  refine ⟨fun h => ?_, fun h => ?_, fun x h lockoff => ?_, fun h => ?_, fun has => (room has).1⟩
  · obtain ⟨-, generator, -⟩ := active h
    exact ⟨profile ▸ generator, pumpsLeft_congr (fun p => (arbs p).trans (arb p)) (pumps h)⟩
  · refine ⟨profile.trans (by rw [waiting h]), fun p => (arbs p).trans ((arb p).trans ?_)⟩
    rw [same h]; rfl
  · obtain ⟨-, -, clears, -⟩ := active h
    obtain ⟨noWedge, noIntegral⟩ := clears x lockoff
    refine ⟨wedge.trans noWedge, jack.elim id fun e => e.trans ?_⟩
    rw [noIntegral]
  · have stays : (leftForEnd (u.chan c)).wedge = ch.wedge ∧ (leftForEnd (u.chan c)).jack = ch.jack := by
      by_cases a : (u.chan c).phase = .active
      · obtain ⟨-, -, -, keeps⟩ := active a
        exact keeps (h.resolve_left (not_not.mpr a))
      · rw [waiting a]; exact ⟨rfl, rfl⟩
    exact ⟨wedge.trans stays.1, fun hasNot => (full hasNot).1.trans (congrArg JackLoop.integral stays.2)⟩

/-- R19, R21: what ABORT_PROGRAM ends a program with. -/
def abortOutcome (ch : Channel) : RunOutcome := if ch.state = .faulted then .abandoned else .aborted

theorem abortProgram_live {c : Chan} {s : State}
    (live : (s.chan c).state = .running ∨ (s.chan c).state = .frozen ∨ (s.chan c).state = .faulted) :
    abortProgram c s = endProgram (abortOutcome (s.chan c)) c (abandoning c s) := by
  rcases live with h | h | h <;> simp [abortProgram, abortOutcome, abandoning, h]

theorem exec_abortProgram {b : Byte} {w : Window} {s : State} (h : Addressed 5 [b] w (settle s)) :
    exec (.abortProgram w) s = .next (State.prepare w (onChannel abortRequest [b] (passed w (settle s)))) :=
  congrArg Host.Outcome.next (requestEvent_ofKind h (by decide) rfl)

/-- R167, R168: an accepted request whose work leaves the counting of the line and what was sent alone is answered. -/
theorem prepare_accept_of_line {w : Window} {u v : State} (fs : List Field) (line : v.line = (passed w u).line)
    (sent : v.sent = (passed w u).sent) : State.prepare w (accept fs v) = answered w .ok fs (unpassed u v) := by
  have hv : v = { v with line := (passed w u).line, sent := (passed w u).sent } := by rw [← line, ← sent]
  rw [hv]; rfl

/-- R21: the reply to an admitted ABORT_PROGRAM. -/
theorem exec_abortProgram_accepted {b : Byte} {w : Window} {s : State} {c : Chan} (h : Addressed 5 [b] w (settle s))
    (hc : c.val = b.toNat) (admitted : ((settle s).chan c).state ≠ .idle) {t : State}
    (ht : abortProgram c (passed w (settle s)) = t) (line : t.line = (passed w (settle s)).line)
    (sent : t.sent = (passed w (settle s)).sent) :
    exec (.abortProgram w) s =
      .next (answered w .ok [fNat 1 (t.chan c).state.code] (unpassed (settle s) t)) := by
  rw [exec_abortProgram h, onChannel_eq _ hc, abortRequest,
    if_neg (show ¬ ((passed w (settle s)).chan c).state = .idle from admitted), ht, prepare_accept_of_line _ line sent]
  rfl

/-- Settles O39, by the channel's state. -/
theorem abortEndsProgram : Obligations.AbortEndsProgram := by
  intro b w s u done h
  refine ⟨fun hb => ?_, fun c hc => ⟨fun idle => ?_, fun filing => ?_, fun rec record live => ?_⟩⟩
  · show exec (.abortProgram w) s = _
    rw [exec_abortProgram h, onChannel_badIndex _ hb]
    rfl
  · show exec (.abortProgram w) s = _
    rw [exec_abortProgram h, onChannel_eq _ hc, abortRequest,
      if_pos (show ((passed w (settle s)).chan c).state = .idle from idle)]
    rfl
  · have discards : abortProgram c (passed w u) = PendingDiscarded c (passed w u) := by
      rw [← discardPending_eq, abortProgram, show ((passed w u).chan c).state = .filing from filing]
    obtain ⟨own, -, shape⟩ := pendingDiscarded_keeps c (passed w u)
    have answer := exec_abortProgram_accepted h hc (by rw [filing]; decide) discards (by rw [shape]) (by rw [shape])
    have same : unpassed u (PendingDiscarded c (passed w u)) = PendingDiscarded c u := by
      unfold PendingDiscarded
      rw [show ((passed w u).chan c).pendingProgram = (u.chan c).pendingProgram from rfl]
      cases (u.chan c).pendingProgram <;> rfl
    rw [same, own, show ((passed w u).chan c).state = .filing from filing] at answer
    exact answer
  · intro outcome ch left r
    have recorded : (leftForEnd ch).record = some left := by
      have shown : ch.record = some rec := record
      by_cases a : ch.phase = .active
      · simp only [leftForEnd, a, if_true, leftWith_record, shown, left]; rfl
      · simp only [leftForEnd, a, if_false, shown, left]
    have ends := abortProgram_live (s := passed w u) live
    have notIdle : (u.chan c).state ≠ .idle := by rcases live with e | e | e <;> rw [e] <;> decide
    obtain ⟨own, -, -, line, -, -, -, -, -, records, sent, -⟩ := abandoning_spec c (passed w u)
    have ownRecord : ((abandoning c (passed w u)).chan c).record = some left := by rw [own]; exact recorded
    obtain ⟨-, -, -, -, -, -, -, lineEnd, -⟩ := programEnds_endProgram (o := outcome) ownRecord
    obtain ⟨-, -, room, full, -, sentEnd⟩ := endProgram_channel (o := outcome) ownRecord (by rw [own])
    have answer := exec_abortProgram_accepted h hc notIdle ends (lineEnd.trans line) (sentEnd.trans sent)
    obtain ⟨h1, h2, h3, h4, h5⟩ := abandoning_clears (o := outcome) (w := w) recorded
    rw [records] at room full
    refine ⟨unpassed u (endProgram outcome c (abandoning c (passed w u))), programEnds_abandoning recorded, h1, h2, h3,
      h4, h5, fun has => ?_, fun hasNot => ?_⟩
    · have idle := (room has).2
      rw [show abortOutcome ((passed w u).chan c) = outcome from rfl, idle] at answer
      exact answer
    · have filing := (full hasNot).2
      rw [show abortOutcome ((passed w u).chan c) = outcome from rfl, filing] at answer
      exact answer

end Sys2Proof.Machine.Laws
end

section
/-! PROOFS. Staleness: SAMPLE_STALE added by ageing and removed by a sample (R141, R142), and a stale wall point
(R117). -/

namespace Sys2Proof.Machine.Laws

/-! ### SAMPLE_STALE added (R141) -/

theorem stepStale_iff {c : Chan} {st : Step} {s : State} (step : s.currentStep c = some st) :
    s.stepStale c = true ↔
      ((s.chan c).state = .running ∨ (s.chan c).state = .frozen ∨ (s.chan c).state = .faulted) ∧
        ∃ m ∈ st.body.requiredInputs, s.available (.chan c m) = false := by
  simp [State.stepStale, step, State.requiredAvailable]

theorem staleInputFreezesChannel : StaleInputFreezesChannel := by
  intro c st m s u due hu live step required gone absent
  have stale : u.stepStale c = true := (stepStale_iff step).mpr ⟨live, m, required, gone⟩
  have met : (u.stepStale c && !(u.chan c).freeze.sampleStale) = true := by rw [stale, absent]; rfl
  have awake : (u.chan c).state ≠ .idle := by rcases live with e | e | e <;> rw [e] <;> decide
  have runs : takeOccurrence (.inputStale c) (fun s => s.stepStale c && !(s.chan c).freeze.sampleStale) s =
      addCause .sampleStale c (workTaken (.inputStale c) u) := by
    rw [takeOccurrence_met due (by rw [← hu]; exact met), ← hu]
    exact if_pos stale
  obtain ⟨reaches, ⟨line, store, scales, inputs, walls, records, reports, pins, -⟩, -⟩ :=
    addCause_spec .sampleStale c (workTaken (.inputStale c) u)
  exact ⟨_, congrArg Host.Outcome.next runs, reaches,
    addCause_sampleStale_mgmt (s := workTaken (.inputStale c) u) awake absent, line, store, scales, inputs, walls,
    records, reports, pins⟩

/-! ### A wall point made STALE (R117) -/

theorem unavailableInputMakesPointStale : UnavailableInputMakesPointStale := by
  intro w s u due hu enabled latch gone notStale
  have stale : u.pointStale w = true := by simp [State.pointStale, enabled, latch, gone]
  have runs : takeOccurrence (.wallStale w) (fun s => s.pointStale w && decide ((s.wall w).state ≠ .stale)) s =
      (workTaken (.wallStale w) u).changeWall w { u.wall w with state := .stale } := by
    rw [takeOccurrence_met due (by rw [← hu, stale]; simp [notStale]), ← hu]
    exact if_pos stale
  refine congrArg Host.Outcome.next (runs.trans ?_)
  exact changeWall_of_no_new_stop (s := workTaken (.wallStale w) u) fun _ h => by cases h

/-! ### SAMPLE_STALE removed (R142) -/

theorem removeStale_stepless {c : Chan} {s : State} (step : s.currentStep c = none) : removeStale c s = s := by
  rw [removeStale, step]

theorem removeStale_step {c : Chan} {st : Step} {s : State} (step : s.currentStep c = some st) :
    removeStale c s =
      if (s.chan c).freeze.sampleStale && s.requiredAvailable c st.body then removeCauses FreezeSet.onlyStale c s
      else s := by
  rw [removeStale, step]

/-- R142: the cause stands after the removal only while an input of the current step is unavailable. -/
theorem removeStale_holds {c : Chan} {s : State} {st : Step} (stale : ((removeStale c s).chan c).freeze.sampleStale = true)
    (step : (removeStale c s).currentStep c = some st) : (removeStale c s).requiredAvailable c st.body = false := by
  cases current : s.currentStep c with
  | none =>
    rw [removeStale_stepless current, current] at step
    cases step
  | some x =>
    rw [removeStale_step current] at stale step ⊢
    by_cases removes : ((s.chan c).freeze.sampleStale && s.requiredAvailable c x.body) = true
    · rw [if_pos removes, (removeCauses_spec FreezeSet.onlyStale c s).2.2.2.1] at stale
      simp [FreezeSet.without, FreezeSet.onlyStale, FreezeSet.empty] at stale
    · rw [if_neg removes] at stale step ⊢
      obtain rfl : x = st := Option.some.inj (current.symm.trans step)
      simpa [stale] using removes

/-- R52, R74, R96, R136: what the readers of a sample of a FROZEN channel's input can do: note it in the record, the
step's fields and the overload count, and fault the channel. -/
def Noticed (c : Chan) (s t : State) : Prop :=
  t.inputs = s.inputs ∧ t.store = s.store ∧
    ∃ st f r w j, t.chan c = { s.chan c with state := st, fault := f, record := r, work := w, jack := j } ∧
      (st = .frozen ∨ st = .faulted)

theorem noticed_refl {c : Chan} {s : State} (frozen : (s.chan c).state = .frozen) : Noticed c s s :=
  ⟨rfl, rfl, (s.chan c).state, (s.chan c).fault, (s.chan c).record, (s.chan c).work, (s.chan c).jack, rfl, .inl frozen⟩

theorem noticed_stepNoted {c : Chan} {s : State} (frozen : (s.chan c).state = .frozen) (w : StepWork) (r : Option Record)
    (j : JackLoop) : Noticed c s (stepNoted c w r (s.chan c).lastCreep j s) :=
  ⟨rfl, rfl, _, _, r, w, j, chan_setChan _ _ _, .inl frozen⟩

theorem noticed_faultChannel {c : Chan} {cause : FaultCause} {s t : State}
    (h : Noticed c s t) : Noticed c s (faultChannel cause c t) := by
  obtain ⟨inputs, store, st, f, r, w, j, chan, state⟩ := h
  by_cases live : (t.chan c).state = .running ∨ (t.chan c).state = .frozen
  · obtain ⟨⟨kept, -, -, store', -, inputs', -⟩, -⟩ := faultChannel_spec cause c t live
    refine ⟨inputs'.trans inputs, store'.trans store, .faulted, some cause, r.map fun r => { r with fault := some cause },
      ((faultChannel cause c t).chan c).work, j, kept.1.trans ?_, .inr rfl⟩
    rw [chan]
  · rw [faultChannel_ignored cause c t live]
    exact ⟨inputs, store, st, f, r, w, j, chan, state⟩

/-- R136: the readers of the sample of a FROZEN channel's input. -/
theorem readers_frozen {c : Chan} {m : Measurand} {v : Nat} {s : State} (frozen : (s.chan c).state = .frozen) :
    let z := (readers c v m).foldl (fun s f => f s) s
    Noticed c s z ∧ (m ≠ .jackLoad → m ≠ .groutPressure → m ≠ .winchTension → z = s) := by
  have same := noticed_refl frozen
  have notRunning : (s.chan c).state ≠ .running := by rw [frozen]; decide
  have live : (s.chan c).state = .running ∨ (s.chan c).state = .frozen := .inr frozen
  have noted (w : StepWork) : Noticed c s (s.setWork c w) := by
    rw [setWork_eq_workNoted]; exact noticed_stepNoted frozen _ _ _
  cases m with
  | jackLoad =>
    refine ⟨?_, fun k => absurd rfl k⟩
    have checked : Noticed c s (overloadCheck c v (peakLoad c v s)) := by
      rw [overloadCheck_peakLoad (by rw [frozen]; decide)]
      have noted := noticed_stepNoted frozen (s.chan c).work (peaked v (s.chan c).record)
        { (s.chan c).jack with overloads := overloadCount (s.chan c) v }
      split
      · exact noticed_faultChannel noted
      · exact noted
    show Noticed c s (loadTests c v (overloadCheck c v (peakLoad c v s)))
    have still : ((overloadCheck c v (peakLoad c v s)).chan c).state ≠ .running := by
      obtain ⟨-, -, st, f, r, w, j, chan, state⟩ := checked
      rw [chan]
      rcases state with rfl | rfl <;> nofun
    rw [loadTests_not_running still]
    exact checked
  | groutPressure =>
    refine ⟨?_, fun _ k => absurd rfl k⟩
    show Noticed c s (overpressureCheck c v s)
    unfold overpressureCheck
    split
    · dsimp only
      split
      · exact noticed_faultChannel (noted _)
      · exact noted _
    · exact same
  | winchTension =>
    refine ⟨?_, fun _ _ k => absurd rfl k⟩
    show Noticed c s (tensionCheck c v s)
    unfold tensionCheck
    split
    · dsimp only
      split
      · exact noticed_faultChannel (noted _)
      · exact noted _
    · exact same
  | groutFlow =>
    have passes : refusalTest c v (volumeCount c v s) = s := by
      have volume : volumeCount c v s = s := by rw [volumeCount, frozen]
      have refusing : s.refusing c = none := by rw [State.refusing, frozen]
      rw [volume, refusalTest, refusing]
    refine ⟨?_, fun _ _ _ => passes⟩
    show Noticed c s (refusalTest c v (volumeCount c v s))
    rw [passes]; exact same
  | winchPayout =>
    have passes : payoutProgress c v s = s := by rw [payoutProgress, frozen]
    refine ⟨?_, fun _ _ _ => passes⟩
    show Noticed c s (payoutProgress c v s)
    rw [passes]; exact same
  | anchorLoad | jackStroke | jackEcho | winchEcho => exact ⟨same, fun _ _ _ => rfl⟩

theorem noticed_currentStep {c : Chan} {s t : State} (h : Noticed c s t) : t.currentStep c = s.currentStep c := by
  obtain ⟨-, store, st, f, r, w, j, chan, -⟩ := h
  simp [State.currentStep, State.stepAt, State.programHeader, chan, store]

/-- R138: the input whose sample has just been accepted is available, and the others are as they were. -/
theorem available_sampled {pos : Nat} {slot : Slot} {c : Chan} {m : Measurand} {r : InputRecord} {u : State} (n : Measurand)
    (h : Accepts u pos slot (.chan c m) r) (others : n ≠ m → u.available (.chan c n) = true) :
    (sampled pos slot (.chan c m) r u).available (.chan c n) = true := by
  obtain ⟨-, -, -, -, valid, age, -⟩ := h
  by_cases same : n = m
  · subst same
    have input : (sampled pos slot (.chan c n) r u).input (.chan c n) = some r := input_setInput _ _ _
    have within (l : Option Nat) : ageWithin l 0 = true := by cases l <;> simp [ageWithin]
    simp [State.available, State.availableValue, input, valid, age, within]
  · have input : (sampled pos slot (.chan c m) r u).input (.chan c n) = u.input (.chan c n) :=
      input_setInput_ne _ _ (by simp [same])
    have kept : (sampled pos slot (.chan c m) r u).availableValue (.chan c n) = u.availableValue (.chan c n) := by
      rw [State.availableValue, input]; rfl
    rw [State.available, kept]
    exact others same

theorem removeCauses_hold {g : FreezeSet} {c : Chan} {x : HoldWork} {s : State} (frozen : (s.chan c).state = .frozen)
    (empties : ((s.chan c).freeze.without g).isEmpty = true) (hold : (s.chan c).work = .hold x) :
    ((removeCauses g c s).chan c).work = .hold x.restart := by
  simp [removeCauses, frozen, empties, thawEffect, hold]

theorem sampleRemovesStale : SampleRemovesStale := by
  intro pos slot c m r s u h
  let s₁ := sampled pos slot (.chan c m) r u
  let z := (readers c r.value.toNat m).foldl (fun s f => f s) s₁
  refine ⟨removeStale c z, exec_accepted h, fun stale st step => removeStale_holds stale step,
    fun st frozen freeze step others => ?_⟩
  obtain ⟨noticed, same⟩ := readers_frozen (c := c) (m := m) (v := r.value.toNat) (s := s₁) frozen
  have current : z.currentStep c = some st := (noticed_currentStep noticed).trans step
  obtain ⟨inputs, -, st', f, rec, w, j, chan, state⟩ := noticed
  have chan : z.chan c = _ := chan
  have cause : (z.chan c).freeze = { FreezeSet.empty with sampleStale := true } := by rw [chan]; exact freeze
  have all : z.requiredAvailable c st.body = true := by
    rw [requiredAvailable_congr inputs (by rw [chan])]
    exact List.all_eq_true.mpr fun n hn => available_sampled n h (others n hn)
  have removes : removeStale c z = removeCauses FreezeSet.onlyStale c z := by
    rw [removeStale_step current, cause, all]; rfl
  obtain ⟨-, -, -, left, goes⟩ := removeCauses_spec FreezeSet.onlyStale c z
  have empties : (z.chan c).freeze.without FreezeSet.onlyStale = FreezeSet.empty := by rw [cause]; rfl
  rw [empties] at left goes
  rw [removes]
  refine ⟨left, ?_, fun h₁ h₂ h₃ => ?_⟩
  · have own : (z.chan c).state = st' := by rw [chan]
    rw [goes, own]
    rcases state with rfl | rfl
    · exact .inl rfl
    · exact .inr rfl
  · have quiet : z = s₁ := same h₁ h₂ h₃
    have own : (z.chan c).state = .frozen := by rw [quiet]; exact frozen
    refine ⟨by rw [goes, own]; rfl, fun x hold => removeCauses_hold own (by rw [empties]; rfl) ?_⟩
    rw [quiet]; exact hold

/-- Settles O19: a cause added, a point made STALE, and the cause removed by a sample. -/
theorem stalenessFreezesAndMarks : Obligations.StalenessFreezesAndMarks :=
  ⟨staleInputFreezesChannel, unavailableInputMakesPointStale, sampleRemovesStale⟩

end Sys2Proof.Machine.Laws
end

section
/-! PROOFS. The Report Composer (R192) and the two swaps (R161, R162, R193). -/

namespace Sys2Proof.Machine.Laws

/-! ### The slot map swap (R161, R162) -/

theorem createRecord_input (x y : Target) (s : State) :
    (createRecord x s).input y =
      if y = x ∧ s.input y = none then some InputRecord.fresh else s.input y := by
  unfold createRecord
  by_cases same : y = x
  · subst same
    cases h : s.input y with
    | none => simp
    | some r => simp [h]
  · cases s.input x with
    | none => simp [input_setInput_ne s InputRecord.fresh same, same]
    | some r => simp [same]

/-- R162: the record that a slot map entry calls for. -/
def createFor (e : Nat × SlotEntry) (s : State) : State :=
  match e.2 with
  | .sample x _ => createRecord x s
  | .pass | .command _ | .report => s

/-- R162: a slot map entry takes the samples of a target. -/
def samples (y : Target) (e : Nat × SlotEntry) : Bool :=
  match e.2 with
  | .sample x _ => x = y
  | .pass | .command _ | .report => false

theorem bound_eq (s : State) (y : Target) : s.bound y = s.line.active.any (samples y) := by
  unfold State.bound
  congr 1

theorem createRecords_eq (s : State) : createRecords s = s.line.active.foldl (fun s e => createFor e s) s := by
  unfold createRecords
  congr 1

theorem createFor_input (e : Nat × SlotEntry) (y : Target) (s : State) :
    (createFor e s).input y = if samples y e = true ∧ s.input y = none then some InputRecord.fresh else s.input y := by
  unfold createFor samples
  split
  · rw [createRecord_input]
    simp [eq_comm]
  all_goals simp

theorem createFor_keeps (e : Nat × SlotEntry) (s : State) : createFor e s = { s with inputs := (createFor e s).inputs } := by
  unfold createFor createRecord
  split
  · split <;> rfl
  all_goals rfl

/-- R162: a target without a record gains one where an entry takes its samples; every other record stands. -/
theorem foldl_createFor : ∀ (es : List (Nat × SlotEntry)) (s : State),
    let t := es.foldl (fun s e => createFor e s) s
    t = { s with inputs := t.inputs } ∧ ∀ y, t.input y =
      if es.any (samples y) = true ∧ s.input y = none then some InputRecord.fresh else s.input y
  | [], s => ⟨rfl, fun y => by simp⟩
  | e :: es, s => by
    obtain ⟨keeps, input⟩ := foldl_createFor es (createFor e s)
    refine ⟨?_, fun y => ?_⟩
    · rw [List.foldl_cons, keeps, createFor_keeps]
    · have first := createFor_input e y s
      rw [List.foldl_cons, List.any_cons, input]
      cases here : samples y e with
      | false =>
        rw [here, if_neg (by rintro ⟨k, -⟩; cases k)] at first
        rw [first, Bool.false_or]
      | true =>
        rw [here] at first
        by_cases h : s.input y = none
        · rw [if_pos ⟨rfl, h⟩] at first
          rw [first, Bool.true_or, if_neg (by rintro ⟨-, k⟩; cases k), if_pos ⟨rfl, h⟩]
        · rw [if_neg fun k => h k.2] at first
          rw [first, if_neg fun k => h k.2, if_neg fun k => h k.2]

theorem slotMapSwapExchangesBanks : SlotMapSwapExchangesBanks := by
  intro s due pending
  have runs : takeOccurrence .mapSwap (fun s => s.line.swapPending) s = mapSwapCycle (workTaken .mapSwap s) :=
    takeOccurrence_alone due rfl pending
  let z : State := (workTaken .mapSwap s).updLine fun l =>
    { l with active := l.shadow, shadow := l.active, swapPending := false }
  have swaps : mapSwapCycle (workTaken .mapSwap s) = createRecords z := if_pos pending
  obtain ⟨keeps, input⟩ := foldl_createFor z.line.active z
  rw [← createRecords_eq] at keeps input
  have bound (y : Target) : (createRecords z).bound y = z.line.active.any (samples y) := by
    rw [bound_eq, keeps]
  refine ⟨createRecords z, congrArg Host.Outcome.next (runs.trans swaps), keeps, fun x r h => ?_, fun x h b => ?_,
    fun x h b => ?_⟩
  · have had : z.input x = some r := h
    rw [input, if_neg (by simp [had]), had]
  · rw [input, if_pos ⟨(bound x).symm.trans b, h⟩]
    rfl
  · rw [input, if_neg fun k => by rw [← bound, b] at k; cases k.1]
    exact h

/-! ### The Report Composer examines its list (R192) -/

/-- R192: entry `i` of a Composer's active list would be passed over, the items having the values given. -/
def Passes (value : ReportItem → ReportValue) (r : Composer) (i : Nat) : Prop :=
  ∃ e, r.active[i]? = some e ∧ e.changeOnly = true ∧ r.lastSent.getD i none = some (value e.item)

theorem unchanged_iff {value : ReportItem → ReportValue} {r : Composer} {e : ReportEntry}
    (here : r.active[r.listPos]? = some e) : r.unchanged e (value e.item) = true ↔ Passes value r r.listPos := by
  simp [Composer.unchanged, Passes, here]

/-- R192: the advance of the list position, with no swap to carry out. -/
theorem advance_eq {r : Composer} (inside : r.listPos < r.active.length)
    (stays : r.swapPending = false ∨ r.listPos + 1 < r.active.length) :
    r.advance = { r with listPos := (r.listPos + 1) % r.active.length } := by
  unfold Composer.advance
  rcases Nat.lt_or_ge (r.listPos + 1) r.active.length with h | h
  · simp [Composer.wraps, h, Nat.mod_eq_of_lt h]
  · have last : r.listPos + 1 = r.active.length := by omega
    have swapPending : r.swapPending = false := stays.resolve_right (by omega)
    simp [Composer.wraps, swapPending, last]

/-- R192: an entry that is passed over, with no swap to carry out there. -/
theorem examine_passes {value : ReportItem → ReportValue} {n : Nat} {r : Composer} (passes : Passes value r r.listPos)
    (stays : r.swapPending = false ∨ r.listPos + 1 < r.active.length) :
    examine value (n + 1) r = examine value n { r with listPos := (r.listPos + 1) % r.active.length } := by
  obtain ⟨e, here, -⟩ := id passes
  have inside : r.listPos < r.active.length := (List.getElem?_eq_some_iff.mp here).1
  have same : r.unchanged e (value e.item) = true := (unchanged_iff here).mpr passes
  have swapless : (r.wraps && r.swapPending) = false := by
    rcases stays with h | h
    · simp [h]
    · simp [Composer.wraps, h]
  simp only [examine, here, same, swapless, advance_eq inside stays, if_true, Bool.false_eq_true, if_false]

/-- R192: a run of entries that are passed over, with no swap to carry out among them. -/
theorem examine_run {value : ReportItem → ReportValue} (n : Nat) : ∀ (k : Nat) (r : Composer), r.listPos < r.active.length →
    r.swapPending = false ∨ r.listPos + k < r.active.length →
    (∀ j, j < k → Passes value r ((r.listPos + j) % r.active.length)) →
    examine value (k + n) r = examine value n { r with listPos := (r.listPos + k) % r.active.length }
  | 0, r, inside, _, _ => by rw [Nat.zero_add, Nat.add_zero, Nat.mod_eq_of_lt inside]
  | k + 1, r, inside, stays, passes => by
    have first : Passes value r r.listPos := by
      have := passes 0 (by omega)
      rwa [Nat.add_zero, Nat.mod_eq_of_lt inside] at this
    rw [show k + 1 + n = (k + n) + 1 by omega, examine_passes first (stays.imp_right fun h => by omega)]
    have onward := examine_run n k { r with listPos := (r.listPos + 1) % r.active.length } (Nat.mod_lt _ (by omega))
      (stays.imp_right fun h => by
        show (r.listPos + 1) % r.active.length + k < r.active.length
        rw [Nat.mod_eq_of_lt (by omega)]; omega)
      (fun j hj => by
        have := passes (j + 1) (by omega)
        show Passes value r (((r.listPos + 1) % r.active.length + j) % r.active.length)
        rwa [Nat.mod_add_mod, show r.listPos + 1 + j = r.listPos + (j + 1) by omega])
    rw [onward]
    dsimp only
    rw [Nat.mod_add_mod, show r.listPos + 1 + k = r.listPos + (k + 1) by omega]

/-- R192: the entry that is sent. -/
theorem examine_sends {value : ReportItem → ReportValue} {n : Nat} {e : ReportEntry} {r : Composer}
    (here : r.active[r.listPos]? = some e) (sends : ¬ Passes value r r.listPos) :
    examine value (n + 1) r = (some (r.listPos, value e.item),
      ({ r with lastSent := r.lastSent.set r.listPos (some (value e.item)) } : Composer).advance,
      r.wraps && r.swapPending) := by
  have changed : r.unchanged e (value e.item) = false := Bool.eq_false_iff.mpr fun h => sends ((unchanged_iff here).mp h)
  simp only [examine, here, changed, Bool.false_eq_true, if_false]

/-- R193: the last entry passed over with a swap pending. -/
theorem examine_swaps {value : ReportItem → ReportValue} {n : Nat} {r : Composer} (passes : Passes value r r.listPos)
    (wraps : r.wraps = true) (pending : r.swapPending = true) : examine value (n + 1) r = (none, r.swap, true) := by
  obtain ⟨e, here, -⟩ := id passes
  have same : r.unchanged e (value e.item) = true := (unchanged_iff here).mpr passes
  simp [examine, here, same, wraps, pending, Composer.advance]

/-! ### A REPORT position filled (R191, R192) -/

/-- R159: a row that fills the REPORT position that comes next. -/
theorem slotOutcome_report {pos : Nat} {q : Slot → State → Bool} {x : Slot} {s : State} (h : SlotAt (settle s) pos .report)
    (hq : q x (settle s) = true) : slotOutcome pos q x s =
      let u := settle s
      { u with
        line := { u.line with slotPos := pos }, reports := u.nextReport.2.1, sent := [reportOut u.nextReport.1] } := by
  have atNext : pos = (settle s).nextPos := (nextEntry_of_SlotAt h).2
  rw [slotOutcome_at h hq, atNext]
  rfl

/-- Settles O22: the examination of the list from its position. -/
theorem reportSlotSendsNextReport : Obligations.ReportSlotSendsNextReport := by
  intro pos x s u l h filled
  have runs : exec (.reportSlot pos x) s = .next { filled with
      reports := u.nextReport.2.1, sent := [reportOut u.nextReport.1] } :=
    congrArg Host.Outcome.next (slotOutcome_report (q := fun _ _ => true) h rfl)
  refine ⟨fun empty => ?_, ?_, fun inside swapless passed => ?_⟩
  · have nothing : u.nextReport = (none, u.reports, false) := by
      rw [State.nextReport, show u.reports.active.length = 0 from empty]; rfl
    rw [runs, nothing]
    rfl
  · intro k e hk inside stays passed here sends i
    have sent : u.nextReport = (some (i, reportValue u e.item), { u.reports with
        listPos := (i + 1) % l, lastSent := u.reports.lastSent.set i (some (reportValue u e.item)) },
        (Composer.wraps { u.reports with listPos := i } && u.reports.swapPending)) := by
      have still : u.reports.swapPending = false ∨ u.reports.listPos + k < l := stays.imp_right fun h => by omega
      have count : u.reports.active.length = k + ((l - k - 1) + 1) := by show l = _; omega
      have atEntry : i < l := Nat.mod_lt _ (by omega)
      have within : u.reports.swapPending = false ∨ i + 1 < l := stays.imp_right fun h => by
        show (u.reports.listPos + k) % l + 1 < l
        rw [Nat.mod_eq_of_lt (by omega)]; omega
      rw [State.nextReport, count, examine_run _ k u.reports inside still passed,
        examine_sends (r := { u.reports with listPos := i }) here sends,
        advance_eq (r := { u.reports with
          listPos := i, lastSent := u.reports.lastSent.set i (some (reportValue u e.item)) }) atEntry within]
    rw [runs, sent]
    rfl
  · have idle : u.nextReport = (none, u.reports, false) := by
      have run := examine_run (value := reportValue u) 0 l u.reports inside (.inl swapless) fun j _ =>
        passed _ (Nat.mod_lt _ (by omega))
      rw [State.nextReport]
      refine (show examine (reportValue u) l u.reports = _ from run).trans ?_
      rw [Nat.add_mod_right, Nat.mod_eq_of_lt inside]
      rfl
    rw [runs, idle]
    rfl

/-! ### The report list swap (R193) -/

/-- R193: with the entries before the last passed over and a swap pending, the examination ends at the last entry. -/
theorem nextReport_wraps {e : ReportEntry} {u : State} (pending : u.reports.swapPending = true)
    (here : u.reports.active[u.reports.active.length - 1]? = some e)
    (before : u.reports.listPos ≤ u.reports.active.length - 1)
    (passed : ∀ i, u.reports.listPos ≤ i → i < u.reports.active.length - 1 → PassedOver u i) :
    let last := u.reports.active.length - 1
    (PassedOver u last → u.nextReport = (none, ListSwapped u.reports, true)) ∧
      (¬ PassedOver u last → u.nextReport = (some (last, reportValue u e.item), ListSwapped u.reports, true)) := by
  intro last
  have some' : last < u.reports.active.length := (List.getElem?_eq_some_iff.mp here).1
  have count : u.reports.active.length = (last - u.reports.listPos) + (u.reports.listPos + 1) := by
    show u.reports.active.length = (u.reports.active.length - 1 - u.reports.listPos) + _
    omega
  let r : Composer := { u.reports with listPos := last }
  have run : u.nextReport = examine (reportValue u) (u.reports.listPos + 1) r := by
    have atLast : u.reports.listPos + (last - u.reports.listPos) = last := Nat.add_sub_cancel' before
    have along := examine_run (value := reportValue u) (u.reports.listPos + 1) (last - u.reports.listPos) u.reports
      (by omega) (.inr (by omega)) fun j hj => by
        rw [Nat.mod_eq_of_lt (by omega)]
        exact passed _ (by omega) (show u.reports.listPos + j < last by omega)
    rw [atLast, Nat.mod_eq_of_lt some', ← count] at along
    exact along
  have wraps : r.wraps = true := by
    show decide (u.reports.active.length ≤ u.reports.active.length - 1 + 1) = true
    exact decide_eq_true (by omega)
  refine ⟨fun passes => ?_, fun sends => ?_⟩
  · rw [run, examine_swaps (r := r) passes wraps pending]
    rfl
  · have advance : ({ r with lastSent := r.lastSent.set r.listPos (some (reportValue u e.item)) } : Composer).advance =
        ListSwapped u.reports := by
      have wraps' : ({ r with lastSent := r.lastSent.set r.listPos (some (reportValue u e.item)) } : Composer).wraps =
        true := wraps
      rw [Composer.advance, if_pos wraps']
      exact if_pos pending
    rw [run, examine_sends (r := r) here sends, advance, wraps, show r.swapPending = true from pending]
    rfl

theorem reportListSwapExchangesLists : ReportListSwapExchangesLists := by
  refine ⟨fun s due pending empty => ?_, ?_⟩
  · have met : (s.reports.swapPending && decide (s.reports.active = [])) = true := by simp [pending, empty]
    refine congrArg Host.Outcome.next ((takeOccurrence_alone due rfl met).trans ?_)
    exact if_pos ⟨pending, empty⟩
  · intro pos x e s u last h pending here before passed done
    obtain ⟨passes, sends⟩ := nextReport_wraps pending here before passed
    have entry : u.nextEntry = some .report := (nextEntry_of_SlotAt h).1
    have runs (swaps : u.nextReport.2.2 = true) : exec (.reportListSwap (.reportSlot pos x)) s = .next { u with
        line := { u.line with slotPos := pos }, reports := u.nextReport.2.1, sent := [reportOut u.nextReport.1] } :=
      congrArg Host.Outcome.next (slotOutcome_report (q := fun _ s => swapAtWrapOccurs s) h
        (show (decide (u.nextEntry = some .report) && u.nextReport.2.2) = true by simp [entry, swaps]))
    refine ⟨fun k => ?_, fun k => ?_⟩
    · have report := passes k
      rw [runs (by rw [report]), report]
      rfl
    · have report := sends k
      rw [runs (by rw [report]), report]
      rfl

/-- Settles O21: the swap of the slot maps and the two occasions of the swap of the report lists. -/
theorem swapsExchangeBanks : Obligations.SwapsExchangeBanks :=
  ⟨slotMapSwapExchangesBanks, reportListSwapExchangesLists⟩

end Sys2Proof.Machine.Laws
end

section
/-! PROOFS. The bytes of fields (R196, R197): what a decoder reads at a field's place. -/

namespace Sys2Proof.Machine.Laws

/-! ### Numbers as bytes (R196) -/

@[simp] theorem natBytes_length : ∀ w n, (natBytes w n).length = w
  | 0, _ => rfl
  | w + 1, n => congrArg (· + 1) (natBytes_length w n)

theorem bytesNat_cons (b : Byte) (bs : List Byte) : bytesNat (b :: bs) = b.toNat * 256 ^ bs.length + bytesNat bs := by
  have run : ∀ (bs : List Byte) (a : Nat), bs.foldl (fun a (b : Byte) => 256 * a + b.toNat) a = a * 256 ^ bs.length + bytesNat bs := by
    intro bs
    induction bs with
    | nil => intro a; simp [bytesNat]
    | cons c cs ih =>
      intro a
      have first : bytesNat (c :: cs) = (256 * 0 + c.toNat) * 256 ^ cs.length + bytesNat cs := ih (256 * 0 + c.toNat)
      rw [List.foldl_cons, ih, first, List.length_cons, Nat.pow_succ]
      ring
  have whole : bytesNat (b :: bs) = (256 * 0 + b.toNat) * 256 ^ bs.length + bytesNat bs := run bs (256 * 0 + b.toNat)
  rwa [Nat.mul_zero, Nat.zero_add] at whole

/-- R196: a number sent as `w` bytes is read modulo 256 to the `w`. -/
theorem bytesNat_natBytes : ∀ w n, bytesNat (natBytes w n) = n % 256 ^ w
  | 0, n => by simp [natBytes, bytesNat, Nat.mod_one]
  | w + 1, n => by
    rw [natBytes, bytesNat_cons, natBytes_length, bytesNat_natBytes w n, Nat.pow_succ, Nat.mod_mul, BitVec.toNat_ofNat]
    ring

/-! ### Fields (R197) -/

@[simp] theorem field_bytes_length (f : Field) : f.bytes.length = f.width := by
  unfold Field.bytes
  cases f.value with
  | none => simp
  | some v => simp

@[simp] theorem fieldsBytes_nil : fieldsBytes [] = [] := rfl

theorem fieldsBytes_cons (f : Field) (fs : List Field) : fieldsBytes (f :: fs) = f.bytes ++ fieldsBytes fs := rfl

/-- R197: the length of the bytes of fields. -/
theorem fieldsBytes_length (fs : List Field) : (fieldsBytes fs).length = (fs.map Field.width).sum := by
  induction fs with
  | nil => rfl
  | cons f fs ih => rw [fieldsBytes_cons, List.length_append, field_bytes_length, ih, List.map_cons, List.sum_cons]

@[simp] theorem fNat_width (w n : Nat) : (fNat w n).width = w := rfl

@[simp] theorem fInt_width (w : Nat) (i : Int) : (fInt w i).width = w := rfl

@[simp] theorem fFlag_width (b : Bool) : (fFlag b).width = 1 := rfl

/-- What comes before a field is passed over. -/
theorem drop_fields {f : Field} {fs : List Field} {n : Nat} (h : f.width ≤ n) :
    (fieldsBytes (f :: fs)).drop n = (fieldsBytes fs).drop (n - f.width) := by
  have past : f.bytes.drop n = [] := List.drop_eq_nil_of_le (by simpa using h)
  rw [fieldsBytes_cons, List.drop_append, field_bytes_length, past, List.nil_append]

theorem natAt_later {f : Field} {fs : List Field} {off w : Nat} (h : f.width ≤ off) :
    natAt (fieldsBytes (f :: fs)) off w = natAt (fieldsBytes fs) (off - f.width) w := by
  rw [natAt, natAt, drop_fields h]

theorem intAt_later {f : Field} {fs : List Field} {off w : Nat} (h : f.width ≤ off) :
    intAt (fieldsBytes (f :: fs)) off w = intAt (fieldsBytes fs) (off - f.width) w := by
  simp only [intAt, natAt_later h]

/-! The same for each form of a field, where its width stands as a number. -/

theorem natAt_past_fNat {w n off k : Nat} {fs : List Field} (h : w ≤ off) :
    natAt (fieldsBytes (fNat w n :: fs)) off k = natAt (fieldsBytes fs) (off - w) k := natAt_later h

theorem natAt_past_fInt {w off k : Nat} {i : Int} {fs : List Field} (h : w ≤ off) :
    natAt (fieldsBytes (fInt w i :: fs)) off k = natAt (fieldsBytes fs) (off - w) k := natAt_later h

theorem natAt_past_fFlag {off k : Nat} {b : Bool} {fs : List Field} (h : 1 ≤ off) :
    natAt (fieldsBytes (fFlag b :: fs)) off k = natAt (fieldsBytes fs) (off - 1) k := natAt_later h

theorem intAt_past_fNat {w n off k : Nat} {fs : List Field} (h : w ≤ off) :
    intAt (fieldsBytes (fNat w n :: fs)) off k = intAt (fieldsBytes fs) (off - w) k := intAt_later h

theorem intAt_past_fInt {w off k : Nat} {i : Int} {fs : List Field} (h : w ≤ off) :
    intAt (fieldsBytes (fInt w i :: fs)) off k = intAt (fieldsBytes fs) (off - w) k := intAt_later h

theorem intAt_past_fFlag {off k : Nat} {b : Bool} {fs : List Field} (h : 1 ≤ off) :
    intAt (fieldsBytes (fFlag b :: fs)) off k = intAt (fieldsBytes fs) (off - 1) k := intAt_later h

/-- R196, R197: a field's place holds its value modulo its width. -/
theorem natAt_field {f : Field} {fs : List Field} {v : Int} (h : f.value = some v) :
    natAt (fieldsBytes (f :: fs)) 0 f.width = (v % (256 : Int) ^ f.width).toNat := by
  have first : (fieldsBytes (f :: fs)).take f.width = f.bytes := by
    rw [fieldsBytes_cons, List.take_append, field_bytes_length, Nat.sub_self, List.take_zero, List.append_nil,
      List.take_of_length_le (by simp)]
  have small : (v % (256 : Int) ^ f.width).toNat < 256 ^ f.width := by
    have positive : (0 : Int) < 256 ^ f.width := by positivity
    have lower := Int.emod_nonneg v positive.ne'
    have upper := Int.emod_lt_of_pos v positive
    zify
    rwa [Int.toNat_of_nonneg lower]
  rw [natAt, List.drop_zero, first, Field.bytes, h, bytesNat_natBytes, Nat.mod_eq_of_lt small]

theorem natAt_fNat {w n : Nat} (fs : List Field) (h : n < 256 ^ w) : natAt (fieldsBytes (fNat w n :: fs)) 0 w = n := by
  refine (natAt_field (f := fNat w n) rfl).trans ?_
  have fits : ((n : Int) % (256 : Int) ^ w) = n := Int.emod_eq_of_lt (by omega) (by exact_mod_cast h)
  show ((n : Int) % (256 : Int) ^ w).toNat = n
  rw [fits, Int.toNat_natCast]

theorem natAt_fFlag (b : Bool) (fs : List Field) : natAt (fieldsBytes (fFlag b :: fs)) 0 1 = boolCode b :=
  natAt_fNat fs (by cases b <;> decide)

/-- R196: two's complement. -/
theorem intAt_fInt {w : Nat} {i : Int} (fs : List Field) (low : -(256 : Int) ^ w ≤ 2 * i) (high : 2 * i < (256 : Int) ^ w) :
    intAt (fieldsBytes (fInt w i :: fs)) 0 w = i := by
  have positive : (0 : Int) < 256 ^ w := by positivity
  have place : natAt (fieldsBytes (fInt w i :: fs)) 0 w = (i % (256 : Int) ^ w).toNat := natAt_field (f := fInt w i) rfl
  have cast : (((256 : Nat) ^ w : Nat) : Int) = (256 : Int) ^ w := by push_cast; rfl
  rw [intAt, place]
  rcases Int.lt_or_le i 0 with negative | natural
  · have wraps : i % (256 : Int) ^ w = i + 256 ^ w := by
      rw [← Int.add_emod_right]; exact Int.emod_eq_of_lt (by omega) (by omega)
    rw [wraps]
    rw [if_neg (by zify; omega)]
    omega
  · have stays : i % (256 : Int) ^ w = i := Int.emod_eq_of_lt natural (by omega)
    rw [stays]
    rw [if_pos (by zify; omega)]
    omega

/-! ### Entries read back (R197) -/

theorem header_readBack {h : Header} (ok : h.ok = true) :
    decodeHeader (fieldsBytes h.fields) = some h ∧ (fieldsBytes h.fields).length = 9 := by
  simp only [Header.ok, Bool.and_eq_true, decide_eq_true_eq] at ok
  obtain ⟨⟨⟨⟨⟨⟨⟨tag, stepFirst⟩, -⟩, stepCount⟩, segFirst⟩, segCount⟩, -⟩, -⟩ := ok
  refine ⟨?_, by rw [fieldsBytes_length]; rfl⟩
  simp (disch := omega) only [decodeHeader, Header.fields, natAt_past_fNat, natAt_fNat, Nat.reduceSub, Nat.sub_self]

theorem segModeOf_code (m : SegMode) : segModeOf m.code = some m ∧ m.code < 256 := by cases m <;> decide

theorem segment_readBack {g : Segment} (ok : g.ok = true) :
    decodeSegment (fieldsBytes g.fields) = some g ∧ (fieldsBytes g.fields).length = 8 := by
  simp only [Segment.ok, Bool.and_eq_true, decide_eq_true_eq] at ok
  obtain ⟨⟨⟨⟨start, low⟩, high⟩, -⟩, duration⟩ := ok
  obtain ⟨mode, small⟩ := segModeOf_code g.mode
  refine ⟨?_, by rw [fieldsBytes_length]; rfl⟩
  simp (disch := omega) only [decodeSegment, Segment.fields, natAt_past_fNat, natAt_past_fInt, intAt_past_fNat, natAt_fNat,
    intAt_fInt, Nat.reduceSub, Nat.sub_self, mode, Option.map_some]

theorem scaleEntry_readBack {e : ScaleEntry} (ok : e.ok = true) :
    decodeScale (fieldsBytes e.fields) = some e ∧ (fieldsBytes e.fields).length = 5 := by
  simp only [ScaleEntry.ok, Bool.and_eq_true, decide_eq_true_eq] at ok
  obtain ⟨⟨⟨⟨offsetLow, offsetHigh⟩, gainLow⟩, gainHigh⟩, shift⟩ := ok
  refine ⟨?_, by rw [fieldsBytes_length]; rfl⟩
  simp (disch := omega) only [decodeScale, ScaleEntry.fields, natAt_past_fInt, intAt_past_fInt, natAt_fNat, intAt_fInt,
    Nat.reduceSub, Nat.sub_self]

theorem boolOf_code (b : Bool) : boolOf (boolCode b) = some b := by cases b <;> rfl

theorem wallConfig_readBack {k : WallConfig} (ok : k.ok = true) :
    decodeWallConfig (fieldsBytes k.fields) = some k ∧ (fieldsBytes k.fields).length = 9 := by
  simp only [WallConfig.ok, Bool.and_eq_true, decide_eq_true_eq] at ok
  obtain ⟨⟨⟨⟨⟨⟨low, high⟩, warn⟩, stop⟩, hysteresis⟩, -⟩, -⟩ := ok
  refine ⟨?_, by rw [fieldsBytes_length]; rfl⟩
  simp (disch := omega) only [decodeWallConfig, WallConfig.fields, natAt_past_fFlag, intAt_past_fFlag, natAt_past_fInt,
    natAt_past_fNat, natAt_fNat, natAt_fFlag, intAt_fInt, Nat.reduceSub, Nat.sub_self, boolOf_code, Option.map_some]

theorem partConfig_readBack {k : PartConfig} (ok : k.ok = true) :
    decodePartConfig (fieldsBytes k.fields) = some k ∧ (fieldsBytes k.fields).length = 10 := by
  simp only [PartConfig.ok, Bool.and_eq_true, decide_eq_true_eq] at ok
  obtain ⟨⟨⟨⟨⟨⟨⟨warnScale, -⟩, wallStale⟩, -⟩, tenure⟩, switchTime⟩, -⟩, flywheel⟩ := ok
  have bits : k.mask.toNat < 1024 := k.mask.isLt
  have mask : noticeSetOf k.mask.toNat = some k.mask := by rw [noticeSetOf, if_pos bits, BitVec.ofNat_toNat, BitVec.setWidth_eq]
  refine ⟨?_, by rw [fieldsBytes_length]; rfl⟩
  simp (disch := omega) only [decodePartConfig, PartConfig.fields, natAt_past_fNat, natAt_fNat, Nat.reduceSub, Nat.sub_self,
    mask, Option.map_some]

theorem pumpBindingOf_code (p : Option Pump) : pumpBindingOf (pumpBindingCode p) = some p ∧ pumpBindingCode p < 256 := by
  rcases p with _ | _ | _ <;> decide

theorem channelConfig_readBack {k : ChannelConfig} (ok : k.ok = true) :
    decodeChannelConfig (fieldsBytes k.fields) = some k ∧ (fieldsBytes k.fields).length = 25 := by
  simp only [ChannelConfig.ok, Bool.and_eq_true, decide_eq_true_eq] at ok
  obtain ⟨⟨⟨⟨⟨⟨⟨⟨⟨⟨⟨⟨⟨⟨⟨⟨⟨⟨-, staleLimit⟩, -⟩, echoLimit⟩, loadCeiling⟩, kp⟩, ki⟩, imax⟩, deadband⟩, overloadLimit⟩, -⟩,
    overloadPersistence⟩, pgain⟩, overMargin⟩, -⟩, overPersistence⟩, tensionLimit⟩, -⟩, tensionPersistence⟩ := ok
  obtain ⟨pump, small⟩ := pumpBindingOf_code k.pump
  refine ⟨?_, by rw [fieldsBytes_length]; rfl⟩
  simp (disch := omega) only [decodeChannelConfig, ChannelConfig.fields, natAt_past_fNat, natAt_fNat, Nat.reduceSub,
    Nat.sub_self, pump, Option.map_some]

/-! #### Slot map and report list entries -/

theorem chanOf_val (c : Chan) : chanOf c.val = some c := dif_pos c.isLt

theorem pointOf_val (w : Point) : pointOf w.val = some w := dif_pos w.isLt

theorem measurandOf_code (m : Measurand) : measurandOf m.code = some m ∧ m.code < 256 := by cases m <;> decide

/-- R197: a target is read back from its unit and measurand. -/
theorem targetOf_codes (x : Target) :
    targetOf x.unit x.measurandCode = some x ∧ x.unit < 256 ∧ x.measurandCode < 256 := by
  cases x with
  | chan c m =>
    obtain ⟨read, small⟩ := measurandOf_code m
    have unit : (Target.chan c m).unit = c.val := rfl
    have code : (Target.chan c m).measurandCode = m.code := rfl
    rw [unit, code, targetOf, if_pos c.isLt, chanOf_val, Option.bind_some, read]
    exact ⟨rfl, by omega, small⟩
  | pumpEcho p => cases p <;> exact ⟨rfl, by decide, by decide⟩
  | wallMove w =>
    have unit : (Target.wallMove w).unit = 10 + w.val := rfl
    have code : (Target.wallMove w).measurandCode = 10 := rfl
    rw [unit, code, targetOf, if_neg (by omega), if_neg (by omega), if_pos rfl, Nat.add_sub_cancel_left, pointOf_val]
    exact ⟨rfl, by omega, by decide⟩

theorem commandOf_code (x : Command) : commandOf x.code = some x ∧ x.code < 256 := by
  cases x with
  | jack c =>
    have code : (Command.jack c).code = c.val := rfl
    rw [code, commandOf, if_pos c.isLt, chanOf_val]
    exact ⟨rfl, by omega⟩
  | winch c =>
    have code : (Command.winch c).code = 8 + c.val := rfl
    rw [code, commandOf, if_neg (by omega), if_pos (by omega), Nat.add_sub_cancel_left, chanOf_val]
    exact ⟨rfl, by omega⟩
  | pump p => cases p <;> exact ⟨rfl, by decide⟩

theorem slotEntry_readBack {e : SlotEntry} (ok : e.ok = true) :
    decodeSlotEntry (fieldsBytes e.fields) = some e ∧
      slotEntryLength (natAt (fieldsBytes e.fields) 0 1) = some (fieldsBytes e.fields).length := by
  cases e with
  | pass => decide
  | report => decide
  | sample x k =>
    obtain ⟨target, unit, measurand⟩ := targetOf_codes x
    have scale : k ≤ 47 := of_decide_eq_true ok
    have kind : natAt (fieldsBytes (SlotEntry.fields (.sample x k))) 0 1 = 1 := natAt_fNat _ (by decide)
    rw [decodeSlotEntry, kind]
    refine ⟨?_, by rw [fieldsBytes_length]; rfl⟩
    simp (disch := omega) only [SlotEntry.fields, natAt_past_fNat, natAt_fNat, Nat.reduceSub, Nat.sub_self, target,
      Option.map_some]
  | command x =>
    obtain ⟨command, small⟩ := commandOf_code x
    have kind : natAt (fieldsBytes (SlotEntry.fields (.command x))) 0 1 = 2 := natAt_fNat _ (by decide)
    rw [decodeSlotEntry, kind]
    refine ⟨?_, by rw [fieldsBytes_length]; rfl⟩
    simp (disch := omega) only [SlotEntry.fields, natAt_past_fNat, natAt_fNat, Nat.sub_self, command, Option.map_some]

theorem reportItemOf_codes (x : ReportItem) :
    reportItemOf x.codes.1 x.codes.2 = some x ∧ x.codes.1 < 256 ∧ x.codes.2 < 256 := by
  cases x with
  | chan c i =>
    have codes : (ReportItem.chan c i).codes = (c.val, i.code) := rfl
    have item : chanItemOf i.code = some i ∧ i.code < 256 := by cases i <;> decide
    rw [codes, reportItemOf, if_pos c.isLt, chanOf_val, Option.bind_some, item.1]
    exact ⟨rfl, by show c.val < 256; omega, item.2⟩
  | pump p i => cases p <;> cases i <;> exact ⟨rfl, by decide, by decide⟩
  | point w i =>
    have item : ∃ k, (ReportItem.point w i).codes = (10 + w.val, k) ∧ pointItemOf k = some i ∧ k < 256 := by
      cases i <;> exact ⟨_, rfl, rfl, by decide⟩
    obtain ⟨k, codes, item, small⟩ := item
    rw [codes, reportItemOf, if_neg (by omega), if_neg (by omega), if_pos (by omega), Nat.add_sub_cancel_left, pointOf_val,
      Option.bind_some, item]
    exact ⟨rfl, by show 10 + w.val < 256; omega, small⟩
  | part i => cases i <;> exact ⟨rfl, by decide, by decide⟩

theorem reportEntry_readBack (e : ReportEntry) :
    decodeReportEntry (fieldsBytes e.fields) = some e ∧ (fieldsBytes e.fields).length = 3 := by
  obtain ⟨item, source, within⟩ := reportItemOf_codes e.item
  refine ⟨?_, by rw [fieldsBytes_length]; rfl⟩
  simp (disch := omega) only [decodeReportEntry, ReportEntry.fields, natAt_past_fNat, natAt_fNat, natAt_fFlag, Nat.reduceSub,
    Nat.sub_self, item, boolOf_code, Option.bind_some, Option.map_some]

end Sys2Proof.Machine.Laws
end

section
/-! PROOFS. Steps and mark sets, requests and slots read back whole (R149, R165, R196, R197), and slots delimited on the
line (R199). -/

namespace Sys2Proof.Machine.Laws

/-! ### Steps (R2, R197) -/

theorem onFailOf_code (f : OnFail) : onFailOf f.code = some f ∧ f.code < 256 := by cases f <;> decide

theorem quantityOf_code (q : Quantity) : quantityOf q.code = some q ∧ q.code < 256 := by cases q <;> decide

theorem sourceSetOf_mask (x : SourceSet) : sourceSetOf x.mask = some x ∧ x.mask < 256 := by
  obtain ⟨timer, release, peer, wallClear⟩ := x
  revert timer release peer wallClear
  decide

/-- R197: the fields of a step's kind are read back, and fill the length of the kind less the three common bytes. -/
theorem stepBody_readBack {b : StepBody} (ok : b.ok = true) :
    decodeStepBody b.kind (fieldsBytes b.fields) = some b ∧ stepLength b.kind = some (3 + (fieldsBytes b.fields).length) := by
  rw [fieldsBytes_length]
  cases b with
  | payout p =>
    simp only [StepBody.ok, Bool.and_eq_true, decide_eq_true_eq] at ok
    obtain ⟨⟨⟨⟨-, target⟩, segOffset⟩, -⟩, segCount⟩ := ok
    refine ⟨?_, rfl⟩
    simp (disch := omega) only [StepBody.kind, decodeStepBody, StepBody.fields, natAt_past_fNat, natAt_fNat, Nat.reduceSub,
      Nat.sub_self]
  | inject p =>
    simp only [StepBody.ok, Bool.and_eq_true, decide_eq_true_eq] at ok
    obtain ⟨⟨⟨⟨⟨⟨⟨-, volume⟩, demand⟩, ceiling⟩, pressure⟩, flow⟩, -⟩, count⟩ := ok
    refine ⟨?_, rfl⟩
    simp (disch := omega) only [StepBody.kind, decodeStepBody, StepBody.fields, natAt_past_fNat, natAt_fNat, natAt_fFlag,
      Nat.reduceSub, Nat.sub_self, boolOf_code, Option.map_some]
  | ramp p =>
    simp only [StepBody.ok, Bool.and_eq_true, decide_eq_true_eq] at ok
    obtain ⟨⟨⟨⟨⟨⟨⟨segOffset, -⟩, segCount⟩, band⟩, -⟩, need⟩, -⟩, limit⟩ := ok
    refine ⟨?_, rfl⟩
    simp (disch := omega) only [StepBody.kind, decodeStepBody, StepBody.fields, natAt_past_fNat, natAt_fNat, Nat.reduceSub,
      Nat.sub_self]
  | hold p =>
    simp only [StepBody.ok, Bool.and_eq_true, decide_eq_true_eq] at ok
    obtain ⟨⟨⟨⟨⟨⟨⟨⟨⟨-, duration⟩, markSet⟩, markA⟩, markB⟩, -⟩, -⟩, kFactor⟩, creep⟩, tolerance⟩ := ok
    refine ⟨?_, rfl⟩
    simp (disch := omega) only [StepBody.kind, decodeStepBody, StepBody.fields, natAt_past_fNat, natAt_fNat, Nat.reduceSub,
      Nat.sub_self]
  | lockoff p =>
    simp only [StepBody.ok, Bool.and_eq_true, decide_eq_true_eq] at ok
    obtain ⟨⟨⟨⟨settle, -⟩, slope⟩, seat⟩, loss⟩ := ok
    refine ⟨?_, rfl⟩
    simp (disch := omega) only [StepBody.kind, decodeStepBody, StepBody.fields, natAt_past_fNat, natAt_fNat, Nat.reduceSub,
      Nat.sub_self]
  | check p =>
    simp only [StepBody.ok, Bool.and_eq_true, decide_eq_true_eq] at ok
    obtain ⟨⟨⟨⟨lowLow, lowHigh⟩, highLow⟩, highHigh⟩, -⟩ := ok
    obtain ⟨quantity, small⟩ := quantityOf_code p.quantity
    refine ⟨?_, rfl⟩
    simp (disch := omega) only [StepBody.kind, decodeStepBody, StepBody.fields, intAt_past_fNat, intAt_past_fInt, natAt_fNat,
      intAt_fInt, Nat.reduceSub, Nat.sub_self, quantity, Option.map_some]
  | await p =>
    simp only [StepBody.ok, Bool.and_eq_true, decide_eq_true_eq] at ok
    obtain ⟨-, timer⟩ := ok
    obtain ⟨releases, releaseSmall⟩ := sourceSetOf_mask p.releaseSet
    obtain ⟨diverts, divertSmall⟩ := sourceSetOf_mask p.divertSet
    refine ⟨?_, rfl⟩
    simp (disch := omega) only [StepBody.kind, decodeStepBody, StepBody.fields, natAt_past_fNat, natAt_fNat, Nat.reduceSub,
      Nat.sub_self, releases, diverts, Option.bind_some, Option.map_some]
  | signal c =>
    have small : c.val < 256 ^ 1 := by omega
    refine ⟨?_, rfl⟩
    simp only [StepBody.kind, decodeStepBody, StepBody.fields, natAt_fNat _ small, chanOf_val, Option.map_some]
  | finish => exact ⟨rfl, rfl⟩

theorem step_readBack {x : Step} (ok : x.ok = true) : decodeStep (fieldsBytes x.fields) = some x ∧
    stepLength x.body.kind = some (fieldsBytes x.fields).length ∧ natAt (fieldsBytes x.fields) 0 1 = x.body.kind := by
  simp only [Step.ok, Bool.and_eq_true, decide_eq_true_eq] at ok
  obtain ⟨divert, body⟩ := ok
  obtain ⟨reads, length⟩ := stepBody_readBack body
  obtain ⟨onFail, small⟩ := onFailOf_code x.onFail
  have kindSmall : x.body.kind < 256 := by cases x.body <;> simp [StepBody.kind]
  have fields : x.fields = fNat 1 x.body.kind :: fNat 1 x.onFail.code :: fNat 1 x.divert :: x.body.fields := rfl
  have kind : natAt (fieldsBytes x.fields) 0 1 = x.body.kind := natAt_fNat _ (by omega)
  have rest : (fieldsBytes x.fields).drop 3 = fieldsBytes x.body.fields := by
    rw [fields, drop_fields (by simp), drop_fields (by simp), drop_fields (by simp)]; rfl
  refine ⟨?_, ?_, kind⟩
  · rw [decodeStep, kind, rest, reads, fields]
    simp (disch := omega) only [natAt_past_fNat, natAt_fNat, Nat.reduceSub, Nat.sub_self, onFail, Option.bind_some,
      Option.map_some]
  · rw [length, fields]
    simp only [fieldsBytes_length, List.map_cons, List.sum_cons, fNat_width]
    exact congrArg some (by omega)

/-! ### Mark sets (R3, R197) -/

theorem markSet_readBack {m : MarkSet} (ok : markSetOk m = true) :
    decodeMarkSet (fieldsBytes (markSetFields m)) = some m ∧ (fieldsBytes (markSetFields m)).length = 19 := by
  simp only [markSetOk, Bool.and_eq_true, decide_eq_true_eq, List.all_eq_true] at ok
  obtain ⟨⟨⟨-, count⟩, small⟩, -⟩ := ok
  have time (i : Nat) : m.getD i 0 < 256 ^ 3 := by
    rcases Nat.lt_or_ge i m.length with h | h
    · rw [List.getD_eq_getElem _ _ h]
      exact Nat.lt_succ_of_le (small _ (List.getElem_mem h))
    · rw [List.getD_eq_default _ _ h]; decide
  have fields : markSetFields m = [fNat 1 m.length, fNat 3 (m.getD 0 0), fNat 3 (m.getD 1 0), fNat 3 (m.getD 2 0),
      fNat 3 (m.getD 3 0), fNat 3 (m.getD 4 0), fNat 3 (m.getD 5 0)] := rfl
  have first : natAt (fieldsBytes (markSetFields m)) 0 1 = m.length := natAt_fNat _ (by omega)
  refine ⟨?_, by rw [fieldsBytes_length]; rfl⟩
  rw [decodeMarkSet, first, if_pos count]
  refine congrArg some (List.ext_getElem (by simp) fun i inside inside' => ?_)
  have within : i < 6 := by omega
  rw [List.getElem_map, List.getElem_range, fields, ← List.getD_eq_getElem m 0 inside']
  interval_cases i <;> simp (disch := omega) only [natAt_past_fNat, Nat.reduceSub, Nat.sub_self, Nat.reduceMul, Nat.reduceAdd, natAt_fNat _ (time _)]

/-- R196, R197: every entry that passes its table's load checks is read back whole. -/
theorem entriesReadBackFromTheirBytes : EntriesReadBackFromTheirBytes :=
  ⟨fun _ => header_readBack, fun _ => step_readBack, fun _ => segment_readBack, fun _ => markSet_readBack,
    fun _ => scaleEntry_readBack, fun _ => channelConfig_readBack, fun _ => wallConfig_readBack,
    fun _ => slotEntry_readBack, reportEntry_readBack, fun _ => partConfig_readBack⟩

/-! ### Requests, syncs and samples (R146, R149, R165, R196) -/

theorem slotGood_makeSlot (b0 b1 b2 b3 : Byte) : slotGood (makeSlot b0 b1 b2 b3) = true := decide_eq_true rfl

/-- R196: a payload spread over `m` slots, 0 beyond its last byte. -/
theorem slotData_payloadSlots (p : List Byte) : ∀ m, ((List.range m).map (payloadSlot p)).flatMap slotData =
    (List.range (4 * m)).map fun i => p.getD i 0#8
  | 0 => rfl
  | m + 1 => by
    rw [List.range_succ, List.map_append, List.flatMap_append, slotData_payloadSlots p m,
      show 4 * (m + 1) = 4 * m + 1 + 1 + 1 + 1 by omega, List.range_succ, List.range_succ, List.range_succ, List.range_succ]
    simp [payloadSlot, makeSlot, slotData]

/-- R165: the used slots of a request window, however long its payload. -/
theorem usedSlots_requestWindow {d k : Nat} {tag : Byte} {p : List Byte} (h : p.length ≤ 28) :
    requestLength (requestWindow d k tag p) = p.length ∧
      usedSlots (requestWindow d k tag p) = (List.range ((p.length + 3) / 4)).map (payloadSlot p) := by
  have length : requestLength (requestWindow d k tag p) = p.length := by
    show (BitVec.ofNat 8 p.length).toNat = p.length
    rw [BitVec.toNat_ofNat, Nat.mod_eq_of_lt (by omega)]
  have slots : payloadSlots (requestWindow d k tag p) = (List.range 7).map (payloadSlot p) := rfl
  refine ⟨length, ?_⟩
  rw [usedSlots, length, slots, ← List.map_take, List.take_range, Nat.min_eq_right h, Nat.min_eq_left (by omega)]

/-- R165: the payload of a request window is read back whole. -/
theorem requestPayload_requestWindow {d k : Nat} {tag : Byte} {p : List Byte} (h : p.length ≤ 28) :
    requestPayload (requestWindow d k tag p) = p := by
  obtain ⟨length, slots⟩ := usedSlots_requestWindow (d := d) (k := k) (tag := tag) h
  rw [requestPayload, length, slots, slotData_payloadSlots, ← List.map_take, List.take_range, Nat.min_eq_left (by omega)]
  refine List.ext_getElem (by simp) fun i inside inside' => ?_
  rw [List.getElem_map, List.getElem_range, List.getD_eq_getElem _ _ inside']

theorem goodSync_makeSlot {n c : Nat} (low : 32 ≤ n) (high : n ≤ 240) (hc : c < 65536) :
    goodSync (makeSlot 0xB5#8 (BitVec.ofNat 8 n) (BitVec.ofNat 8 (c / 256)) (BitVec.ofNat 8 c)) = some (n, c) := by
  have length : (BitVec.ofNat 8 n).toNat = n := by rw [BitVec.toNat_ofNat, Nat.mod_eq_of_lt (by omega)]
  have number : 256 * (BitVec.ofNat 8 (c / 256)).toNat + (BitVec.ofNat 8 c).toNat = c := by
    rw [BitVec.toNat_ofNat, BitVec.toNat_ofNat]; omega
  rw [goodSync, if_pos ⟨rfl, slotGood_makeSlot _ _ _ _, length.symm ▸ low, length.symm ▸ high⟩]
  exact congrArg some (Prod.ext length number)

theorem slotsReadBackWhole : SlotsReadBackWhole := by
  refine ⟨fun d k tag p hd hk h => ?_, fun n c low high hc => goodSync_makeSlot low high hc, fun st aux raw => ?_⟩
  · intro w
    obtain ⟨length, slots⟩ := usedSlots_requestWindow (d := d) (k := k) (tag := tag) h
    refine ⟨?_, ?_, rfl, length, requestPayload_requestWindow h, ?_, slotGood_makeSlot _ _ _ _⟩
    · show (BitVec.ofNat 8 d).toNat = d
      rw [BitVec.toNat_ofNat, Nat.mod_eq_of_lt hd]
    · show (BitVec.ofNat 8 k).toNat = k
      rw [BitVec.toNat_ofNat, Nat.mod_eq_of_lt hk]
    · rw [garbledPayload, slots, List.any_map]
      exact List.any_eq_false.mpr fun i _ => by simp [payloadSlot, slotGood_makeSlot]
  · rw [rawValue_eq_toInt]
    refine congrArg BitVec.toInt (BitVec.eq_of_toNat_eq ?_)
    have low : (raw.extractLsb' 0 8).toNat < 2 ^ 8 := (raw.extractLsb' 0 8).isLt
    have whole := raw.isLt
    show (raw.extractLsb' 8 8 ++ raw.extractLsb' 0 8).toNat = raw.toNat
    rw [BitVec.toNat_append, ← Nat.shiftLeft_add_eq_or_of_lt low, Nat.shiftLeft_eq, BitVec.extractLsb'_toNat,
      BitVec.extractLsb'_toNat, Nat.shiftRight_eq_div_pow, Nat.shiftRight_eq_div_pow]
    omega

/-! ### Slots on the line (R199) -/

theorem readCharacters_charactersBits : ∀ (cs : List Character) (bs : List Bool),
    readCharacters (charactersBits cs ++ bs) = cs ++ readCharacters bs
  | [], _ => rfl
  | c :: cs, bs => by
    rw [show charactersBits (c :: cs) = c.bits ++ charactersBits cs from rfl, List.append_assoc, readCharacters_bits,
      readCharacters_charactersBits cs bs]
    rfl

theorem readCharacters_slotsBits : ∀ (xs : List Slot) (bs : List Bool),
    readCharacters (slotsBits xs ++ bs) = xs.flatMap slotCharacters ++ readCharacters bs
  | [], _ => rfl
  | x :: xs, bs => by
    rw [show slotsBits (x :: xs) = charactersBits (slotCharacters x) ++ slotsBits xs from rfl, List.append_assoc,
      readCharacters_charactersBits, readCharacters_slotsBits xs bs, List.flatMap_cons, List.append_assoc]

theorem readCharacters_replicate : ∀ (n : Nat) (bs : List Bool),
    readCharacters (List.replicate n true ++ bs) = readCharacters bs
  | 0, _ => rfl
  | n + 1, bs => readCharacters_replicate n bs

theorem delimit_slots : ∀ (xs : List Slot) (cs : List Character),
    delimit (xs.flatMap slotCharacters ++ cs) = xs ++ delimit cs
  | [], _ => rfl
  | x :: xs, cs => by
    rw [List.flatMap_cons, List.append_assoc, delimit_slot, delimit_slots xs cs]
    rfl

theorem receivedSlots_append (xs : List Slot) (bs : List Bool) :
    receivedSlots (slotsBits xs ++ bs) = xs ++ receivedSlots bs := by
  rw [receivedSlots, readCharacters_slotsBits, delimit_slots, receivedSlots]

theorem receivedSlots_slotsBits (xs : List Slot) : receivedSlots (slotsBits xs) = xs := by
  have whole := receivedSlots_append xs []
  rwa [List.append_nil, show receivedSlots [] = [] from rfl, List.append_nil] at whole

theorem slotsBits_length : ∀ xs : List Slot, (slotsBits xs).length = 50 * xs.length
  | [] => rfl
  | x :: xs => by
    rw [show slotsBits (x :: xs) = slotBits x ++ slotsBits xs from rfl, List.length_append, slotsBits_length xs,
      show (slotBits x).length = 50 from rfl, List.length_cons]
    omega

/-- R199: characters with a high stop bit start no slot. -/
theorem delimit_of_high (cs : List Character) : ∀ ds : List Character, (∀ d ∈ ds, d.stop = true) →
    delimit (ds ++ cs) = delimit cs
  | [], _ => rfl
  | ⟨data, stop⟩ :: ds, h => by
    obtain rfl : stop = true := h _ List.mem_cons_self
    rw [List.cons_append, delimit_high, delimit_of_high cs ds fun d hd => h d (List.mem_cons_of_mem _ hd)]

/-- R199: of a slot's characters the first alone has a low stop bit. -/
theorem stop_of_mem_drop {x : Slot} {d : Character} (h : d ∈ (slotCharacters x).drop 1) : d.stop = true := by
  simp only [slotCharacters, List.drop_succ_cons, List.drop_zero, List.mem_cons, List.not_mem_nil, or_false] at h
  rcases h with rfl | rfl | rfl | rfl <;> rfl

/-- R199: the characters of a slot whose first ones are missing start no slot. -/
theorem delimit_tail {k : Nat} (x : Slot) (cs : List Character) (first : 1 ≤ k) :
    delimit ((slotCharacters x).drop k ++ cs) = delimit cs := by
  obtain ⟨k, rfl⟩ := Nat.exists_eq_add_of_le' first
  refine delimit_of_high cs _ fun d hd => stop_of_mem_drop (x := x) (List.mem_of_mem_drop (i := k) ?_)
  rwa [List.drop_drop, Nat.add_comm]

theorem delimit_whole (ys : List Slot) : delimit (ys.flatMap slotCharacters) = ys := by
  have whole := delimit_slots ys []
  rwa [List.append_nil, show delimit [] = [] from rfl, List.append_nil] at whole

/-- R199: a slot cut short by the next slot start, or by the last of the bits, is dropped. -/
theorem delimit_head {k : Nat} (x : Slot) (ys : List Slot) (first : 1 ≤ k) (last : k ≤ 4) :
    delimit ((slotCharacters x).take k ++ ys.flatMap slotCharacters) = ys := by
  have dropped : delimit ((slotCharacters x).take k ++ ys.flatMap slotCharacters) =
      delimit (((slotCharacters x).take k).drop 1 ++ ys.flatMap slotCharacters) := by
    cases ys with
    | nil => interval_cases k <;> rfl
    | cons y ys => interval_cases k <;> rfl
  rw [dropped, List.drop_take, delimit_of_high _ _ fun d hd => stop_of_mem_drop (x := x) (List.mem_of_mem_take hd),
    delimit_whole]

/-- R199: a receiver passes over what lies between slots when its characters start no slot. -/
theorem receivedSlots_between {xs ys : List Slot} {cs : List Character}
    (h : delimit (cs ++ ys.flatMap slotCharacters) = ys) :
    receivedSlots (slotsBits xs ++ charactersBits cs ++ slotsBits ys) = xs ++ ys := by
  have read := readCharacters_slotsBits ys []
  rw [List.append_nil, show readCharacters [] = [] from rfl, List.append_nil] at read
  rw [List.append_assoc, receivedSlots_append, receivedSlots, readCharacters_charactersBits, read, h]

theorem slotsAreDelimitedOnTheLine : SlotsAreDelimitedOnTheLine := by
  refine ⟨fun x => ⟨rfl, rfl, rfl, fun i hi => ?_⟩, fun x => ⟨rfl, rfl⟩,
    fun xs => ⟨slotsBits_length xs, receivedSlots_slotsBits xs⟩, fun s => receivedSlots_slotsBits s.sent,
    fun xs ys n => ?_, fun xs x ys k first last => ⟨?_, ?_⟩⟩
  · interval_cases i <;> rfl
  · rw [List.append_assoc, receivedSlots_append]
    refine congrArg (xs ++ ·) ?_
    rw [receivedSlots, readCharacters_replicate]
    exact receivedSlots_slotsBits ys
  · exact receivedSlots_between ((delimit_tail x _ first).trans (delimit_whole ys))
  · exact receivedSlots_between (delimit_head x ys first last)

/-- Settles O50: the entries, the slots and the line. -/
theorem encodingsReadBackWhole : Obligations.EncodingsReadBackWhole :=
  ⟨entriesReadBackFromTheirBytes, slotsReadBackWhole, slotsAreDelimitedOnTheLine⟩

end Sys2Proof.Machine.Laws
end

section
/-! PROOFS. The layouts of the slots, report items, replies and record parts that the part sends (R191, R196 to R198). -/

namespace Sys2Proof.Machine.Laws

/-! ### Bits of a word -/

/-- R196: two fields side by side, the first the more significant. -/
theorem toNat_append {m n : Nat} (a : BitVec m) (b : BitVec n) : (a ++ b).toNat = 2 ^ n * a.toNat + b.toNat := by
  rw [BitVec.toNat_append, ← Nat.shiftLeft_add_eq_or_of_lt b.isLt, Nat.shiftLeft_eq, Nat.mul_comm]

/-- R196: bits `lo` on of a number below 2 to the `w`. -/
theorem extractLsb'_ofNat {w n : Nat} (h : n < 2 ^ w) (lo len : Nat) :
    ((BitVec.ofNat w n).extractLsb' lo len).toNat = n / 2 ^ lo % 2 ^ len := by
  rw [BitVec.extractLsb'_toNat, BitVec.toNat_ofNat, Nat.mod_eq_of_lt h, Nat.shiftRight_eq_div_pow]

/-- R196: one bit of a number below 2 to the `w`. -/
theorem getLsbD_ofNat {w n : Nat} (h : n < 2 ^ w) (i : Nat) :
    (BitVec.ofNat w n).getLsbD i = true ↔ n / 2 ^ i % 2 = 1 := by
  rw [BitVec.getLsbD, BitVec.toNat_ofNat, Nat.mod_eq_of_lt h, Nat.testBit_eq_decide_div_mod_eq, decide_eq_true_eq]

/-! ### Command slots (R49, R86, R93) and reports (R191, R196) -/

theorem demandBytes_append (v : Int) : ((demandBytes v).1 ++ (demandBytes v).2).toNat = (v % 65536).toNat := by
  have low := Int.emod_nonneg v (b := 65536) (by decide)
  have high := Int.emod_lt_of_pos v (b := 65536) (by decide)
  rw [toNat_append, demandBytes]
  simp only [BitVec.toNat_ofNat]
  omega

theorem demandBytes_toInt {v : Int} (low : -32768 ≤ v) (high : v ≤ 32767) :
    ((demandBytes v).1 ++ (demandBytes v).2).toInt = v := by
  rw [BitVec.toInt_eq_toNat_cond, demandBytes_append]
  split <;> omega

theorem demandBytes_toNat {n : Nat} (h : n < 65536) : ((demandBytes n).1 ++ (demandBytes n).2).toNat = n := by
  rw [demandBytes_append]
  omega

theorem flagByte (b : Bool) : BitVec.ofNat 8 (boolCode b) = if b then 1#8 else 0#8 := by cases b <;> rfl

theorem tagByte {tag : Nat} (h : tag < 256) : (BitVec.ofNat 8 tag).toNat = tag := by
  rw [BitVec.toNat_ofNat, Nat.mod_eq_of_lt h]

theorem sentReport_layout (i : Nat) (v : ReportValue) (h : i ≤ 63) :
    let x := sentReport i v
    (x.b0.extractLsb' 0 6).toNat = i ∧ x.b0.extractLsb' 6 2 = v.marker ∧ x.b1 ++ x.b2 ++ x.b3 = v.bits := by
  have marker := v.marker.isLt
  have bits := v.bits.isLt
  have first : (v.marker ++ BitVec.ofNat 6 i).toNat = 64 * v.marker.toNat + i := by
    rw [toNat_append, BitVec.toNat_ofNat]; omega
  refine ⟨?_, BitVec.eq_of_toNat_eq ?_, BitVec.eq_of_toNat_eq ?_⟩
  · show ((v.marker ++ BitVec.ofNat 6 i).extractLsb' 0 6).toNat = i
    rw [BitVec.extractLsb'_toNat, first, Nat.shiftRight_eq_div_pow]
    omega
  · show ((v.marker ++ BitVec.ofNat 6 i).extractLsb' 6 2).toNat = v.marker.toNat
    rw [BitVec.extractLsb'_toNat, first, Nat.shiftRight_eq_div_pow]
    omega
  · show (v.bits.extractLsb' 16 8 ++ v.bits.extractLsb' 8 8 ++ v.bits.extractLsb' 0 8).toNat = v.bits.toNat
    rw [toNat_append, toNat_append]
    simp only [BitVec.extractLsb'_toNat, Nat.shiftRight_eq_div_pow]
    omega

theorem writtenSlotLayouts : WrittenSlotLayouts := by
  refine ⟨fun v flag tag low high ht => ?_, fun n flag tag hn ht => ?_, fun n manifold tag hn ht => ?_,
    fun i v hi => ?_, rfl, rfl, rfl, rfl, slotGood_makeSlot ..⟩
  · exact ⟨demandBytes_toInt low high, flagByte flag, tagByte ht, slotGood_makeSlot ..⟩
  · exact ⟨demandBytes_toNat hn, flagByte flag, tagByte ht, slotGood_makeSlot ..⟩
  · refine ⟨demandBytes_toNat hn, tagByte ht, slotGood_makeSlot .., fun c hc => ?_, fun none => ?_⟩
    · subst hc
      show (BitVec.ofNat 8 c.val).toNat = c.val
      exact tagByte (by omega)
    · subst none; rfl
  · obtain ⟨index, marker, bits⟩ := sentReport_layout i v hi
    refine ⟨index, marker, bits, slotGood_makeSlot .., fun sent same => sent ?_⟩
    rw [← marker, same]
    rfl

/-! ### Enumerations (R196) -/

theorem enumerationCodes : EnumerationCodes :=
  ⟨rfl, rfl, rfl, rfl, rfl, rfl, rfl, rfl, rfl, rfl, rfl, rfl, fun _ => ⟨rfl, rfl, rfl⟩⟩

/-! ### Replies (R157, R168) -/

theorem replyLayout : ReplyLayout := by
  refine ⟨fun r hr => ?_, fun f fs => ⟨fieldsBytes_cons f fs, field_bytes_length f⟩, fun n k hk => ?_,
    fun n v low high => ?_, fun n v negative low => ?_⟩
  · intro x
    refine ⟨tagByte (by omega), rfl, rfl, tagByte (by cases r.status <;> decide), ?_, fun k hk => ?_⟩
    · simp [x, Window.slots, Reply.window, windowOf, payloadSlot, slotGood_makeSlot]
    · have data := slotData_payloadSlots (fieldsBytes r.payload) 7
      have shown : ([x.s2, x.s3, x.s4, x.s5, x.s6, x.s7, x.s8].flatMap fun y => [y.b0, y.b1, y.b2, y.b3]) =
          (List.range 28).map fun i => (fieldsBytes r.payload).getD i 0#8 := data
      rw [shown, List.getElem?_map, List.getElem?_range hk]
      rfl
  · show (List.replicate n 0xFF#8)[k]? = some 0xFF#8
    simp [hk]
  · rw [natAt_field (f := { width := n, value := some v }) rfl, Int.emod_eq_of_lt low high, Int.toNat_of_nonneg low]
  · have positive : (0 : Int) < 256 ^ n := by positivity
    have wraps : v % (256 : Int) ^ n = v + 256 ^ n := by
      rw [← Int.add_emod_right]; exact Int.emod_eq_of_lt (by omega) (by omega)
    rw [natAt_field (f := { width := n, value := some v }) rfl]
    show ((v % (256 : Int) ^ n).toNat : Int) = _
    rw [wraps, Int.toNat_of_nonneg (by omega)]

/-! ### Report items (R191, R194, R196) -/

/-- R196: a report value of a number. -/
theorem mkReport_nat {n : Nat} (marker : Nat) : (mkReport marker (n : Int)).bits = BitVec.ofNat 24 n :=
  BitVec.ofInt_natCast 24 n

theorem inputReport_is (s : State) (x : Target) :
    ReportIs (inputReport s x) (if s.available x = true then 1 else 0) (match s.input x with
      | some r => r.value
      | none => 0) := by
  refine ⟨?_, ?_⟩
  · show BitVec.ofNat 2 (boolCode (s.available x)) = _
    rfl
  · unfold inputReport mkReport
    cases s.input x <;> rfl

theorem groutReport_active {ch : Channel} {x : InjectWork} (active : ch.phase = .active) (work : ch.work = .inject x) :
    ReportIs (groutReport ch) 1 x.volume := by
  rw [groutReport, active, work]
  exact ⟨rfl, rfl⟩

theorem groutReport_idle {ch : Channel} (h : ch.phase ≠ .active ∨ (∀ x, ch.work ≠ .inject x)) :
    groutReport ch = match ch.record.bind Record.groutVolume with
      | some v => mkReport 2 v
      | none => mkReport 0 0 := by
  unfold groutReport
  split
  · rename_i active work
    exact absurd h (by simp [active, work])
  · rfl

theorem payoutReport_active {ch : Channel} {x : PayoutWork} (active : ch.phase = .active) (work : ch.work = .payout x) :
    ReportIs (payoutReport ch) 1 x.progress := by
  rw [payoutReport, active, work]
  exact ⟨rfl, rfl⟩

theorem payoutReport_idle {ch : Channel} (h : ch.phase ≠ .active ∨ (∀ x, ch.work ≠ .payout x)) :
    ReportIs (payoutReport ch) 0 0 := by
  unfold payoutReport
  split
  · rename_i active work
    exact absurd h (by simp [active, work])
  · exact ⟨rfl, rfl⟩

theorem chanStateReport_layout (s : State) (c : Chan) :
    let v := chanStateReport s c
    (s.chan c).index ≤ 256 → v.marker = 0#2 ∧ (v.bits.extractLsb' 0 3).toNat = (s.chan c).state.code ∧
      (v.bits.extractLsb' 3 2).toNat = (s.chan c).phase.code ∧ (v.bits.extractLsb' 5 4).toNat = stepKindCode s c ∧
      (v.bits.extractLsb' 9 9).toNat = (s.chan c).index ∧ (v.bits.getLsbD 18 = true ↔ (s.chan c).fault ≠ none) := by
  intro v index
  have state : (s.chan c).state.code < 5 := by cases (s.chan c).state <;> decide
  have phase : (s.chan c).phase.code < 3 := by cases (s.chan c).phase <;> decide
  have kind : stepKindCode s c < 16 := by
    unfold stepKindCode
    cases s.currentStep c with
    | none => decide
    | some st => show st.body.kind < 16; cases st.body <;> simp [StepBody.kind]
  have fault : boolCode (s.chan c).fault.isSome < 2 ∧ (boolCode (s.chan c).fault.isSome = 1 ↔ (s.chan c).fault ≠ none) := by
    cases (s.chan c).fault <;> simp [boolCode]
  obtain ⟨faultSmall, faulted⟩ := fault
  have small : (s.chan c).state.code + 8 * (s.chan c).phase.code + 32 * stepKindCode s c + 512 * (s.chan c).index
      + 262144 * boolCode (s.chan c).fault.isSome < 2 ^ 24 := by omega
  have bits : v.bits = BitVec.ofNat 24 _ := mkReport_nat 0
  rw [bits]
  refine ⟨rfl, ?_, ?_, ?_, ?_, ?_⟩
  iterate 4 rw [extractLsb'_ofNat small]; omega
  rw [getLsbD_ofNat small, ← faulted]
  omega

theorem pumpStateReport_layout (a : Arbiter) (h : a.queue.length ≤ 15) :
    let v := pumpStateReport a
    v.marker = 0#2 ∧ (v.bits.extractLsb' 0 2).toNat = a.state.code ∧
      (v.bits.extractLsb' 2 4).toNat = (a.state.holder.map Fin.val).getD 15 ∧
      (v.bits.extractLsb' 6 4).toNat = a.queue.length := by
  intro v
  have state : a.state.code < 3 := by cases a.state <;> simp [PumpState.code]
  have holder : (a.state.holder.map Fin.val).getD 15 < 16 := by
    cases a.state.holder with
    | none => decide
    | some d => show d.val < 16; omega
  have small : a.state.code + 4 * (a.state.holder.map Fin.val).getD 15 + 64 * a.queue.length < 2 ^ 24 := by omega
  have bits : v.bits = BitVec.ofNat 24 _ := mkReport_nat 0
  rw [bits]
  refine ⟨rfl, ?_, ?_, ?_⟩
  iterate 3 rw [extractLsb'_ofNat small]; omega

theorem pointStateReport_layout (x : WallPoint) :
    let v := pointStateReport x
    v.marker = 0#2 ∧ (v.bits.extractLsb' 0 2).toNat = x.state.code ∧ (v.bits.getLsbD 2 = true ↔ x.latch = true) := by
  intro v
  have state : x.state.code < 4 := by cases x.state <;> decide
  have latch : boolCode x.latch < 2 ∧ (boolCode x.latch = 1 ↔ x.latch = true) := by cases x.latch <;> simp [boolCode]
  obtain ⟨latchSmall, latched⟩ := latch
  have small : x.state.code + 4 * boolCode x.latch < 2 ^ 24 := by omega
  have bits : v.bits = BitVec.ofNat 24 _ := mkReport_nat 0
  rw [bits]
  refine ⟨rfl, ?_, ?_⟩
  · rw [extractLsb'_ofNat small]; omega
  · rw [getLsbD_ofNat small, ← latched]; omega

/-! ### The status summary (R194, R196) -/

theorem flagsOf_lt (s : State) (st : ChanState) : s.flagsOf st < 256 := channelMask_lt fun c => (s.chan c).state = st

theorem flagsOf_testBit (s : State) (st : ChanState) (c : Chan) :
    (s.flagsOf st).testBit c.val = true ↔ (s.chan c).state = st := by
  rw [show (s.flagsOf st).testBit c.val = _ from channelMask_testBit (fun c => (s.chan c).state = st) c, decide_eq_true_eq]

/-- R194, R196: the number the status summary sends, the digest's place apart. -/
theorem statusReport_bits (s : State) : ∃ low, low < 128 ∧
    low % 16 = (s.digest.map NoticeKind.priority).getD 15 ∧ low / 16 % 4 = s.wallState.code ∧
    (low / 64 % 2 = 1 ↔ s.line.alignment = .flywheel) ∧
    (statusReport s).bits = BitVec.ofNat 24 (2 ^ 7 * (2 ^ 8 * s.flagsOf .faulted + s.flagsOf .running) + low) := by
  have digest : (s.digest.map NoticeKind.priority).getD 15 < 16 := by
    cases s.digest with
    | none => decide
    | some k => show k.priority < 16; cases k <;> decide
  have wall : s.wallState.code < 3 := by cases s.wallState <;> decide
  have flywheel : boolCode (decide (s.line.alignment = .flywheel)) < 2 ∧
      (boolCode (decide (s.line.alignment = .flywheel)) = 1 ↔ s.line.alignment = .flywheel) := by
    by_cases h : s.line.alignment = .flywheel <;> simp [boolCode, h]
  obtain ⟨flag, flies⟩ := flywheel
  refine ⟨(s.digest.map NoticeKind.priority).getD 15 + 16 * s.wallState.code +
    64 * boolCode (decide (s.line.alignment = .flywheel)), by omega, by omega, by omega, ?_, ?_⟩
  · refine Iff.trans ?_ flies; omega
  · refine (mkReport_nat 0).trans (congrArg (BitVec.ofNat 24) ?_)
    omega

theorem statusReport_layout (s : State) (c : Chan) :
    let v := statusReport s
    v.marker = 0#2 ∧ (v.bits.extractLsb' 0 4).toNat = (s.digest.map NoticeKind.priority).getD 15 ∧
      (v.bits.extractLsb' 4 2).toNat = s.wallState.code ∧ (v.bits.getLsbD 6 = true ↔ s.line.alignment = .flywheel) ∧
      (v.bits.getLsbD (7 + c.val) = true ↔ (s.chan c).state = .running) ∧
      (v.bits.getLsbD (15 + c.val) = true ↔ (s.chan c).state = .faulted) := by
  intro v
  obtain ⟨low, small, digest, wall, flywheel, bits⟩ := statusReport_bits s
  have running := flagsOf_lt s .running
  have faulted := flagsOf_lt s .faulted
  have within : 2 ^ 7 * (2 ^ 8 * s.flagsOf .faulted + s.flagsOf .running) + low < 2 ^ 24 := by omega
  have flag (i : Nat) (hi : 7 + i < 24) : v.bits.getLsbD (7 + i) = (2 ^ 8 * s.flagsOf .faulted + s.flagsOf .running).testBit i := by
    rw [show v.bits = _ from bits, BitVec.getLsbD, BitVec.toNat_ofNat, Nat.mod_eq_of_lt within,
      Nat.testBit_two_pow_mul_add _ (by omega), if_neg (by omega), Nat.add_sub_cancel_left]
  refine ⟨rfl, ?_, ?_, ?_, ?_, ?_⟩
  · rw [show v.bits = _ from bits, extractLsb'_ofNat within, ← digest]; omega
  · rw [show v.bits = _ from bits, extractLsb'_ofNat within, ← wall]; omega
  · rw [show v.bits = _ from bits, getLsbD_ofNat within, ← flywheel]; omega
  · rw [flag c.val (by omega), Nat.testBit_two_pow_mul_add _ running, if_pos c.isLt]
    exact flagsOf_testBit s .running c
  · rw [show 15 + c.val = 7 + (8 + c.val) by omega, flag _ (by omega), Nat.testBit_two_pow_mul_add _ running,
      if_neg (by omega), Nat.add_sub_cancel_left]
    exact flagsOf_testBit s .faulted c

theorem reportItemLayouts : ReportItemLayouts := by
  intro s c p w ch from_
  have kind : stepKindCode s c = match s.currentStep c with
      | some st => st.body.kind
      | none => 15 := by
    unfold stepKindCode
    cases s.currentStep c <;> rfl
  have holder : ((s.arb p).state.holder.map Fin.val).getD 15 = match (s.arb p).state.holder with
      | some d => d.val
      | none => 15 := by
    cases (s.arb p).state.holder <;> rfl
  have digest : (s.digest.map NoticeKind.priority).getD 15 = match s.digest with
      | some k => k.priority
      | none => 15 := by
    cases s.digest <;> rfl
  have status := statusReport_layout s c
  rw [digest] at status
  refine ⟨inputReport_is s _, inputReport_is s _, inputReport_is s _, inputReport_is s _, inputReport_is s _,
    ⟨rfl, ?_⟩, ⟨rfl, rfl⟩, ⟨rfl, rfl⟩, ⟨rfl, rfl⟩, fun x => groutReport_active, fun idle => ⟨fun n hn => ?_, fun none => ?_⟩,
    fun x => payoutReport_active, payoutReport_idle, fun index => ?_, fun queue => ?_, pointStateReport_layout _, status⟩
  · exact congrArg (BitVec.ofInt 24) (Int.natCast_ediv _ _)
  · show ReportIs (groutReport ch) 2 n
    rw [groutReport_idle idle, hn]
    exact ⟨rfl, rfl⟩
  · show ReportIs (groutReport ch) 0 0
    rw [groutReport_idle idle, none]
    exact ⟨rfl, rfl⟩
  · have layout := chanStateReport_layout s c index
    rwa [kind] at layout
  · have layout := pumpStateReport_layout (s.arb p) queue
    rwa [holder] at layout

end Sys2Proof.Machine.Laws
end

section
/-! PROOFS. The parts of a closed record (R184, R198). -/

namespace Sys2Proof.Machine.Laws

/-! ### Bytes and optional fields -/

/-- R196: a field of one byte. -/
theorem fieldsBytes_byte (n : Nat) (fs : List Field) : fieldsBytes (fNat 1 n :: fs) = BitVec.ofNat 8 n :: fieldsBytes fs := by
  have byte : (fNat 1 n).bytes = [BitVec.ofNat 8 n] := by
    have value : (((n : Int) % (256 : Int) ^ 1).toNat) = n % 256 := by omega
    show natBytes 1 ((n : Int) % (256 : Int) ^ 1).toNat = _
    rw [value, natBytes, natBytes, Nat.pow_zero, Nat.div_one]
    exact congrArg (· :: []) (BitVec.eq_of_toNat_eq (by simp))
  rw [fieldsBytes_cons, byte]
  rfl

theorem natAt_past_fOpt {w off k : Nat} {o : Option Nat} {fs : List Field} (h : w ≤ off) :
    natAt (fieldsBytes (fOpt w o :: fs)) off k = natAt (fieldsBytes fs) (off - w) k := natAt_later h

/-- R197: an absent field is all ones. -/
theorem natAt_fOpt_two {o : Option Nat} (fs : List Field) (h : o.getD 0 ≤ 40000) :
    natAt (fieldsBytes (fOpt 2 o :: fs)) 0 2 = o.getD 65535 := by
  cases o with
  | none => rfl
  | some n =>
    have small : n ≤ 40000 := h
    exact natAt_fNat fs (by omega)

/-! ### The header of a part (R198) -/

/-- R198: the byte of a part's header that packs four fields. -/
def headByte (r : Record) : Nat :=
  r.partCount + 8 * r.channel.val + 64 * (r.lastIndex / 256) + 128 * boolCode r.payoutLength.isSome

theorem partHeader_bytes (r : Record) (k : Nat) (fs : List Field) : fieldsBytes (r.partHeader k ++ fs) =
    BitVec.ofNat 8 k :: BitVec.ofNat 8 (headByte r) :: BitVec.ofNat 8 (r.lastIndex % 256) :: BitVec.ofNat 8 r.holdCount ::
      fieldsBytes fs := by
  show fieldsBytes (fNat 1 k :: fNat 1 (headByte r) :: fNat 1 (r.lastIndex % 256) :: fNat 1 r.holdCount :: fs) = _
  rw [fieldsBytes_byte, fieldsBytes_byte, fieldsBytes_byte, fieldsBytes_byte]

/-- R198: what the four header bytes of a part of 28 bytes carry. -/
def Headed (r : Record) (k : Nat) (bs : List Byte) : Prop :=
  bs.length = 28 ∧ natAt bs 0 1 = k ∧ ((bs.getD 1 0#8).extractLsb' 0 3).toNat = 1 + r.holds.length ∧
    ((bs.getD 1 0#8).extractLsb' 3 3).toNat = r.channel.val ∧ ((bs.getD 1 0#8).getLsbD 6 = true ↔ r.lastIndex = 256) ∧
    ((bs.getD 1 0#8).getLsbD 7 = true ↔ r.payoutLength ≠ none) ∧ natAt bs 2 1 = r.lastIndex % 256 ∧
    natAt bs 3 1 = r.holdCount

theorem headed_partHeader {r : Record} {k : Nat} {fs : List Field} (hk : k ≤ 3) (holds : r.holds.length ≤ 3)
    (index : r.lastIndex ≤ 256) (count : r.holdCount ≤ 255) (length : (fieldsBytes fs).length = 24) :
    Headed r k (fieldsBytes (r.partHeader k ++ fs)) := by
  have payout : boolCode r.payoutLength.isSome < 2 ∧ (boolCode r.payoutLength.isSome = 1 ↔ r.payoutLength ≠ none) := by
    cases r.payoutLength <;> simp [boolCode]
  obtain ⟨flag, paid⟩ := payout
  have channel : r.channel.val < 8 := r.channel.isLt
  have head : headByte r = 1 + r.holds.length + 8 * r.channel.val + 64 * (r.lastIndex / 256) +
      128 * boolCode r.payoutLength.isSome := rfl
  have small : headByte r < 2 ^ 8 := by omega
  have fields : r.partHeader k ++ fs =
      fNat 1 k :: fNat 1 (headByte r) :: fNat 1 (r.lastIndex % 256) :: fNat 1 r.holdCount :: fs := rfl
  have second : (fieldsBytes (r.partHeader k ++ fs)).getD 1 0#8 = BitVec.ofNat 8 (headByte r) := by
    rw [partHeader_bytes]; rfl
  refine ⟨by rw [partHeader_bytes]; simp [length], ?_, ?_, ?_, ?_, ?_, ?_, ?_⟩
  · rw [fields]; exact natAt_fNat _ (by omega)
  · rw [second, extractLsb'_ofNat small]; omega
  · rw [second, extractLsb'_ofNat small]; omega
  · rw [second, getLsbD_ofNat small]; omega
  · rw [second, getLsbD_ofNat small, ← paid]; omega
  · rw [fields]
    simp (disch := omega) only [natAt_past_fNat, natAt_fNat, Nat.reduceSub, Nat.sub_self]
  · rw [fields]
    simp (disch := omega) only [natAt_past_fNat, natAt_fNat, Nat.reduceSub, Nat.sub_self]

/-! ### Part 0 (R198) -/

/-- R198: the byte of part 0 that packs the outcome, the fault and the grout bits. -/
def outcomeByte (r : Record) : Nat :=
  (r.outcome.map RunOutcome.code).getD 3 + 4 * (r.fault.map FaultCause.code).getD 15 + 64 * r.groutBits

theorem part0_fields {r : Record} {n : Nat} (ended : r.endCount = some n) : r.part0 =
    [fNat 1 (outcomeByte r), fNat 2 r.tag, fNat 4 r.startCount, fNat 4 n, fNat 2 r.peakLoad, fOpt 2 r.lockoffLoad,
      fOpt 2 r.residualLoad, fNat 3 (r.groutVolume.getD 0), fNat 2 (r.payoutLength.getD 0), fNat 1 r.failedChecks,
      fNat 1 r.overrides] := by
  rw [Record.part0, ended]
  rfl

theorem groutBits_eq (r : Record) : r.groutBits = match r.groutVolume, r.groutEnd with
    | none, _ => 0
    | some _, none => 1
    | some _, some .volume => 2
    | some _, some .refusal => 3 := by
  unfold Record.groutBits
  rcases r.groutVolume with _ | _
  · rfl
  · rcases r.groutEnd with _ | _ | _ <;> rfl

theorem outcomeByte_layout {r : Record} {o : RunOutcome} (closed : r.outcome = some o) :
    ((BitVec.ofNat 8 (outcomeByte r)).extractLsb' 0 2).toNat = o.code ∧
      ((BitVec.ofNat 8 (outcomeByte r)).extractLsb' 2 4).toNat = (match r.fault with
        | some f => f.code
        | none => 15) ∧
      ((BitVec.ofNat 8 (outcomeByte r)).extractLsb' 6 2).toNat = r.groutBits := by
  have fault : (r.fault.map FaultCause.code).getD 15 = match r.fault with
      | some f => f.code
      | none => 15 := by
    cases r.fault <;> rfl
  have faultSmall : (r.fault.map FaultCause.code).getD 15 < 16 := by
    cases r.fault with
    | none => decide
    | some f => show f.code < 16; cases f <;> decide
  have grout : r.groutBits < 4 := by
    unfold Record.groutBits
    split <;> decide
  have outcome : o.code < 3 := by cases o <;> decide
  have packed : outcomeByte r = o.code + 4 * (r.fault.map FaultCause.code).getD 15 + 64 * r.groutBits := by
    rw [outcomeByte, closed]; rfl
  have small : outcomeByte r < 2 ^ 8 := by omega
  rw [← fault]
  refine ⟨?_, ?_, ?_⟩
  iterate 3 rw [extractLsb'_ofNat small]; omega

/-! ### A hold result's part (R198) -/

/-- R198: the byte of a hold result that packs the verdict, its flags and the number of marks. -/
def verdictByte (h : HoldResult) : Nat :=
  h.verdict.code + 4 * boolCode h.ks.isSome + 8 * boolCode h.drift + 16 * h.marks.length

/-- R198: the value of a mark, 0 where it is absent. -/
def markValue (h : HoldResult) (i : Nat) : Nat := (h.marks.getD i none).getD 0

theorem holdResult_fields (h : HoldResult) : h.fields =
    [fNat 1 (verdictByte h), fNat 1 (maskOf (h.marks.map Option.isSome)), fNat 1 h.interrupted, fInt 3 (h.ks.getD 0),
      fNat 2 (markValue h 0), fNat 2 (markValue h 1), fNat 2 (markValue h 2), fNat 2 (markValue h 3),
      fNat 2 (markValue h 4), fNat 2 (markValue h 5), fNat 1 0, fNat 1 0, fNat 1 0, fNat 1 0, fNat 1 0, fNat 1 0] := rfl

theorem verdictByte_layout {h : HoldResult} (marks : h.marks.length ≤ 6) :
    ((BitVec.ofNat 8 (verdictByte h)).extractLsb' 0 2).toNat = h.verdict.code ∧
      ((BitVec.ofNat 8 (verdictByte h)).getLsbD 2 = true ↔ h.ks ≠ none) ∧
      ((BitVec.ofNat 8 (verdictByte h)).getLsbD 3 = true ↔ h.drift = true) ∧
      ((BitVec.ofNat 8 (verdictByte h)).extractLsb' 4 3).toNat = h.marks.length := by
  have verdict : h.verdict.code < 3 := by cases h.verdict <;> decide
  have creep : boolCode h.ks.isSome < 2 ∧ (boolCode h.ks.isSome = 1 ↔ h.ks ≠ none) := by cases h.ks <;> simp [boolCode]
  have drift : boolCode h.drift < 2 ∧ (boolCode h.drift = 1 ↔ h.drift = true) := by cases h.drift <;> simp [boolCode]
  obtain ⟨creepFlag, crept⟩ := creep
  obtain ⟨driftFlag, drifted⟩ := drift
  have packed : verdictByte h =
      h.verdict.code + 4 * boolCode h.ks.isSome + 8 * boolCode h.drift + 16 * h.marks.length := rfl
  have small : verdictByte h < 2 ^ 8 := by omega
  refine ⟨?_, ?_, ?_, ?_⟩
  · rw [extractLsb'_ofNat small]; omega
  · rw [getLsbD_ofNat small, ← crept]; omega
  · rw [getLsbD_ofNat small, ← drifted]; omega
  · rw [extractLsb'_ofNat small]; omega

/-- R198: the mask of the marks that have a value. -/
theorem marksMask_getLsbD {h : HoldResult} (marks : h.marks.length ≤ 6) (i : Nat) :
    (BitVec.ofNat 8 (maskOf (h.marks.map Option.isSome))).getLsbD i = true ↔ ∃ x, h.marks[i]? = some (some x) := by
  have small : maskOf (h.marks.map Option.isSome) < 2 ^ 8 :=
    Nat.lt_of_lt_of_le (maskOf_lt _) (Nat.pow_le_pow_right (by decide) (by simp; omega))
  rw [BitVec.getLsbD, BitVec.toNat_ofNat, Nat.mod_eq_of_lt small, maskOf_testBit, List.getD_eq_getElem?_getD,
    List.getElem?_map]
  rcases h.marks[i]? with _ | _ | x <;> simp

theorem markValue_le {h : HoldResult} (values : ∀ m ∈ h.marks, m.getD 0 ≤ 65535) (i : Nat) : markValue h i < 256 ^ 2 := by
  unfold markValue
  rcases Nat.lt_or_ge i h.marks.length with inside | outside
  · rw [List.getD_eq_getElem _ _ inside]
    exact Nat.lt_succ_of_le (values _ (List.getElem_mem inside))
  · rw [List.getD_eq_default _ _ outside]; decide

theorem markValue_eq (h : HoldResult) (i : Nat) : markValue h i = match h.marks[i]? with
    | some (some x) => x
    | _ => 0 := by
  unfold markValue
  rw [List.getD_eq_getElem?_getD]
  rcases h.marks[i]? with _ | _ | x <;> rfl

theorem recordPartLayout : RecordPartLayout := by
  intro r k hk holds index count headed
  have heads {fs : List Field} (length : (fieldsBytes fs).length = 24) : headed (fieldsBytes (r.partHeader k ++ fs)) :=
    headed_partHeader hk holds index count length
  refine ⟨fun o n closed ended tag start finish peak lockoff residual grout payout failed overrides => ?_,
    fun h marks interrupted low high values => ?_⟩
  · intro bs b
    have fields := part0_fields ended
    have whole : bs = fieldsBytes (fNat 1 k :: fNat 1 (headByte r) :: fNat 1 (r.lastIndex % 256) :: fNat 1 r.holdCount ::
      r.part0) := rfl
    have byte : b = BitVec.ofNat 8 (outcomeByte r) := by
      show bs.getD 4 0#8 = _
      rw [show bs = _ from partHeader_bytes r k r.part0, fields, fieldsBytes_byte]; rfl
    obtain ⟨outcome, fault, bits⟩ := outcomeByte_layout closed
    rw [byte]
    refine ⟨heads (by rw [fields, fieldsBytes_length]; rfl), outcome, fault,
      bits.trans (groutBits_eq r), ?_⟩
    rw [whole, fields]
    refine ⟨?_, ?_, ?_, ?_, ?_, ?_, ?_, ?_, ?_, ?_⟩
    all_goals simp (disch := omega) only [natAt_past_fNat, natAt_past_fOpt, natAt_fNat, natAt_fOpt_two, Nat.reduceSub,
      Nat.sub_self]
  · intro bs b
    have fields := holdResult_fields h
    have whole : bs = fieldsBytes (fNat 1 k :: fNat 1 (headByte r) :: fNat 1 (r.lastIndex % 256) :: fNat 1 r.holdCount ::
      h.fields) := rfl
    have byte : b = BitVec.ofNat 8 (verdictByte h) := by
      show bs.getD 4 0#8 = _
      rw [show bs = _ from partHeader_bytes r k h.fields, fields, fieldsBytes_byte]; rfl
    have mask : bs.getD 5 0#8 = BitVec.ofNat 8 (maskOf (h.marks.map Option.isSome)) := by
      rw [show bs = _ from partHeader_bytes r k h.fields, fields, fieldsBytes_byte, fieldsBytes_byte]; rfl
    obtain ⟨verdict, creep, drift, number⟩ := verdictByte_layout marks
    rw [byte, mask]
    refine ⟨heads (by rw [fields, fieldsBytes_length]; rfl), verdict, creep, drift, number,
      fun i _ => marksMask_getLsbD marks i, ?_, ?_, fun i hi => ?_, fun i first last => ?_⟩
    · rw [whole, fields]
      simp (disch := omega) only [natAt_past_fNat, natAt_fNat, Nat.reduceSub, Nat.sub_self]
    · rw [whole, fields]
      simp (disch := omega) only [intAt_past_fNat, intAt_fInt, Nat.reduceSub, Nat.sub_self]
    · refine Eq.trans ?_ (markValue_eq h i)
      rw [whole, fields]
      have value := markValue_le values
      interval_cases i <;> simp (disch := omega) only [natAt_past_fNat, natAt_past_fInt, natAt_fNat _ (value _),
        Nat.reduceMul, Nat.reduceAdd, Nat.reduceSub, Nat.sub_self]
    · have zeros : bs.drop 22 = List.replicate 6 0#8 := by
        rw [whole, fields]
        iterate 14 rw [drop_fields (by simp)]
        rfl
      rw [← Nat.add_sub_cancel' first, ← List.getElem?_drop, zeros]
      exact List.getElem?_replicate_of_lt (by omega)

/-- Settles O51: the slots, the report items, the codes, the replies and the parts of a record. -/
theorem layoutsPlaceEveryField : Obligations.LayoutsPlaceEveryField :=
  ⟨writtenSlotLayouts, reportItemLayouts, enumerationCodes, replyLayout, recordPartLayout⟩

end Sys2Proof.Machine.Laws
end
